-- ==== Sys2Proof/Word.lean ====
section
/-! DEFINITION. The word types of the EN2564 (R12, R13) and the numbering of its objects (R24, R49, R85). -/

namespace Sys2Proof

/-- A register or window word (R13). -/
abbrev Word := BitVec 32

/-- A byte. -/
abbrev Byte := BitVec 8

/-- A slice S0-S3. -/
abbrev Slice := Fin 4

/-- An Ethernet port, numbered by its first lane (R49), or a lane. -/
abbrev Port := Fin 256

/-- A port macro PM0-PM31. -/
abbrev Macro := Fin 32

/-- A `w` register number. -/
abbrev Reg := Fin 16

/-- The sixteen blocks of R18. -/
inductive Block where
  | egv | knl | prt | pup | pcl | rwr | fwd | asa | swc | bpm | dtc | tmg | tsu | kce | hif | flt
  deriving DecidableEq, Repr, Inhabited

/-- A block instance: the block and the INST field of its address (R24, R27); INST 15 is the broadcast. -/
structure InstId where
  block : Block
  inst : Fin 16
  deriving DecidableEq, Repr, Inhabited

/-- A context of a pup (R85): pups 0-383 are packet pups with 8 contexts, pups 384-387 housekeeping pups with
one (context 0). -/
structure CtxId where
  slice : Slice
  pup : Fin 388
  ctx : Fin 8
  deriving DecidableEq, Repr, Inhabited

/-- A directed fabric link (R20). -/
structure Link where
  src : Slice
  dst : Slice
  deriving DecidableEq, Repr, Inhabited

/-- The target of a shared-pool configuration write (R275). -/
inductive PoolField where
  | ingRsv
  | puntRsv
  | guar (pc : Fin 512)
  | tguar (tid : Fin 256)
  deriving DecidableEq, Repr, Inhabited

/-- A location in the deep tier as DTC_ECCPAGE and DTC_ECCROW report it (R328, R338). -/
structure DeepLoc where
  dev : BitVec 5
  page : BitVec 27
  prank : BitVec 3
  lrank : BitVec 3
  bg : BitVec 3
  bank : BitVec 2
  row : BitVec 18
  deriving DecidableEq, Repr, Inhabited

/-- A configuration request of the root complex (R471-R473, R510): a read of a property the spec states, a write of the
MSI-X enable and function mask or of a vector's mask, or a request for anything else. -/
inductive CfgReq where
  | totalVfs | firstVfOffset | vfStride
  | barBytes (n : Fin 6)
  | bar64 (n : Fin 6)
  | barPrefetch (n : Fin 6)
  | msixVectors
  | maxPayload | maxReadRequest
  | hasAri | hasAer | hasFlr | hasAts | hasPri | hasPasid
  | msixControl (enable mask : Bool)
  | msixVectorMask (v : Fin 64) (mask : Bool)
  | other
  deriving DecidableEq, Repr, Inhabited

/-- What the reads of a frame's packet SRAM cells found (R274): nothing, a corrected bit, a double-bit error in cell data, or
one in the link word of a cell, by its place in the frame. -/
inductive SramRead where
  | clean
  | corrected
  | badData
  | badLink (cell : Fin 64)
  deriving DecidableEq, Repr, Inhabited

/-- What a memory read with an error-correcting code found (R243, R328). -/
inductive Ecc where
  | clean
  | corrected
  | uncorrectable
  deriving DecidableEq, Repr, Inhabited

end Sys2Proof
end

