-- ==== Sys2Proof/Syntax.lean ====
section
/-! DEFINITION. The commands of the block: one constructor per row of spec/opcode_table.json, in the table's order.
A command names what the row's sentence names: a port, a slice, a context and the operand fields of its microword
(R93), a register address and a value, the bytes a link partner or a DMA read delivers, or what a measurement of the
analog parts found. -/

namespace Sys2Proof

inductive Instr where
  -- register access and indirect windows (R27-R40)
  | registerWrite (fn : Fin 257) (addr : BitVec 28) (v : Word)
  | readClear (fn : Fin 257) (addr : BitVec 28)
  | heldAccessPerform
  | wselWrite (i : InstId) (v : Word)
  | waddrWrite (i : InstId) (v : Word)
  | wdataRead (i : InstId)
  | wdataWrite (i : InstId) (v : Word)
  -- port complex (R49-R84, R578, R579)
  | pllLock (m : Macro) (pllB : Bool)
  | pllLockLoss (m : Macro) (pllB : Bool)
  | portEnable (p : Port) (v : Word)
  | portDisable (p : Port) (v : Word)
  | signalDetect (p : Port)
  | anComplete (p : Port)
  | trainingComplete (p : Port)
  | trainingTimeout (p : Port)
  | lockAchieved (p : Port)
  | lockTimeout (p : Port)
  | alignComplete (p : Port)
  | alignTimeout (p : Port)
  | calComplete (p : Port) (rx tx : BitVec 16)
  | lossOfSignal (lane : Port)
  | faultSequenceStart (p : Port) (remote : Bool)
  | faultSequenceEnd (p : Port)
  | fecCodeword (p : Port) (errs : Nat)
  | fecDegWindowEnd (p : Port)
  | frameReceiveStart (p : Port) (bytes : List Byte)
  | frameReceiveEnd (p : Port) (bytes : List Byte) (pcsErr : Bool)
  | absorptionRelease (p : Port) (parErr : Bool)
  | absrateWindowEnd (m : Macro)
  | frameSplit (p : Port)
  | lpiTxEntry (p : Port)
  | lpiRxEntry (p : Port)
  | lpiRxExit (p : Port)
  | shedTimerExpiry (p : Port)
  | frameTransmitStart (p : Port) (read : SramRead)
  | frameTransmitEnd (p : Port)
  -- pup array and assignment (R85-R141, R177-R183)
  | packetAssign (sl : Slice)
  | packetRestart (sl : Slice)
  | watchdogExpiry (x : CtxId)
  | hkWatchdogExpiry (x : CtxId)
  | lookupResult (x : CtxId) (tag : Fin 4) (busError : Bool)
  | lookupTimeout (x : CtxId) (tag : Fin 4)
  | storeRepairComplete (sl : Slice)
  | pupScrubCheck (sl : Slice) (nano : Bool) (idx : Fin 16384)
  | ebankWrite (inst : Fin 16) (v : Word)
  | runWrite (inst : Fin 16) (v : Word)
  | parityInjectNw (inst : Fin 16) (v : Word)
  | parityInjectMw (inst : Fin 16) (v : Word)
  | hkRoutineResume (sl : Slice) (pup : Fin 4) (forced : Bool)
  -- Zenrex: move and ALU (R148-R151)
  | nop (x : CtxId)
  | mov (x : CtxId) (d a : Reg)
  | add (x : CtxId) (d a b : Reg)
  | sub (x : CtxId) (d a b : Reg)
  | and (x : CtxId) (d a b : Reg)
  | or (x : CtxId) (d a b : Reg)
  | xor (x : CtxId) (d a b : Reg)
  | andn (x : CtxId) (d a b : Reg)
  | shl (x : CtxId) (d a b : Reg)
  | shr (x : CtxId) (d a b : Reg)
  | sar (x : CtxId) (d a b : Reg)
  | rol (x : CtxId) (d a b : Reg)
  | minu (x : CtxId) (d a b : Reg)
  | maxu (x : CtxId) (d a b : Reg)
  | adc (x : CtxId) (d a b : Reg)
  | sbc (x : CtxId) (d a b : Reg)
  | tst (x : CtxId) (a : Reg)
  | cmpf (x : CtxId) (a b : Reg)
  | movi (x : CtxId) (d : Reg) (i : BitVec 12)
  | addi (x : CtxId) (d a : Reg) (i : BitVec 12)
  | subi (x : CtxId) (d a : Reg) (i : BitVec 12)
  | andi (x : CtxId) (d a : Reg) (i : BitVec 12)
  | ori (x : CtxId) (d a : Reg) (i : BitVec 12)
  | xori (x : CtxId) (d a : Reg) (i : BitVec 12)
  | shli (x : CtxId) (d a : Reg) (i : BitVec 12)
  | shri (x : CtxId) (d a : Reg) (i : BitVec 12)
  | sari (x : CtxId) (d a : Reg) (i : BitVec 12)
  | roli (x : CtxId) (d a : Reg) (i : BitVec 12)
  | minui (x : CtxId) (d a : Reg) (i : BitVec 12)
  | maxui (x : CtxId) (d a : Reg) (i : BitVec 12)
  | addsi (x : CtxId) (d a : Reg) (i : BitVec 12)
  | cmpfi (x : CtxId) (a : Reg) (i : BitVec 12)
  | sethp (x : CtxId) (a : Reg) (i : BitVec 12)
  | sethpi (x : CtxId) (i : BitVec 12)
  | movw (x : CtxId) (d : Reg) (i : BitVec 16)
  | orh (x : CtxId) (d : Reg) (i : BitVec 16)
  | addw (x : CtxId) (d : Reg) (i : BitVec 16)
  | movk (x : CtxId) (k lane : Fin 4) (a : Reg)
  -- Zenrex: extract and deposit (R152-R156)
  | ext8 (x : CtxId) (d : Reg) (off : BitVec 8)
  | ext16 (x : CtxId) (d : Reg) (off : BitVec 8)
  | ext24 (x : CtxId) (d : Reg) (off : BitVec 8)
  | ext32 (x : CtxId) (d : Reg) (off : BitVec 8)
  | extnh (x : CtxId) (d : Reg) (off : BitVec 8)
  | extnl (x : CtxId) (d : Reg) (off : BitVec 8)
  | ext12 (x : CtxId) (d : Reg) (off : BitVec 8)
  | ext3 (x : CtxId) (d : Reg) (off : BitVec 8)
  | ext20 (x : CtxId) (d : Reg) (off : BitVec 8)
  | ext6 (x : CtxId) (d : Reg) (off : BitVec 8)
  | ext13 (x : CtxId) (d : Reg) (off : BitVec 8)
  | extr8 (x : CtxId) (d a : Reg)
  | extr16 (x : CtxId) (d a : Reg)
  | extr32 (x : CtxId) (d a : Reg)
  | xmd8 (x : CtxId) (d : Reg) (off : BitVec 8)
  | xmd16 (x : CtxId) (d : Reg) (off : BitVec 8)
  | xmd32 (x : CtxId) (d : Reg) (off : BitVec 8)
  | xk32 (x : CtxId) (k : Fin 4) (d : Reg) (off : BitVec 8)
  | xtk32 (x : CtxId) (k lane : Fin 4) (off : BitVec 8)
  | xtk16 (x : CtxId) (k lane : Fin 4) (off : BitVec 8)
  | dep8 (x : CtxId) (a : Reg)
  | dep16 (x : CtxId) (a : Reg)
  | dep32 (x : CtxId) (a : Reg)
  -- Zenrex: compare and range (R157, R158)
  | cmpEq (x : CtxId) (a b : Reg)
  | cmpNe (x : CtxId) (a b : Reg)
  | cmpLtu (x : CtxId) (a b : Reg)
  | cmpLeu (x : CtxId) (a b : Reg)
  | cmpGtu (x : CtxId) (a b : Reg)
  | cmpGeu (x : CtxId) (a b : Reg)
  | cmpLt (x : CtxId) (a b : Reg)
  | cmpLe (x : CtxId) (a b : Reg)
  | cmpGt (x : CtxId) (a b : Reg)
  | cmpGe (x : CtxId) (a b : Reg)
  | cmpAny (x : CtxId) (a b : Reg)
  | cmpAll (x : CtxId) (a b : Reg)
  | cmpiEq (x : CtxId) (a : Reg) (i : BitVec 12)
  | cmpiNe (x : CtxId) (a : Reg) (i : BitVec 12)
  | cmpiLtu (x : CtxId) (a : Reg) (i : BitVec 12)
  | cmpiLeu (x : CtxId) (a : Reg) (i : BitVec 12)
  | cmpiGtu (x : CtxId) (a : Reg) (i : BitVec 12)
  | cmpiGeu (x : CtxId) (a : Reg) (i : BitVec 12)
  | cmpiLt (x : CtxId) (a : Reg) (i : BitVec 12)
  | cmpiLe (x : CtxId) (a : Reg) (i : BitVec 12)
  | cmpiGt (x : CtxId) (a : Reg) (i : BitVec 12)
  | cmpiGe (x : CtxId) (a : Reg) (i : BitVec 12)
  | cmpiAny (x : CtxId) (a : Reg) (i : BitVec 12)
  | cmpiAll (x : CtxId) (a : Reg) (i : BitVec 12)
  | rng (x : CtxId) (p : Fin 64) (d a : Reg)
  -- Zenrex: branch, loop and WAIT (R159, R116)
  | br (x : CtxId) (tgt : BitVec 14)
  | bz (x : CtxId) (tgt : BitVec 14)
  | bnz (x : CtxId) (tgt : BitVec 14)
  | bc (x : CtxId) (tgt : BitVec 14)
  | bnc (x : CtxId) (tgt : BitVec 14)
  | bn (x : CtxId) (tgt : BitVec 14)
  | bnn (x : CtxId) (tgt : BitVec 14)
  | bv (x : CtxId) (tgt : BitVec 14)
  | bnv (x : CtxId) (tgt : BitVec 14)
  | blt (x : CtxId) (tgt : BitVec 14)
  | bge (x : CtxId) (tgt : BitVec 14)
  | bhi (x : CtxId) (tgt : BitVec 14)
  | bls (x : CtxId) (tgt : BitVec 14)
  | jr (x : CtxId) (n : Reg)
  | loop (x : CtxId) (count : BitVec 14) (aux : BitVec 6)
  | loopr (x : CtxId) (n : Reg) (aux : BitVec 6)
  | wait (x : CtxId) (mask : BitVec 4)
  -- Zenrex: lookups, meter, counter, sample, searches (R160-R164)
  | lpm4 (x : CtxId) (d a : Reg)
  | lpm6 (x : CtxId) (k : Fin 4) (d : Reg)
  | lbl (x : CtxId) (d a : Reg)
  | nh (x : CtxId) (d a : Reg)
  | sess (x : CtxId) (d a : Reg)
  | pvlan (x : CtxId) (d a : Reg)
  | bd (x : CtxId) (d a : Reg)
  | l2 (x : CtxId) (d a : Reg)
  | meter (x : CtxId) (d a : Reg)
  | count (x : CtxId) (d a : Reg)
  | sample (x : CtxId) (d a : Reg)
  | srch160 (x : CtxId) (p : Reg) (d a : Reg)
  | srch320 (x : CtxId) (p : Reg) (d a : Reg)
  | srch640 (x : CtxId) (p : Reg) (d a : Reg)
  -- Zenrex: descriptor and metadata, MODE, COMMIT, END (R165-R168)
  | rdst1 (x : CtxId) (d : Reg) (off : BitVec 8)
  | rdst2 (x : CtxId) (d : Reg) (off : BitVec 8)
  | rdst4 (x : CtxId) (d : Reg) (off : BitVec 8)
  | rdst8 (x : CtxId) (d : Reg) (off : BitVec 8)
  | rdsti1 (x : CtxId) (off : BitVec 8) (i : BitVec 8)
  | setcol (x : CtxId) (a : Reg)
  | setdp (x : CtxId) (a : Reg)
  | setusr (x : CtxId) (n : Fin 4) (a : Reg)
  | setcoli (x : CtxId) (i : BitVec 12)
  | setdpi (x : CtxId) (i : BitVec 12)
  | mode (x : CtxId) (i : BitVec 12)
  | moder (x : CtxId) (a : Reg) (i : BitVec 12)
  | commit (x : CtxId)
  | end_ (x : CtxId)
  | cmtend (x : CtxId)
  | drop (x : CtxId)
  -- Zenrex: privileged (R170-R172)
  | trd (x : CtxId) (t : Fin 8) (d a : Reg)
  | trd2 (x : CtxId) (t : Fin 8) (d a : Reg)
  | twr (x : CtxId) (t : Fin 8) (d a : Reg)
  | twr2 (x : CtxId) (t : Fin 8) (d a : Reg)
  | safe (x : CtxId)
  | yield (x : CtxId)
  | customerNanoword (x : CtxId) (mw : Word)
  -- reorder buffer (R181, R182)
  | descriptorRelease (sl : Slice) (lp : Fin 64)
  | robTimeout (sl : Slice) (lp : Fin 64)
  -- forwarding tables, learning, associative search (R207-R250)
  | routeAdd4 (sl : Slice) (a0 a1 a2 : Word)
  | routeDel4 (sl : Slice) (a0 a1 : Word)
  | routeAdd6 (sl : Slice) (a0 a1 a2 a3 a4 a5 : Word)
  | routeDel6 (sl : Slice) (a0 a1 a2 a3 a4 : Word)
  | l2Insert (sl : Slice) (a0 a1 a2 a3 : Word)
  | l2Delete (sl : Slice) (a0 a1 : Word)
  | l2Agedel (sl : Slice) (a0 : Word)
  | fwdOpComplete (sl : Slice)
  | trieNodeFree (sl : Slice)
  | l2RefreshWrite (sl : Slice)
  | pendingFilterExpiry (sl : Slice)
  | learnQueueToFifo (sl : Slice)
  | ageClockTick (sl : Slice)
  | asaPartitionWrite (inst : Fin 16) (part : Fin 32) (v : Word)
  | asaRowRewrite (sl : Slice)
  | asaScrubRow (sl : Slice) (row : Fin 65536) (shadow : Ecc)
  -- rewrite and the integrity chain (R251-R272)
  | frameRewrite (sl : Slice) (read : SramRead)
  | configSignatureRecompute (i : InstId)
  -- switch core and buffer pools (R273-R304)
  | descriptorResolve (sl : Slice) (parErr : Bool)
  | headerCaptureWrite (read : SramRead)
  | copyAdmit (sl : Slice)
  | fabricCellCross (l : Link) (read : SramRead)
  | fabricCellReceive (l : Link) (crcOk : Bool)
  | fabricRetrainComplete (l : Link) (ok : Bool)
  | copySpill (sl : Slice) (read : SramRead)
  | spillWriteComplete (sl : Slice)
  | drainReadback (sl : Slice) (q : Fin 524288)
  | drainReadComplete (sl : Slice) (ecc : Ecc) (block : Fin 256) (dev : BitVec 5)
  | sharedPoolConfigWrite (inst : Fin 16) (f : PoolField) (v : Word)
  | hrcfgEnable (v : Word)
  | retrieverSweepEnd (sl : Slice)
  | puntDeliver (read : SramRead)
  | freeDescriptorPrefetch (ring : Fin 64) (addr : BitVec 64) (cls : Fin 4)
  | injectFetch (ring : Fin 64) (desc : List Byte) (frame : List Byte)
  -- deep tier (R305-R339)
  | dimmDescribe (ch : Reg) (d : Fin 2) (v : Word)
  | trainingStart (ch : Reg) (v : Word)
  | ddrTrainingComplete (ch : Reg) (ms : BitVec 16) (fullRun : Bool) (lanes : List (BitVec 32))
  | channelEnable (ch : Reg) (v : Word)
  | channelDisable (ch : Reg) (v : Word)
  | memberWrite (ch : Reg) (v : Word)
  | bpmEnable (inst : Fin 16) (v : Word)
  | caParityAlert (ch : Reg) (persists : Bool)
  | mr4Poll (ch : Reg) (rank : Fin 8) (above85 hot : Bool)
  | refreshIssue (ch : Reg) (rank : Fin 8)
  | dramActivate (ch : Reg) (port : Fin 4) (prank lrank : Fin 8) (bg : Fin 8) (bank : Fin 4) (row : BitVec 18)
  | heelHoldExpiry (ch : Reg) (port : Fin 4)
  | heelWindowClear (ch : Reg) (rank : Fin 8)
  | deepScrubBlock (ch : Reg) (ecc : Ecc) (block : BitVec 33) (dev : BitVec 5) (last : Bool)
  | hpprRequest (ch : Reg) (v : Word)
  | hpprComplete (ch : Reg) (spare : Bool)
  | spprApply (ch : Reg) (spare : Bool)
  | rankSelfRefreshEntry (ch : Reg) (rank : Fin 8)
  | rankMpsmEntry (ch : Reg) (rank : Fin 8)
  | rankWake (ch : Reg) (rank : Fin 8)
  | compactionMove (sl : Slice) (ecc : Ecc) (block : Fin 256) (dev : BitVec 5) (drained last : Bool)
  -- traffic manager (R340-R378)
  | copyDequeue (p : Port)
  | energyRefill (sl : Slice)
  | subscriberNodeWrite (inst : Fin 16) (node : Fin 65536) (w : List Word)
  | serviceNodeWrite (inst : Fin 16) (node : Fin 4096) (w : List Word)
  | meterConfigWrite (inst : Fin 16) (m : Fin 131072) (w : List Word)
  | gateConfigWrite (inst : Fin 16) (lp : Fin 64) (entry : Option (Fin 256)) (w : List Word)
  | gateEnable (inst : Fin 16) (lp : Fin 64) (w2 : Word)
  | gateEntryChange (p : Port)
  | countRequestApply (sl : Slice)
  | queueSampleRecord (sl : Slice) (late : Bool)
  | samplerEnable (inst : Fin 16) (v : Word)
  -- energy governor (R379-R417)
  | sensorSample (sl : Slice) (idx : Fin 6) (temp : BitVec 16)
  | governorTick
  | dvfsCompute (sl : Slice)
  | levelChangeComplete (sl : Slice) (ok : Bool)
  | dozeEntry (sl : Slice)
  | napEntry (sl : Slice)
  | deepEntry (sl : Slice)
  | wakeComplete (sl : Slice)
  | hkTaskStart (sl : Slice) (task : Fin 19) (forced : Bool)
  | sprintBinUpdate
  | droopDetect (sl : Slice)
  | droopRecover (sl : Slice)
  | droopLongEnd (sl : Slice)
  | plantWindow (volts : List Int)
  | pmbAlert (asserted : Bool)
  | stageFall
  | stageForceWrite (v : Word)
  | stageThresholdWrite (k : Fin 6) (v : Word)
  | s5DrainEnd
  | s6Halt
  | s6Release
  -- time and synchronisation (R418-R447)
  | freqCommit (v : Word)
  | offsetWrite (v : Word)
  | stepWrite (v : Word)
  | timeArm (fn : Fin 257)
  | armExpiry
  | armCancel (v : Word)
  | timeLatchRead
  | toutArm (n : Fin 8) (v : Word)
  | toutPulse (n : Fin 8)
  | toutPulseEnd (n : Fin 8)
  | ppsOutPulse
  | ppsOutPulseEnd
  | tinEdge (n : Fin 5) (rising : Bool)
  | captureRead (n : Fin 5)
  | snapArm (v : Word)
  | snapCompareFire
  | recoveredClockResume (c : Fin 2)
  | ksetWrite (v : Word)
  | kennelTimeFollow
  -- keyed check engine (R448-R470)
  | keyLoad (fn : Fin 257) (blob : Option (List Byte))
  | keyLoadApply (slot : Fin 512)
  | keyClear (fn : Fin 257)
  | macGen (fn : Fin 257) (msg : Option (List Byte))
  | macVerify (fn : Fin 257) (msg : Option (List Byte))
  | kceRequestComplete (core : Fin 2) (keyPar writable : Bool)
  | messageResume (core : Fin 2)
  | kennelMarkWriteComplete (slot : Fin 512)
  | kennelMarkTimeout (slot : Fin 512)
  -- Kenune Command Channel (R471-R496)
  | commandFetch (fn : Fin 257) (cmd : List Byte)
  | commandCompletionWrite (fn : Fin 257)
  | kccNop (fn : Fin 257)
  | tblWrite (fn : Fin 257) (data : Option (List Word))
  | tblRead (fn : Fin 257) (writable : Bool)
  | fwdOp (fn : Fin 257)
  | batchOpen (fn : Fin 257)
  | batchCommit (fn : Fin 257)
  | batchAbort (fn : Fin 257)
  | commitVersion (fn : Fin 257)
  | imageLoad (fn : Fin 257) (image : Option (List Byte))
  | imageLoadVerify (keyPar : Bool)
  | deepRead (fn : Fin 257) (ecc : Ecc) (block : Fin 512) (dev : BitVec 5) (writable : Bool)
  | deepWrite (fn : Fin 257) (data : Option (List Byte))
  | flashRead (fn : Fin 257) (data : Option (List Byte)) (writable : Bool)
  | flashWrite (fn : Fin 257) (data : Option (List Byte))
  | flashErase (fn : Fin 257)
  | tenantMapWrite (tid : Fin 256) (w : List Word)
  | functionLevelReset (fn : Fin 257)
  | pcieLinkLoss
  | ltssmStart
  | fifoItemPost (f : Fin 13)
  | fifoRead (f : Fin 13)
  | twoWireRead (ptr : Option (BitVec 16)) (n : Nat)
  | twoWireWrite (ptr : BitVec 16) (bytes : List Byte)
  | setgo (v : Byte)
  | kennelAck (v : Byte)
  | knlCtrlAck (v : Word)
  -- faults and snapshots (R497-R527)
  | faultDetect (src : Fin 96) (group : Fin 16)
  | conditionRedetect (src : Fin 96)
  | barkPulseEnd
  | muzzleForce (v : Word)
  | muzzleRelease (v : Word)
  | blockResetRequest (v : Word)
  | blockResetEnd (target : BitVec 13) (group : Fin 16)
  | chipResetRequest (v : Word)
  | snapFireWrite (v : Word)
  | snapInEdge
  | snapOutEnd
  | snapshotCopyComplete
  | snapBankFree (v : Word)
  | statusFreezeRead
  | statusThawRead
  -- Kennel, resets and start-up (R528-R551)
  | vkeepRise
  | vkeepLoss
  | vaonRemove
  | porstNAssert
  | porstNRelease (straps : Byte)
  | sysrstNAssert
  | sysrstNRelease
  | perstNAssert
  | perstNRelease
  | fuseLoadComplete (rootOk : Bool)
  | flashBootReadDone (flash : List Byte)
  | selfTestComplete (failed : BitVec 4)
  | laneCalibrationComplete
  | avsbusTakeover
  | xtalFail
  | xtalReturn
  | vaonRise
  | pcieLinkUp (speed : Fin 6) (width : Fin 9)
  | slewComplete
  | configurationRequest (fn : Fin 257) (req : CfgReq)
  | registerRead (fn : Fin 257) (addr : BitVec 28)
  | unassignedBaseNanoword (x : CtxId) (mw : Word)
  deriving DecidableEq, Repr, Inhabited

end Sys2Proof
end

