-- ==== Sys2Proof/Decode.lean ====
section
/-! DEFINITION. The command a table word spells. spec/opcode_table.json gives no row any bits: the EN2564's commands
are not words, so no word spells one. -/

namespace Sys2Proof

/-- The command spelled by the `nbits`-bit word `w`: none, since no row of the table has bits.
[DESIGN CHOICE, log 6] -/
def decodeTableWord (_nbits _w : Nat) : Option Instr := none

end Sys2Proof
end

