-- ==== Sys2Proof/Machine/Table.lean ====
section
/-! DEFINITION. Sparse tables in one canonical form, and bit fields of a register word. Every store, window, register
file and per-object array of the machine is such a table: entries by strictly rising key, none equal to what an
unlisted key reads as. -/

namespace Sys2Proof

/-- A total map from numbers to values, of which only the entries that differ from the default are listed. -/
structure Tbl (α : Type) where
  ents : List (Nat × α) := []
  deriving DecidableEq, Repr, Inhabited

/-- The value listed under `k`, or `d`. -/
def lookupD {α : Type} (d : α) (k : Nat) : List (Nat × α) → α
  | [] => d
  | (j, v) :: r => if j = k then v else lookupD d k r

/-- Take every entry of `k` out of the list. -/
def eraseD {α : Type} (k : Nat) : List (Nat × α) → List (Nat × α)
  | [] => []
  | (j, u) :: r => if j = k then eraseD k r else (j, u) :: eraseD k r

/-- List `v` under `k`, in its place in a list sorted by key; a value equal to the default `d` is not listed. -/
def insertD {α : Type} [DecidableEq α] (d : α) (k : Nat) (v : α) : List (Nat × α) → List (Nat × α)
  | [] => if v = d then [] else [(k, v)]
  | (j, u) :: r =>
    if j = k then insertD d k v r
    else if j < k then (j, u) :: insertD d k v r
    else if v = d then (j, u) :: eraseD k r
    else (k, v) :: (j, u) :: eraseD k r

/-- Keys rise strictly from above `lo`, and no entry holds its default. -/
def sortedD {α : Type} [DecidableEq α] (d : Nat → α) : Option Nat → List (Nat × α) → Bool
  | _, [] => true
  | lo, (k, v) :: r =>
    (match lo with
      | none => true
      | some l => decide (l < k)) && decide (v ≠ d k) && sortedD d (some k) r

def Tbl.getD {α : Type} (t : Tbl α) (d : α) (k : Nat) : α := lookupD d k t.ents

def Tbl.setD {α : Type} [DecidableEq α] (t : Tbl α) (d : α) (k : Nat) (v : α) : Tbl α := ⟨insertD d k v t.ents⟩

/-- Read the entry `k`; an unlisted one reads as the type's default. -/
def Tbl.get {α : Type} [Inhabited α] (t : Tbl α) (k : Nat) : α := t.getD default k

/-- Write the entry `k`, keeping the canonical form. -/
def Tbl.set {α : Type} [DecidableEq α] [Inhabited α] (t : Tbl α) (k : Nat) (v : α) : Tbl α := t.setD default k v

/-- Replace the entry `k` by `f` of it. -/
def Tbl.upd {α : Type} [DecidableEq α] [Inhabited α] (t : Tbl α) (k : Nat) (f : α → α) : Tbl α :=
  t.set k (f (t.get k))

/-- The canonical form of a table whose unlisted key `k` reads as `d k`. -/
def Tbl.wfD {α : Type} [DecidableEq α] (d : Nat → α) (t : Tbl α) : Bool := sortedD d none t.ents

/-- The canonical form of a table whose default is the type's. -/
def Tbl.wf {α : Type} [DecidableEq α] [Inhabited α] (t : Tbl α) : Bool := t.wfD fun _ => default

/-- The bits `[lo + width - 1 : lo]` of a word, as a number (R12). -/
def fld (w : Word) (lo width : Nat) : Nat := w.toNat / 2 ^ lo % 2 ^ width

/-- One bit of a word. -/
def bit (w : Word) (i : Nat) : Bool := w.getLsbD i

/-- A word with ones in the bits `[lo + width - 1 : lo]`. -/
def mask (lo width : Nat) : Word := BitVec.ofNat 32 ((2 ^ width - 1) * 2 ^ lo)

/-- Replace the bits `[lo + width - 1 : lo]` of `w` by the low bits of `v`. -/
def setFld (w : Word) (lo width v : Nat) : Word :=
  (w &&& ~~~ mask lo width) ||| BitVec.ofNat 32 (v % 2 ^ width * 2 ^ lo)

/-- Set or clear one bit of `w`. -/
def setBit (w : Word) (i : Nat) (b : Bool) : Word := setFld w i 1 (if b then 1 else 0)

/-- Two's complement reading of a number of `width` bits. -/
def sext (v width : Nat) : Int := if v % 2 ^ width < 2 ^ (width - 1) then (v % 2 ^ width : Nat)
  else ((v % 2 ^ width : Nat) : Int) - (2 ^ width : Nat)

/-- A counter field of `width` bits that saturates at its maximum (R78, R140). -/
def satAdd (v n width : Nat) : Nat := min (v + n) (2 ^ width - 1)

/-- The bytes of a number, least significant first (R12). -/
def leBytes : Nat → Nat → List Byte
  | 0, _ => []
  | n + 1, v => BitVec.ofNat 8 v :: leBytes n (v / 256)

/-- The number that little-endian bytes spell. -/
def ofLe : List Byte → Nat
  | [] => 0
  | b :: r => b.toNat + 256 * ofLe r

/-- The number that bytes spell, first byte most significant. -/
def ofBe (l : List Byte) : Nat := ofLe l.reverse

/-- The bytes of a number, most significant first. -/
def beBytes (n v : Nat) : List Byte := (leBytes n v).reverse

/-- The bytes `off` to `off + n - 1` of a byte string; missing bytes are 0. -/
def slice (l : List Byte) (off n : Nat) : List Byte := (List.range n).map fun i => (l[off + i]?).getD 0

/-- The first index of `n` for which `f` answers something, lowest first. -/
def firstSome {β : Type} (f : Nat → Option β) : List Nat → Option β
  | [] => none
  | i :: r => match f i with
    | some b => some b
    | none => firstSome f r

/-- ⌈a ÷ b⌉. -/
def cdiv (a b : Nat) : Nat := (a + b - 1) / b

end Sys2Proof
end

