-- ==== Sys2Proof/Machine/Crc.lean ====
section
/-! DEFINITION. The CRC-32 of Ethernet, as the register before the final inversion (R261), and of the configuration
signature (R266). -/

namespace Sys2Proof.Machine

/-- Eight steps of the register in the bit order of IEEE 802.3, least significant bit first. -/
def crcStep : Nat → Word → Word
  | 0, r => r
  | n + 1, r => crcStep n (if r.getLsbD 0 then (r >>> 1) ^^^ 0xEDB88320 else r >>> 1)

/-- Absorb a byte. [PRESUMED, log 48] -/
def crcByte (r : Word) (b : Byte) : Word := crcStep 8 (r ^^^ b.setWidth 32)

/-- c(S, X): the register after absorbing bytes from a starting value. -/
def crc (r : Word) (l : List Byte) : Word := l.foldl crcByte r

/-- The frame check sequence of a byte string, as the four bytes that follow it. -/
def fcsOf (l : List Byte) : List Byte := leBytes 4 (~~~ crc 0xFFFFFFFF l).toNat

/-- Absorb the low `n` bits of a word most significant first (R266). -/
def sigStep (v : Word) : Nat → Word → Word
  | 0, r => r
  | n + 1, r => sigStep v n (if r.getLsbD 31 != v.getLsbD n then (r <<< 1) ^^^ 0x04C11DB7 else r <<< 1)

/-- R266: the signature of a list of register values. -/
def signature (l : List Word) : Word := l.foldl (fun r v => sigStep v 32 r) 0xFFFFFFFF

end Sys2Proof.Machine
end

