-- ==== Sys2Proof/Machine/RegMap.lean ====
section
/-! DEFINITION. The register map: for each block the offset, reset value and access codes of every register, as the
register tables of the chapters give them. -/

namespace Sys2Proof.Machine

/-- A register, or `n` like registers `stride` bytes apart: its reset value and the masks of its fields by access code
(R13). Fields in no mask are read-only, write-only or reserved. -/
structure RegRow where
  off : Nat
  n : Nat := 1
  stride : Nat := 4
  reset : Word := 0
  rw : Word := 0
  w1c : Word := 0
  rc : Word := 0
  rws : Word := 0
  ros : Word := 0
  deriving DecidableEq, Repr, Inhabited

namespace R
abbrev PRT_MCFG : Nat := 0x000
abbrev PRT_MSTAT : Nat := 0x004
abbrev PRT_ABSOCC : Nat := 0x008
abbrev PRT_ABSRATE : Nat := 0x00C
abbrev PRT_ABSDROP : Nat := 0x010
abbrev PRT_FECDEG : Nat := 0x014
abbrev PRT_EVENT : Nat := 0x018
abbrev PRT_EVMASK : Nat := 0x01C
abbrev PRT_POISON : Nat := 0x020
abbrev PRT_TXDROP : Nat := 0x040
abbrev PRT_PCFG : Nat := 0x100
abbrev PRT_PSTAT : Nat := 0x104
abbrev PRT_LCFG : Nat := 0x108
abbrev PRT_TSADJ : Nat := 0x10C
abbrev PRT_TSCAL : Nat := 0x110
abbrev PRT_FECCOR : Nat := 0x114
abbrev PRT_FECUNC : Nat := 0x118
abbrev PRT_FCSERR : Nat := 0x11C
abbrev PUP_CTRL : Nat := 0x000
abbrev PUP_STAT : Nat := 0x004
abbrev PUP_LDSTAT : Nat := 0x008
abbrev PUP_RESTART : Nat := 0x010
abbrev PUP_EXDROP : Nat := 0x014
abbrev PUP_PDROP : Nat := 0x038
abbrev PUP_MCHK0 : Nat := 0x040
abbrev PUP_MCHK1 : Nat := 0x044
abbrev PUP_REPAIR : Nat := 0x048
abbrev PUP_HKSTAT : Nat := 0x04C
abbrev PCL_VERSION : Nat := 0x000
abbrev PCL_VSTAT : Nat := 0x004
abbrev PCL_EVMASK : Nat := 0x008
abbrev PCL_INFLIGHT : Nat := 0x00C
abbrev PCL_RETTIME : Nat := 0x010
abbrev PCL_ROBOCC : Nat := 0x014
abbrev PCL_ROBSKIP : Nat := 0x018
abbrev PCL_ROBLATE : Nat := 0x01C
abbrev PCL_ROBFULL : Nat := 0x020
abbrev FWD_OPCTL : Nat := 0x000
abbrev FWD_OPARG : Nat := 0x004
abbrev FWD_OPRES : Nat := 0x024
abbrev FWD_LPMUSE : Nat := 0x028
abbrev FWD_AGECFG : Nat := 0x02C
abbrev FWD_AGENOW : Nat := 0x030
abbrev FWD_LRNCFG : Nat := 0x034
abbrev FWD_L2USE : Nat := 0x038
abbrev FWD_L2FULL : Nat := 0x03C
abbrev FWD_LRNDROP : Nat := 0x040
abbrev FWD_REFDROP : Nat := 0x044
abbrev FWD_PARCNT : Nat := 0x048
abbrev FWD_EVENT : Nat := 0x04C
abbrev FWD_EVMASK : Nat := 0x050
abbrev ASA_CTRL : Nat := 0x000
abbrev ASA_STAT : Nat := 0x004
abbrev ASA_EVMASK : Nat := 0x008
abbrev ASA_FALSEHIT : Nat := 0x00C
abbrev ASA_SCRUBFIX : Nat := 0x010
abbrev ASA_SHADOW : Nat := 0x014
abbrev ASA_MAPERR : Nat := 0x018
abbrev ASA_LASTROW : Nat := 0x01C
abbrev RWR_STAT : Nat := 0x000
abbrev RWR_EVMASK : Nat := 0x004
abbrev RWR_DROP : Nat := 0x008
abbrev RWR_LENDROP : Nat := 0x00C
abbrev RWR_FCSMIS : Nat := 0x010
abbrev RWR_POISON : Nat := 0x014
abbrev RWR_ECNSKIP : Nat := 0x018
abbrev RWR_LASTBAD : Nat := 0x01C
abbrev SWC_CTRL : Nat := 0x000
abbrev SWC_INGRSV : Nat := 0x004
abbrev SWC_PUNTRSV : Nat := 0x008
abbrev SWC_SHSIZE : Nat := 0x00C
abbrev SWC_SHFREE : Nat := 0x010
abbrev SWC_INGUSE : Nat := 0x014
abbrev SWC_STAT : Nat := 0x018
abbrev SWC_EVMASK : Nat := 0x01C
abbrev SWC_SRAMERR : Nat := 0x020
abbrev SWC_RETRIEVE : Nat := 0x024
abbrev SWC_ECNMARK : Nat := 0x028
abbrev SWC_CTFALL : Nat := 0x02C
abbrev SWC_CTUNDER : Nat := 0x030
abbrev SWC_SPILLCNT : Nat := 0x034
abbrev SWC_DRAINCNT : Nat := 0x038
abbrev SWC_SMPDROP : Nat := 0x03C
abbrev SWC_DROP : Nat := 0x040
abbrev SWC_FABSTAT : Nat := 0x000
abbrev SWC_FABEVENT : Nat := 0x004
abbrev SWC_FABEVMASK : Nat := 0x008
abbrev SWC_FABRETRY : Nat := 0x00C
abbrev SWC_FABRETRAIN : Nat := 0x010
abbrev SWC_HRBASE_LO : Nat := 0x020
abbrev SWC_HRBASE_HI : Nat := 0x024
abbrev SWC_HRCFG : Nat := 0x028
abbrev SWC_HRHEAD : Nat := 0x02C
abbrev SWC_HRTAIL : Nat := 0x030
abbrev SWC_HRDROP : Nat := 0x034
abbrev BPM_CTRL : Nat := 0x000
abbrev BPM_PGMAX : Nat := 0x010
abbrev BPM_PGUSE : Nat := 0x020
abbrev BPM_BUFUSE : Nat := 0x030
abbrev BPM_FAIL : Nat := 0x040
abbrev BPM_RETIRED : Nat := 0x044
abbrev BPM_REFERR : Nat := 0x048
abbrev BPM_STAT : Nat := 0x04C
abbrev BPM_EVMASK : Nat := 0x050
abbrev DTC_CCFG : Nat := 0x000
abbrev DTC_CSTAT : Nat := 0x004
abbrev DTC_DIMM : Nat := 0x008
abbrev DTC_SIZE : Nat := 0x010
abbrev DTC_TRNCTL : Nat := 0x014
abbrev DTC_TRNSTAT : Nat := 0x018
abbrev DTC_PWRCFG : Nat := 0x01C
abbrev DTC_RANKPWR : Nat := 0x020
abbrev DTC_REFSTAT : Nat := 0x024
abbrev DTC_ECCCFG : Nat := 0x028
abbrev DTC_ECCCNT : Nat := 0x02C
abbrev DTC_ECCPAGE : Nat := 0x030
abbrev DTC_ECCROW : Nat := 0x034
abbrev DTC_HEELCFG : Nat := 0x038
abbrev DTC_HEELSTAT : Nat := 0x03C
abbrev DTC_HEELROW : Nat := 0x040
abbrev DTC_REG0 : Nat := 0x050
abbrev DTC_REG1 : Nat := 0x054
abbrev DTC_REG2 : Nat := 0x058
abbrev DTC_REG3 : Nat := 0x05C
abbrev DTC_RPRCTL : Nat := 0x060
abbrev DTC_RPRSTAT : Nat := 0x064
abbrev DTC_RPRROW : Nat := 0x068
abbrev DTC_EVENT : Nat := 0x06C
abbrev DTC_RPRLOG : Nat := 0x070
abbrev DTC_EVMASK : Nat := 0x0B0
abbrev DTC_TSAV : Nat := 0x0C0
abbrev DTC_TRN : Nat := 0x200
abbrev TMG_CTRL : Nat := 0x000
abbrev TMG_STAT : Nat := 0x004
abbrev TMG_EVMASK : Nat := 0x008
abbrev TMG_ESTAT : Nat := 0x00C
abbrev TMG_E1HOLD : Nat := 0x010
abbrev TMG_EREFUSE : Nat := 0x014
abbrev TMG_GATEWAIT : Nat := 0x018
abbrev TMG_GATEDROP : Nat := 0x01C
abbrev TMG_FLUSH : Nat := 0x020
abbrev TMG_CNTDROP : Nat := 0x024
abbrev TMG_PARCNT : Nat := 0x028
abbrev TMG_EBASE : Nat := 0x030
abbrev TMG_EBYTE : Nat := 0x040
abbrev TMG_ERES0 : Nat := 0x044
abbrev TMG_ERES1 : Nat := 0x048
abbrev TMG_ERES2 : Nat := 0x04C
abbrev TMG_ECMAP : Nat := 0x050
abbrev TMG_OVHD : Nat := 0x080
abbrev TMG_SRBASE_LO : Nat := 0x0C0
abbrev TMG_SRBASE_HI : Nat := 0x0C4
abbrev TMG_SRCFG : Nat := 0x0C8
abbrev TMG_SRHEAD : Nat := 0x0CC
abbrev TMG_SRTAIL : Nat := 0x0D0
abbrev TMG_SRDROP : Nat := 0x0D4
abbrev TMG_SRLATE : Nat := 0x0D8
abbrev EGV_SCTRL : Nat := 0x000
abbrev EGV_SSTAT : Nat := 0x004
abbrev EGV_SLEEPCFG : Nat := 0x008
abbrev EGV_NAPCFG : Nat := 0x00C
abbrev EGV_TOKRATE : Nat := 0x010
abbrev EGV_BUCKET : Nat := 0x014
abbrev EGV_BKTCAP : Nat := 0x018
abbrev EGV_PSLICE : Nat := 0x01C
abbrev EGV_TSLICE : Nat := 0x020
abbrev EGV_DROOP : Nat := 0x024
abbrev EGV_SLEEPCNT : Nat := 0x028
abbrev EGV_SENSOR : Nat := 0x040
abbrev EGV_DCTRL : Nat := 0x000
abbrev EGV_PCAP : Nat := 0x004
abbrev EGV_TLIM : Nat := 0x008
abbrev EGV_TAMB : Nat := 0x00C
abbrev EGV_RTH : Nat := 0x010
abbrev EGV_CTH : Nat := 0x014
abbrev EGV_SPRINTCFG : Nat := 0x018
abbrev EGV_DSTAT : Nat := 0x01C
abbrev EGV_DUTY : Nat := 0x020
abbrev EGV_PLANT : Nat := 0x024
abbrev EGV_STAGECTL : Nat := 0x028
abbrev EGV_RECOVER : Nat := 0x02C
abbrev EGV_STH : Nat := 0x030
abbrev EGV_SCAP1 : Nat := 0x050
abbrev EGV_SCAP2 : Nat := 0x054
abbrev EGV_SCAP3 : Nat := 0x058
abbrev EGV_SCAP4 : Nat := 0x05C
abbrev EGV_SCAP5 : Nat := 0x060
abbrev EGV_EVENT : Nat := 0x070
abbrev EGV_EVMASK : Nat := 0x074
abbrev EGV_BBC : Nat := 0x078
abbrev TSU_CTRL : Nat := 0x000
abbrev TSU_STAT : Nat := 0x004
abbrev TSU_EVENT : Nat := 0x008
abbrev TSU_EVMASK : Nat := 0x00C
abbrev TSU_TNS : Nat := 0x010
abbrev TSU_TSECLO : Nat := 0x014
abbrev TSU_TSECHI : Nat := 0x018
abbrev TSU_TFRAC : Nat := 0x01C
abbrev TSU_FREQLO : Nat := 0x020
abbrev TSU_FREQHI : Nat := 0x024
abbrev TSU_OFFSET : Nat := 0x028
abbrev TSU_JUMPTH : Nat := 0x02C
abbrev TSU_STEPSLO : Nat := 0x030
abbrev TSU_STEPSHI : Nat := 0x034
abbrev TSU_STEPNS : Nat := 0x038
abbrev TSU_ARM : Nat := 0x03C
abbrev TSU_LASTREF : Nat := 0x040
abbrev TSU_KSECLO : Nat := 0x044
abbrev TSU_KSECHI : Nat := 0x048
abbrev TSU_TOUTCFG : Nat := 0x100
abbrev TSU_TOUTSLO : Nat := 0x104
abbrev TSU_TOUTSHI : Nat := 0x108
abbrev TSU_TOUTNS : Nat := 0x10C
abbrev TSU_TOUTPER : Nat := 0x110
abbrev TSU_TOUTWID : Nat := 0x114
abbrev TSU_TINCFG : Nat := 0x200
abbrev TSU_TINSHI : Nat := 0x204
abbrev TSU_TINSLO : Nat := 0x208
abbrev TSU_TINNS : Nat := 0x20C
abbrev TSU_PPSIN : Nat := 0x240
abbrev TSU_PPSOCFG : Nat := 0x250
abbrev TSU_SNAPCFG : Nat := 0x260
abbrev TSU_SNAPSLO : Nat := 0x264
abbrev TSU_SNAPSHI : Nat := 0x268
abbrev TSU_SNAPNS : Nat := 0x26C
abbrev TSU_RCLK : Nat := 0x280
abbrev TSU_TXBASE_LO : Nat := 0x2A0
abbrev TSU_TXBASE_HI : Nat := 0x2A4
abbrev TSU_TXCFG : Nat := 0x2A8
abbrev TSU_TXHEAD : Nat := 0x2AC
abbrev TSU_TXTAIL : Nat := 0x2B0
abbrev TSU_TXDROP : Nat := 0x2B4
abbrev KCE_STAT : Nat := 0x000
abbrev KCE_EVENT : Nat := 0x004
abbrev KCE_EVMASK : Nat := 0x008
abbrev KCE_GENCNT : Nat := 0x00C
abbrev KCE_VERCNT : Nat := 0x010
abbrev KCE_FAILCNT : Nat := 0x014
abbrev KCE_BUSYCNT : Nat := 0x018
abbrev KCE_SUSPCNT : Nat := 0x01C
abbrev KCE_QOCC : Nat := 0x020
abbrev KCE_MAXLAT : Nat := 0x024
abbrev KCE_LASTSLOT : Nat := 0x028
abbrev HIF_STAT : Nat := 0x000
abbrev HIF_EVENT : Nat := 0x004
abbrev HIF_EVMASK : Nat := 0x008
abbrev HIF_BADADDR : Nat := 0x00C
abbrev HIF_AUTHCNT : Nat := 0x010
abbrev HIF_REPLAYCNT : Nat := 0x014
abbrev HIF_DENYCNT : Nat := 0x018
abbrev HIF_INFLIGHT : Nat := 0x01C
abbrev HIF_PUNTDROP : Nat := 0x020
abbrev HIF_RSTDROP : Nat := 0x024
abbrev HIF_INJDENY : Nat := 0x028
abbrev HIF_LASTFN : Nat := 0x02C
abbrev HIF_INJPROG : Nat := 0x030
abbrev HIF_FSTAT : Nat := 0x100
abbrev HIF_FDATA : Nat := 0x104
abbrev HIF_PCMDTAIL : Nat := 0x200
abbrev HIF_PCPLTAIL : Nat := 0x204
abbrev HIF_PFREETAIL : Nat := 0x400
abbrev HIF_PPCPLTAIL : Nat := 0x404
abbrev HIF_PINJTAIL : Nat := 0x600
abbrev FLT_STAT0 : Nat := 0x000
abbrev FLT_STAT1 : Nat := 0x004
abbrev FLT_STAT2 : Nat := 0x008
abbrev FLT_CTRL : Nat := 0x00C
abbrev FLT_ERRPIN : Nat := 0x010
abbrev FLT_NMI : Nat := 0x014
abbrev FLT_MUZZLE : Nat := 0x018
abbrev FLT_BRST : Nat := 0x01C
abbrev FLT_CRST : Nat := 0x020
abbrev FLT_RSTCNT : Nat := 0x024
abbrev FLT_RSTDROP : Nat := 0x028
abbrev FLT_LASTRST : Nat := 0x02C
abbrev FLT_FIRST : Nat := 0x030
abbrev FLT_SNAPCTL : Nat := 0x040
abbrev FLT_SNAPCFG : Nat := 0x044
abbrev FLT_SNAPSTAT : Nat := 0x048
abbrev FLT_SNAPMISS : Nat := 0x04C
abbrev FLT_SNAPBSLO : Nat := 0x050
abbrev FLT_SNAPBSHI : Nat := 0x054
abbrev FLT_SNAPBNS : Nat := 0x058
abbrev FLT_SNAPBCAUSE : Nat := 0x05C
abbrev KNL_STAT : Nat := 0x000
abbrev KNL_CTRL : Nat := 0x004
abbrev KNL_STRAP : Nat := 0x008
abbrev KNL_BOOT : Nat := 0x00C
abbrev WSEL : Nat := 0xFF0
abbrev WADDR : Nat := 0xFF4
abbrev WDATA : Nat := 0xFF8
end R

/-- PRT, one macro (R78-R84) -/
def regsPrt : List RegRow :=
  [{ off := R.PRT_MCFG, reset := 0x00001096, rw := 0x0000FFFF },
    { off := R.PRT_MSTAT },
    { off := R.PRT_ABSOCC, rc := 0xFFFF0000 },
    { off := R.PRT_ABSRATE },
    { off := R.PRT_ABSDROP, rc := 0xFFFFFFFF },
    { off := R.PRT_FECDEG, reset := 0x000A00FF, rw := 0x001FFFFF },
    { off := R.PRT_EVENT, w1c := 0xFFFFFFFF },
    { off := R.PRT_EVMASK, reset := 0xFFFFFFFF, rw := 0xFFFFFFFF },
    { off := R.PRT_POISON, n := 8, rc := 0xFFFFFFFF },
    { off := R.PRT_TXDROP, rc := 0xFFFFFFFF },
    { off := R.PRT_PCFG, n := 8, stride := 0x20, reset := 0x17C803D8, rw := 0xFFFDFFFF },
    { off := R.PRT_PSTAT, n := 8, stride := 0x20 },
    { off := R.PRT_LCFG, n := 8, stride := 0x20, rw := 0x00000F0F },
    { off := R.PRT_TSADJ, n := 8, stride := 0x20, rw := 0xFFFFFFFF },
    { off := R.PRT_TSCAL, n := 8, stride := 0x20 },
    { off := R.PRT_FECCOR, n := 8, stride := 0x20, rc := 0xFFFFFFFF },
    { off := R.PRT_FECUNC, n := 8, stride := 0x20, rc := 0xFFFFFFFF },
    { off := R.PRT_FCSERR, n := 8, stride := 0x20, rc := 0xFFFFFFFF }]

/-- PUP (R140, R141) -/
def regsPup : List RegRow :=
  [{ off := R.PUP_CTRL, reset := 0x00000004, rw := 0x00FFFF07 },
    { off := R.PUP_STAT, reset := 0x00000001, w1c := 0x00000020 },
    { off := R.PUP_LDSTAT },
    { off := R.PUP_RESTART, rc := 0xFFFFFFFF },
    { off := R.PUP_EXDROP, n := 9, rc := 0xFFFFFFFF },
    { off := R.PUP_PDROP, rc := 0xFFFFFFFF },
    { off := R.PUP_MCHK0, w1c := 0x00800000 },
    { off := R.PUP_MCHK1 },
    { off := R.PUP_REPAIR, w1c := 0x00008000, rc := 0xFFFF0000 },
    { off := R.PUP_HKSTAT, w1c := 0x0000FFFF }]

/-- PCL (R203, R204) -/
def regsPcl : List RegRow :=
  [{ off := R.PCL_VERSION },
    { off := R.PCL_VSTAT, w1c := 0x0000001F },
    { off := R.PCL_EVMASK, reset := 0x0000001F, rw := 0x0000001F },
    { off := R.PCL_INFLIGHT },
    { off := R.PCL_RETTIME },
    { off := R.PCL_ROBOCC, rc := 0x1FFF0000 },
    { off := R.PCL_ROBSKIP, rc := 0xFFFFFFFF },
    { off := R.PCL_ROBLATE, rc := 0xFFFFFFFF },
    { off := R.PCL_ROBFULL, rc := 0xFFFFFFFF }]

/-- FWD (R245, R246) -/
def regsFwd : List RegRow :=
  [{ off := R.FWD_OPCTL },
    { off := R.FWD_OPARG, n := 8, rw := 0xFFFFFFFF },
    { off := R.FWD_OPRES },
    { off := R.FWD_LPMUSE },
    { off := R.FWD_AGECFG, reset := 0x03E8012C, rw := 0xFFFFFFFF },
    { off := R.FWD_AGENOW },
    { off := R.FWD_LRNCFG, reset := 0x00000064, rw := 0x00001FFF },
    { off := R.FWD_L2USE },
    { off := R.FWD_L2FULL, rc := 0xFFFFFFFF },
    { off := R.FWD_LRNDROP, rc := 0xFFFFFFFF },
    { off := R.FWD_REFDROP, rc := 0xFFFFFFFF },
    { off := R.FWD_PARCNT, rc := 0xFFFFFFFF },
    { off := R.FWD_EVENT, w1c := 0x0000000F },
    { off := R.FWD_EVMASK, reset := 0x0000000F, rw := 0x0000000F }]

/-- ASA (R248) -/
def regsAsa : List RegRow :=
  [{ off := R.ASA_CTRL, reset := 0x00000001, rw := 0x00000001 },
    { off := R.ASA_STAT, w1c := 0x0000001F },
    { off := R.ASA_EVMASK, reset := 0x0000001F, rw := 0x0000001F },
    { off := R.ASA_FALSEHIT, rc := 0xFFFFFFFF },
    { off := R.ASA_SCRUBFIX, rc := 0xFFFFFFFF },
    { off := R.ASA_SHADOW, rc := 0xFFFFFFFF },
    { off := R.ASA_MAPERR, rc := 0xFFFFFFFF },
    { off := R.ASA_LASTROW }]

/-- RWR (R269, R270) -/
def regsRwr : List RegRow :=
  [{ off := R.RWR_STAT, w1c := 0x0000001F },
    { off := R.RWR_EVMASK, reset := 0x0000001F, rw := 0x0000001F },
    { off := R.RWR_DROP, rc := 0xFFFFFFFF },
    { off := R.RWR_LENDROP, rc := 0xFFFFFFFF },
    { off := R.RWR_FCSMIS, rc := 0xFFFFFFFF },
    { off := R.RWR_POISON, rc := 0xFFFFFFFF },
    { off := R.RWR_ECNSKIP, rc := 0xFFFFFFFF },
    { off := R.RWR_LASTBAD }]

/-- SWC, slice instances (R300) -/
def regsSwcS : List RegRow :=
  [{ off := R.SWC_CTRL, reset := 0x00000001, rw := 0x00000001 },
    { off := R.SWC_INGRSV, reset := 0x00008000, rw := 0x0007FFFF },
    { off := R.SWC_PUNTRSV, reset := 0x00001000, rw := 0x0007FFFF },
    { off := R.SWC_SHSIZE, reset := 0x00057000 },
    { off := R.SWC_SHFREE, reset := 0x00057000 },
    { off := R.SWC_INGUSE },
    { off := R.SWC_STAT, w1c := 0x0000003F },
    { off := R.SWC_EVMASK, reset := 0x0000003F, rw := 0x0000003F },
    { off := R.SWC_SRAMERR, rc := 0xFFFFFFFF },
    { off := R.SWC_RETRIEVE, rc := 0xFFFFFFFF },
    { off := R.SWC_ECNMARK, rc := 0xFFFFFFFF },
    { off := R.SWC_CTFALL, rc := 0xFFFFFFFF },
    { off := R.SWC_CTUNDER, rc := 0xFFFFFFFF },
    { off := R.SWC_SPILLCNT, rc := 0xFFFFFFFF },
    { off := R.SWC_DRAINCNT, rc := 0xFFFFFFFF },
    { off := R.SWC_SMPDROP, rc := 0xFFFFFFFF },
    { off := R.SWC_DROP, n := 16, rc := 0xFFFFFFFF }]

/-- SWC, instance 4 (R303) -/
def regsSwc4 : List RegRow :=
  [{ off := R.SWC_FABSTAT },
    { off := R.SWC_FABEVENT, w1c := 0xFFFFFFFF },
    { off := R.SWC_FABEVMASK, reset := 0xFFFFFFFF, rw := 0xFFFFFFFF },
    { off := R.SWC_FABRETRY, rc := 0xFFFFFFFF },
    { off := R.SWC_FABRETRAIN, rc := 0xFFFFFFFF },
    { off := R.SWC_HRBASE_LO, rw := 0xFFFFFFC0 },
    { off := R.SWC_HRBASE_HI, rw := 0xFFFFFFFF },
    { off := R.SWC_HRCFG, reset := 0x0000000A, rw := 0x0000011F },
    { off := R.SWC_HRHEAD },
    { off := R.SWC_HRTAIL, rw := 0x000FFFFF },
    { off := R.SWC_HRDROP, rc := 0xFFFFFFFF }]

/-- BPM (R304) -/
def regsBpm : List RegRow :=
  [{ off := R.BPM_CTRL, rw := 0x00000001 },
    { off := R.BPM_PGMAX, n := 4, rw := 0x0FFFFFFF },
    { off := R.BPM_PGUSE, n := 4 },
    { off := R.BPM_BUFUSE, n := 4 },
    { off := R.BPM_FAIL, rc := 0xFFFFFFFF },
    { off := R.BPM_RETIRED },
    { off := R.BPM_REFERR, rc := 0xFFFFFFFF },
    { off := R.BPM_STAT, w1c := 0x00000007 },
    { off := R.BPM_EVMASK, reset := 0x00000007, rw := 0x00000007 }]

/-- DTC, one channel (R337, R338) -/
def regsDtc : List RegRow :=
  [{ off := R.DTC_CCFG, reset := 0x00000002, rw := 0x00000073, rws := 0x00000073 },
    { off := R.DTC_CSTAT, w1c := 0x000000C0 },
    { off := R.DTC_DIMM, n := 2, rw := 0x00FF01FF, rws := 0x00FF01FF },
    { off := R.DTC_SIZE },
    { off := R.DTC_TRNCTL, reset := 0x00000100, rw := 0x000003F2, rws := 0x000003F2 },
    { off := R.DTC_TRNSTAT },
    { off := R.DTC_PWRCFG, reset := 0x00000C32, rw := 0x00000FFF, rws := 0x00000FFF },
    { off := R.DTC_RANKPWR, reset := 0x0000FFFF },
    { off := R.DTC_REFSTAT },
    { off := R.DTC_ECCCFG, reset := 0x18011004, rw := 0xFF01FFFF, rws := 0xFF01FFFF },
    { off := R.DTC_ECCCNT, rc := 0xFFFFFFFF },
    { off := R.DTC_ECCPAGE },
    { off := R.DTC_ECCROW },
    { off := R.DTC_HEELCFG, reset := 0x06440400, rw := 0xFFFFFFFF, rws := 0xFFFFFFFF },
    { off := R.DTC_HEELSTAT, rc := 0x0000FFFF },
    { off := R.DTC_HEELROW },
    { off := R.DTC_REG0, reset := 0x001FFFFF, rw := 0x001FFFFF, rws := 0x001FFFFF },
    { off := R.DTC_REG1, reset := 0x001FFFFF, rw := 0x001FFFFF, rws := 0x001FFFFF },
    { off := R.DTC_REG2, reset := 0x00010014, rw := 0x001FFFFF, rws := 0x001FFFFF },
    { off := R.DTC_REG3, reset := 0x0001000A, rw := 0x001FFFFF, rws := 0x001FFFFF }] ++
  [{ off := R.DTC_RPRCTL, rw := 0x0000001F, rws := 0x0000001F },
    { off := R.DTC_RPRSTAT },
    { off := R.DTC_RPRROW, rw := 0x1FFFFFFF, rws := 0x1FFFFFFF },
    { off := R.DTC_EVENT, w1c := 0x0000003F },
    { off := R.DTC_RPRLOG, n := 16 },
    { off := R.DTC_EVMASK, reset := 0x0000003F, rw := 0x0000003F },
    { off := R.DTC_TSAV, n := 80, rw := 0x0000FFFF, rws := 0x0000FFFF },
    { off := R.DTC_TRN, n := 80 }]

/-- TMG (R376) -/
def regsTmg : List RegRow :=
  [{ off := R.TMG_CTRL, rw := 0x00000003 },
    { off := R.TMG_STAT, w1c := 0x0000007F },
    { off := R.TMG_EVMASK, reset := 0x0000007F, rw := 0x0000007F },
    { off := R.TMG_ESTAT },
    { off := R.TMG_E1HOLD, rc := 0xFFFFFFFF },
    { off := R.TMG_EREFUSE, rc := 0xFFFFFFFF },
    { off := R.TMG_GATEWAIT, rc := 0xFFFFFFFF },
    { off := R.TMG_GATEDROP, rc := 0xFFFFFFFF },
    { off := R.TMG_FLUSH, rc := 0xFFFFFFFF },
    { off := R.TMG_CNTDROP, rc := 0xFFFFFFFF },
    { off := R.TMG_PARCNT, rc := 0xFFFFFFFF },
    { off := R.TMG_EBASE, n := 4, reset := 0x00600040, rw := 0xFFFFFFFF },
    { off := R.TMG_EBYTE, reset := 0x00C00020, rw := 0xFFFFFFFF },
    { off := R.TMG_ERES0, reset := 0x00002710, rw := 0x00FFFFFF },
    { off := R.TMG_ERES1, reset := 0x000186A0, rw := 0x00FFFFFF },
    { off := R.TMG_ERES2, reset := 0x000186A0, rw := 0x00FFFFFF },
    { off := R.TMG_ECMAP, n := 8, reset := 0x00005555, rw := 0x0000FFFF },
    { off := R.TMG_OVHD, n := 16, rw := 0xFFFFFFFF },
    { off := R.TMG_SRBASE_LO, rw := 0xFFFFFFE0 },
    { off := R.TMG_SRBASE_HI, rw := 0xFFFFFFFF }] ++
  [{ off := R.TMG_SRCFG, reset := 0x0064000A, rw := 0x07FF011F },
    { off := R.TMG_SRHEAD },
    { off := R.TMG_SRTAIL, rw := 0x000FFFFF },
    { off := R.TMG_SRDROP, rc := 0xFFFFFFFF },
    { off := R.TMG_SRLATE, rc := 0xFFFFFFFF }]

/-- EGV, slice instances (R414) -/
def regsEgvS : List RegRow :=
  [{ off := R.EGV_SCTRL, reset := 0x00002150, rw := 0x000FF777 },
    { off := R.EGV_SSTAT, reset := 0x00005000 },
    { off := R.EGV_SLEEPCFG, reset := 0x000A140A, rw := 0x00FFFFFF },
    { off := R.EGV_NAPCFG, reset := 0x03200400, rw := 0x07FF07FF },
    { off := R.EGV_TOKRATE },
    { off := R.EGV_BUCKET },
    { off := R.EGV_BKTCAP, reset := 0x000F4240, rw := 0x00FFFFFF },
    { off := R.EGV_PSLICE },
    { off := R.EGV_TSLICE },
    { off := R.EGV_DROOP, reset := 0x00000028, rw := 0x0000007F, rc := 0xFFFF0000 },
    { off := R.EGV_SLEEPCNT, rc := 0xFFFFFFFF },
    { off := R.EGV_SENSOR, n := 6 }]

/-- EGV, instance 4 (R415) -/
def regsEgv4 : List RegRow :=
  [{ off := R.EGV_DCTRL, reset := 0x00000001, rw := 0x00000007 },
    { off := R.EGV_PCAP, reset := 0x01EA01A4, rw := 0x03FF03FF },
    { off := R.EGV_TLIM, reset := 0x006E6964, rw := 0x00FFFFFF },
    { off := R.EGV_TAMB, reset := 0x0000012D, rw := 0x000000FF },
    { off := R.EGV_RTH, reset := 0x07D14050, rw := 0x3FFFFFFF },
    { off := R.EGV_CTH, reset := 0x016300FA, rw := 0xFFFFFFFF },
    { off := R.EGV_SPRINTCFG, reset := 0x0000003C, rw := 0x000000FF },
    { off := R.EGV_DSTAT },
    { off := R.EGV_DUTY },
    { off := R.EGV_PLANT },
    { off := R.EGV_STAGECTL, reset := 0x0A004030, rw := 0xFFFFF177 },
    { off := R.EGV_RECOVER, reset := 0x000003E8, rw := 0x0000FFFF },
    { off := R.EGV_STH, n := 6, reset := 0x00220000, rw := 0x8FFF0FFF },
    { off := R.EGV_SCAP1, reset := 0x000001A4, rw := 0x000003FF },
    { off := R.EGV_SCAP2, reset := 0x000001A4, rw := 0x000003FF },
    { off := R.EGV_SCAP3, reset := 0x0000012C, rw := 0x000003FF },
    { off := R.EGV_SCAP4, reset := 0x000000FA, rw := 0x000003FF },
    { off := R.EGV_SCAP5, reset := 0x00000096, rw := 0x000003FF },
    { off := R.EGV_EVENT, w1c := 0x000007FF },
    { off := R.EGV_EVMASK, reset := 0x000007FF, rw := 0x000007FF }] ++
  [{ off := R.EGV_BBC, rc := 0xFFFFFF00 }]

/-- TSU (R445) -/
def regsTsu : List RegRow :=
  [{ off := R.TSU_CTRL, reset := 0x00000001, rw := 0x00000001 },
    { off := R.TSU_STAT, reset := 0x00000004 },
    { off := R.TSU_EVENT, w1c := 0x00001FFF },
    { off := R.TSU_EVMASK, reset := 0x00001FFF, rw := 0x00001FFF },
    { off := R.TSU_TNS },
    { off := R.TSU_TSECLO },
    { off := R.TSU_TSECHI },
    { off := R.TSU_TFRAC },
    { off := R.TSU_FREQLO, rw := 0xFFFFFFFF },
    { off := R.TSU_FREQHI, rw := 0x000000FF },
    { off := R.TSU_OFFSET },
    { off := R.TSU_JUMPTH, reset := 0x000003E8, rw := 0x000FFFFF },
    { off := R.TSU_STEPSLO, rw := 0xFFFFFFFF },
    { off := R.TSU_STEPSHI, rw := 0x0000FFFF },
    { off := R.TSU_STEPNS, rw := 0x3FFFFFFF },
    { off := R.TSU_ARM, reset := 0x00000A00, rw := 0x0000FF00 },
    { off := R.TSU_LASTREF },
    { off := R.TSU_KSECLO },
    { off := R.TSU_KSECHI },
    { off := R.TSU_TOUTCFG, n := 8, stride := 0x20, rw := 0x00000007, w1c := 0x000000E0 }] ++
  [{ off := R.TSU_TOUTSLO, n := 8, stride := 0x20, rw := 0xFFFFFFFF },
    { off := R.TSU_TOUTSHI, n := 8, stride := 0x20, rw := 0x0000FFFF },
    { off := R.TSU_TOUTNS, n := 8, stride := 0x20, rw := 0x3FFFFFFF },
    { off := R.TSU_TOUTPER, n := 8, stride := 0x20, reset := 0x3B9ACA00, rw := 0xFFFFFFFF },
    { off := R.TSU_TOUTWID, n := 8, stride := 0x20, reset := 0x00000064, rw := 0xFFFFFFFF },
    { off := R.TSU_TINCFG, n := 4, stride := 0x10, rw := 0x00000003 },
    { off := R.TSU_TINSHI, n := 5, stride := 0x10, w1c := 0x40000000 },
    { off := R.TSU_TINSLO, n := 5, stride := 0x10 },
    { off := R.TSU_TINNS, n := 5, stride := 0x10 },
    { off := R.TSU_PPSIN, rw := 0x00000001 },
    { off := R.TSU_PPSOCFG, reset := 0x186A0000, rw := 0xFFFFF001 },
    { off := R.TSU_SNAPCFG, rw := 0x00000001, w1c := 0x00000050 },
    { off := R.TSU_SNAPSLO, rw := 0xFFFFFFFF },
    { off := R.TSU_SNAPSHI, rw := 0x0000FFFF },
    { off := R.TSU_SNAPNS, rw := 0x3FFFFFFF },
    { off := R.TSU_RCLK, n := 2, reset := 0x02015400, rw := 0x01FFFFFF },
    { off := R.TSU_TXBASE_LO, rw := 0xFFFFFFE0 },
    { off := R.TSU_TXBASE_HI, rw := 0xFFFFFFFF },
    { off := R.TSU_TXCFG, reset := 0x0000000A, rw := 0x0000011F },
    { off := R.TSU_TXHEAD }] ++
  [{ off := R.TSU_TXTAIL, rw := 0x000FFFFF },
    { off := R.TSU_TXDROP, rc := 0xFFFFFFFF }]

/-- KCE (R468) -/
def regsKce : List RegRow :=
  [{ off := R.KCE_STAT },
    { off := R.KCE_EVENT, w1c := 0x0000007F },
    { off := R.KCE_EVMASK, reset := 0x0000007F, rw := 0x0000007F },
    { off := R.KCE_GENCNT, rc := 0xFFFFFFFF },
    { off := R.KCE_VERCNT, rc := 0xFFFFFFFF },
    { off := R.KCE_FAILCNT, rc := 0xFFFFFFFF },
    { off := R.KCE_BUSYCNT, rc := 0xFFFFFFFF },
    { off := R.KCE_SUSPCNT, rc := 0xFFFFFFFF },
    { off := R.KCE_QOCC },
    { off := R.KCE_MAXLAT, rc := 0x0000FFFF },
    { off := R.KCE_LASTSLOT }]

/-- HIF (R493) -/
def regsHif : List RegRow :=
  [{ off := R.HIF_STAT },
    { off := R.HIF_EVENT, w1c := 0x000000FF },
    { off := R.HIF_EVMASK, reset := 0x000000FF, rw := 0x000000FF },
    { off := R.HIF_BADADDR, rc := 0xFFFFFFFF },
    { off := R.HIF_AUTHCNT, rc := 0xFFFFFFFF },
    { off := R.HIF_REPLAYCNT, rc := 0xFFFFFFFF },
    { off := R.HIF_DENYCNT, rc := 0xFFFFFFFF },
    { off := R.HIF_INFLIGHT },
    { off := R.HIF_PUNTDROP, rc := 0xFFFFFFFF },
    { off := R.HIF_RSTDROP, rc := 0xFFFFFFFF },
    { off := R.HIF_INJDENY, rc := 0xFFFFFFFF },
    { off := R.HIF_LASTFN },
    { off := R.HIF_INJPROG, w1c := 0x00000001 },
    { off := R.HIF_FSTAT, n := 13, stride := 0x8, reset := 0x80000000, w1c := 0x40000000 },
    { off := R.HIF_FDATA, n := 13, stride := 0x8 },
    { off := R.HIF_PCMDTAIL, rw := 0x00000FFF },
    { off := R.HIF_PCPLTAIL, rw := 0x00000FFF },
    { off := R.HIF_PFREETAIL, n := 64, stride := 0x8, rw := 0x00003FFF },
    { off := R.HIF_PPCPLTAIL, n := 64, stride := 0x8, rw := 0x00003FFF },
    { off := R.HIF_PINJTAIL, n := 64, rw := 0x00003FFF }]

/-- FLT (R526) -/
def regsFlt : List RegRow :=
  [{ off := R.FLT_STAT0, w1c := 0xFFFFFFFF },
    { off := R.FLT_STAT1, w1c := 0xFFFFFFFF },
    { off := R.FLT_STAT2, w1c := 0xFFFFFFFF },
    { off := R.FLT_CTRL, reset := 0x0000000B, rw := 0x0000000F },
    { off := R.FLT_ERRPIN, reset := 0x00000100, rw := 0x0000FF01 },
    { off := R.FLT_NMI, w1c := 0x00000001 },
    { off := R.FLT_MUZZLE, reset := 0x00000070, rw := 0x00000070, w1c := 0x00000004 },
    { off := R.FLT_BRST, reset := 0x0001E000, rw := 0x0001FFFF, w1c := 0x00400000 },
    { off := R.FLT_CRST },
    { off := R.FLT_RSTCNT, rc := 0xFFFFFFFF },
    { off := R.FLT_RSTDROP, rc := 0xFFFFFFFF },
    { off := R.FLT_LASTRST, reset := 0x0001E000 },
    { off := R.FLT_FIRST, w1c := 0x00000080 },
    { off := R.FLT_SNAPCTL },
    { off := R.FLT_SNAPCFG, reset := 0x00000001, rw := 0x00000001 },
    { off := R.FLT_SNAPSTAT, ros := 0x0000000F },
    { off := R.FLT_SNAPMISS, rc := 0xFFFFFFFF },
    { off := R.FLT_SNAPBSLO, n := 4, stride := 0x10, ros := 0xFFFFFFFF },
    { off := R.FLT_SNAPBSHI, n := 4, stride := 0x10, ros := 0x0000FFFF },
    { off := R.FLT_SNAPBNS, n := 4, stride := 0x10, ros := 0x3FFFFFFF }] ++
  [{ off := R.FLT_SNAPBCAUSE, n := 4, stride := 0x10, ros := 0x000003FF }]

/-- KNL (R551) -/
def regsKnl : List RegRow :=
  [{ off := R.KNL_STAT, ros := 0x0000000F },
    { off := R.KNL_CTRL },
    { off := R.KNL_STRAP, ros := 0x000001FF },
    { off := R.KNL_BOOT, ros := 0x0000F040 }]

end Sys2Proof.Machine
end

