-- ==== Sys2Proof/Config.lean ====
section
/-! DEFINITION. What an implementation fixes and the free values: constants without a body, so that no statement can
lean on a value the spec leaves open. -/

namespace Sys2Proof.Config

/-- R2, R4, R5: true for an EN2564-S part. No register or strap distinguishes the variants (R4).
[DESIGN CHOICE, log 14] -/
opaque variantS : Bool

/-- R454: the 256-bit operator root key programmed in the fuses, as 32 bytes in key order. -/
opaque rootKey : List Byte

/-- R290: the draw of the sampler's 32-bit pseudo-random generator, whose algorithm the spec does not give. It is
applied to the state's free-value counter and reduced to the range R290 states. [DESIGN CHOICE, log 15] -/
opaque samplerDraw : Nat → Nat

/-- A 32-bit word the spec leaves open, one for each value of the state's free-value counter. -/
opaque freeWord : Nat → Word

/-- A byte the spec leaves open, one for each value of the state's free-value counter. -/
opaque freeByte : Nat → Byte

/-- R382, R384: the quotient of the thermal model by a thermal resistance or capacitance that the host has set to 0, which
the spec does not state, as a function of the dividend. -/
opaque divByZero : Int → Int

/-- R573: the error of a conversion of PLANT_SENSE, in codes: the spec bounds it and does not state it. One for each value of the
state's free-value counter, taken within the bound. [DESIGN CHOICE, log 136] -/
opaque plantError : Nat → Int

/-- R420: how far into the TSU's cycle the instant of a port timestamp lies, modulo 2^48 parts of it: the commands do not bring it.
[DESIGN CHOICE, log 147] -/
opaque stampPhase : Nat → Nat

/-- R94: operand A or B of a microword that takes the extractor's field while the extractor is idle (XOFFSRC 0): the spec gives it
no value. One for each microword. [DESIGN CHOICE, log 139] -/
opaque idleField : Word → Word

end Sys2Proof.Config
end

