-- ==== Sys2Proof/Machine/State.lean ====
section
/-! DEFINITION. The state of the EN2564: plain data, with the reset values as the fields' defaults. Registers and window
words whose fields software reads are held once, by address; the rest of the machine is held by block. -/

namespace Sys2Proof.Machine

/-- Why a command stops the model. [DEDUCED, log 18] -/
inductive Fault where
  /-- Raised by every command but a sensor reading and the board's rails and PORST_N, while an EN2564-S that was below 0 °C
  with its rails up has not been held in reset at or above 0 °C and released (R5). Safe: the model stops where no rule of
  the manual is guaranteed. -/
  | unratedTemperature
  deriving DecidableEq, Repr

/-- Why a command has no meaning. -/
inductive Refusal where
  /-- Raised by the dispatch for a command whose meaning is not written yet. Safe. -/
  | notModelled (mnemonic : String)
  deriving DecidableEq, Repr

/-- R36-R39: the window state of one block instance. -/
structure WinState where
  win : BitVec 8 := 0
  ainc : Bool := true
  partialLost : Bool := false
  addr : Word := 0
  /-- the captured entry: window, entry index, words -/
  capture : Option (Nat × Nat × List Word) := none
  /-- the staged words: word address and value, newest first -/
  staged : List (Nat × Word) := []
  deriving DecidableEq, Repr, Inhabited

/-- An access to an instance (R27, R31-R33): its function; the instance and offset, and the value of a write; or the store
of words of a window entry (window, entry, word numbers and values), as the last word's write makes it. -/
structure Access where
  fn : Nat := 0
  inst : InstId
  off : Nat := 0
  value : Option Word := none
  store : Option (Nat × Nat × List (Nat × Word)) := none
  /-- a part of a broadcast write -/
  bcast : Bool := false
  /-- an access to a reserved address (R28) -/
  reserved : Bool := false
  deriving DecidableEq, Repr, Inhabited

/-- R567: the level of an output pin: high impedance, electrical idle, low, high, or what its block drives. -/
inductive PinLevel where
  | highZ | idle | low | high | running
  deriving DecidableEq, Repr, Inhabited

/-- The output pins of R565 and R567: transmitters, time outputs, open-drain outputs, and the outputs of the DDR5 channels, AVSBus
masters, SPI flash, test port and Kennel. -/
inductive OutPin where
  | ethTx | pcieTx
  | tout (n : Fin 8) | ppsOut | synceClk (c : Fin 2) | snapOut
  | errN | nmiN | intN | thermtripN
  | ddrResetN (ch : Reg) | ddrOther (ch : Reg)
  | avs (sl : Slice)
  | spi | spiCsN | tdo | keepIntN
  deriving DecidableEq, Repr, Inhabited

/-- A frame from its first byte to its last copy (R43, R91). `bytes` holds what has been received, FCS included once
the frame is final. -/
structure Frame where
  inport : Port := 0
  bytes : List Byte := []
  final : Bool := false
  poison : Bool := false
  fcsBad : Bool := false
  cut : Bool := false
  injected : Bool := false
  sec : BitVec 48 := 0
  ns : BitVec 32 := 0
  frac : BitVec 16 := 0
  /-- packet SRAM cells of the ingress reserve charged (R276), and whether they moved to the shared pool (R281) -/
  ingCells : Nat := 0
  ingShared : Nat := 0
  maxfrm : Nat := 0
  /-- cells handed to the fabric, by egress slice (R281, R285) -/
  linked : Tbl Nat := {}
  /-- its cells are gone after a block reset of SWC (R516) -/
  gone : Bool := false
  deriving DecidableEq, Repr, Inhabited

/-- A result descriptor as COMMIT emits it (R92): 64 bytes, and the SAMPLE requests of its tail (R290). -/
structure Desc where
  fid : Nat := 0
  rd : List Byte := []
  samples : List (Nat × Bool) := []
  mdLen : Nat := 0
  lenFinal : Bool := true
  injected : Bool := false
  /-- ns of its COMMIT (R182) -/
  commitAt : Nat := 0
  deriving DecidableEq, Repr, Inhabited

/-- A copy of a frame from its admission on (R278, R279, R287). -/
structure Copy where
  /-- the model's own number of the copy, rising with admission -/
  cid : Nat := 0
  fid : Nat := 0
  /-- the egress slice and port, the queue within the slice (node × 8 + TCLASS) and the energy class -/
  eslice : Nat := 0
  port : Nat := 0
  queue : Nat := 0
  eclass : Nat := 0
  tid : Nat := 0
  edit : Nat := 0
  ovhd : Nat := 0
  args : List Byte := []
  len : Nat := 0
  /-- the charges of R279 -/
  a : Nat := 0
  b : Nat := 0
  s : Nat := 0
  ecnCap : Bool := false
  /-- CE mark asked of RWR (R282) -/
  ce : Bool := false
  multicast : Bool := false
  cutThrough : Bool := false
  puntCopy : Bool := false
  /-- the deep-tier buffer of the copy (R287), as slice byte address, from the start of its spill write on; and a
  read-back copy (R288). A gone copy with a buffer is dropped under DEEPUNC, one without under RSTDROP. -/
  deep : Option Nat := none
  wasDeep : Bool := false
  /-- its cells or buffer are gone after a block reset (R516) -/
  gone : Bool := false
  admitted : Nat := 0
  gateWaited : Bool := false
  deriving DecidableEq, Repr, Inhabited

/-- A frame handed to a MAC (R55, R58), or on the wire. -/
structure TxFrame where
  copy : Copy := {}
  /-- the rewritten head, and the frame as it leaves as far as it is known -/
  head : List Byte := []
  bytes : List Byte := []
  final : Bool := true
  /-- bytes that the PTP functions of the egress replace (R430) -/
  patch : List (Nat × Byte) := []
  /-- a cell read after the first byte was sent was uncorrectable (R263) -/
  bad : Bool := false
  /-- a block reset of RWR has cut it short (R516) -/
  cut : Bool := false
  deriving DecidableEq, Repr, Inhabited

/-- A lane or port of the port complex beyond its registers. [DESIGN CHOICE, log 108] -/
structure PortSt where
  /-- PRT_PCFG as applied at the last 0-to-1 of EN (R56) -/
  cfg : Word := 0
  /-- EN written before LANECAL_DONE (R536) -/
  waitCal : Bool := false
  /-- the frame in reception, or one being received but refused or discarded -/
  rx : Option Nat := none
  rxSkip : Bool := false
  /-- admitted frames in arrival order (R69), and released ones waiting for the split (R276) -/
  absorb : List Nat := []
  released : List Nat := []
  /-- 0 none, 1 Local Fault, 2 Remote Fault received (R55) -/
  rxFault : Nat := 0
  mac : List TxFrame := []
  tx : Option TxFrame := none
  /-- the last frame that left on the wire, and whether it ended with an error control character -/
  sent : List Byte := []
  sentErr : Bool := false
  /-- codewords and uncorrectable codewords of the running degrade window (R62) -/
  fecN : Nat := 0
  fecU : Nat := 0
  /-- the codeword whose bytes are arriving was uncorrectable (R60) -/
  cwBad : Bool := false
  /-- shedding in progress (R76): lanes still powered; and the position in the order of shedding -/
  shedLanes : Option Nat := none
  /-- transmitting Local Fault for shedding -/
  shedLF : Bool := false
  deriving DecidableEq, Repr, Inhabited

/-- A macro of the port complex beyond its registers. -/
structure MacroSt where
  absBytes : Nat := 0
  windowBytes : Nat := 0
  /-- PRT_ABSRATE of the last 16 windows, newest first (R395) -/
  rates : List Nat := []
  deriving DecidableEq, Repr, Inhabited

/-- What a source lookup of the L2 table asks of learning (R225). -/
structure Learn where
  key : BitVec 62
  lport : Byte
  inport : Byte
  deriving DecidableEq, Repr, Inhabited

/-- An outstanding lookup (R109, R110): its destination, the result words found at issue (R199), and what becomes
visible when the result returns. -/
structure Lookup where
  table : Nat := 0
  rd : Nat := 0
  nres : Nat := 0
  words : List Word := []
  /-- the matching row of the search arrays, to be counted (R190) -/
  countRow : Option Nat := none
  /-- rows that failed verification (R241), and whether three did -/
  falseRows : List Nat := []
  multi : Bool := false
  /-- damaged words met: TABLE of R214, ADDR of R215 -/
  damaged : List (Nat × Nat) := []
  /-- the L2 row of a source lookup, the data word it held at issue, and the learning -/
  learn : Option Learn := none
  l2row : Option Nat := none
  l2data : List Word := []
  mapErr : Bool := false
  deriving DecidableEq, Repr, Inhabited

/-- An active loop (R116): first and last body microword. -/
structure Loop where
  first : BitVec 14
  last : BitVec 14
  deriving DecidableEq, Repr, Inhabited

/-- A meter charge of the current run (R125, R358): meter, counted length, and which buckets were debited. -/
structure Charge where
  meter : Nat
  n : Int
  first : Bool
  second : Bool
  pending : Bool
  ovhd : Nat
  deriving DecidableEq, Repr, Inhabited

/-- A counter request (R359, R360). -/
structure CountReq where
  index : Nat
  tid : Nat
  len : Nat
  fid : Option Nat
  deriving DecidableEq, Repr, Inhabited

/-- A context (R87) with what its timing rules need. -/
structure Ctx where
  running : Bool := false
  w : Vector Word 16 := Vector.replicate 16 0
  k : Vector (BitVec 128) 4 := Vector.replicate 4 0
  z : Bool := false
  c : Bool := false
  n : Bool := false
  v : Bool := false
  pc : BitVec 14 := 0
  lc0 : BitVec 14 := 0
  lc1 : BitVec 14 := 0
  /-- active loops, outermost first (R116) -/
  loops : List Loop := []
  tid : Byte := 0
  view : Bool := false
  hp : Byte := 0
  frameView : Tbl Byte := {}
  scratch : Tbl Byte := {}
  /-- bytes of the two views with a parity error: frame byte i at i, scratch byte i at 256 + i (R155) -/
  hwBad : Tbl Bool := {}
  md : Tbl Byte := {}
  rd : Tbl Byte := {}
  /-- the next microword is a delay slot (R115): the taken target, if taken -/
  slot : Option (Option (BitVec 14)) := none
  /-- the next microword is a mode shadow (R117): TID and VIEW after it -/
  shadow : Option (Byte × Bool) := none
  look : Vector (Option Lookup) 4 := Vector.replicate 4 none
  committed : Bool := false
  tail : Nat := 0
  /-- counted issue and blocked cycles (R108, R131) -/
  cycles : Nat := 0
  /-- the entry bank the program started under (R101), its entry number, and the packet -/
  bank : Bool := false
  entry : Nat := 0
  restarted : Bool := false
  fid : Nat := 0
  seq : Word := 0
  epoch : Bool := false
  samples : List (Nat × Bool) := []
  charges : List Charge := []
  /-- tail requests not yet accepted (R119, R360) -/
  tailReqs : List CountReq := []
  /-- cycles for which END has waited for them (R119) -/
  endWait : Nat := 0
  /-- a housekeeping routine suspended at SAFE or by YIELD (R130) -/
  suspended : Bool := false
  yielded : Bool := false
  deriving DecidableEq, Repr, Inhabited

/-- A packet waiting to restart (R124). -/
structure Restart where
  fid : Nat
  seq : Word
  epoch : Bool
  bank : Bool
  entry : Nat
  notPup : Nat
  /-- it met an error of a store: it starts after the repair (R134) -/
  metError : Bool := false
  deriving DecidableEq, Repr, Inhabited

/-- The pup array of a slice beyond its registers and stores. [DEDUCED, log 36] -/
structure PupSt where
  /-- the word under repair (R134): nanoword store?, index; and writes held until it ends -/
  repair : Option (Bool × Nat) := none
  heldWrites : List (Nat × Nat × List Word) := []
  restarts : List Restart := []
  /-- pup groups under reset (R126) -/
  groupReset : List Nat := []
  /-- the pup last assigned (R177) -/
  rr : Nat := 383
  /-- consecutive abandons of each housekeeping routine (R132) -/
  abandons : Tbl Nat := {}
  injMw : Bool := false
  injNw : Bool := false
  /-- requests polled at SAFE (R130), beside HK_EN and the governor's pause: a preemption by other means than HK_EN, for
  which the spec gives no command, and snapshot freeze -/
  preempt : Bool := false
  freeze : Bool := false
  deriving DecidableEq, Repr, Inhabited

/-- Where a reserved slot of the reorder buffer stands (R180-R183). -/
inductive SlotSt where
  | open
  | committed (d : Desc)
  | ready (d : Desc)
  /-- skipped by R182; its frame has not yet committed or ended -/
  | skipped
  deriving DecidableEq, Repr, Inhabited

/-- A reserved slot: local port, sequence number, epoch and frame. -/
structure Slot where
  lp : Nat
  seq : Word
  epoch : Bool
  fid : Nat
  st : SlotSt
  deriving DecidableEq, Repr, Inhabited

/-- Parse and classify of a slice. -/
structure PclSt where
  seqs : Tbl Word := {}
  rob : List Slot := []
  /-- frames that have been split and wait for assignment, oldest first -/
  waiting : List Nat := []
  deriving DecidableEq, Repr, Inhabited

/-- A route (R218, R219): family, instance, prefix length, prefix and RDATA. [DESIGN CHOICE, log 46] -/
structure Route where
  v6 : Bool
  inst : Nat
  plen : Nat
  addr : BitVec 128
  rdata : BitVec 31
  deriving DecidableEq, Repr, Inhabited

/-- A queued or running FWD operation (R229): the code, the arguments, and the KCC function that waits for it. -/
structure FwdOp where
  op : Nat
  args : List Word
  deriving DecidableEq, Repr, Inhabited

/-- The forwarding tables of a slice beyond windows and registers. -/
structure FwdSt where
  routes : List Route := []
  run : Option FwdOp := none
  queue : List FwdOp := []
  /-- result of the operation that is running: status and row -/
  res : Nat × Nat := (0, 0)
  /-- words reported to the parity FIFO, newest first, at most 32 (R213): TABLE and ADDR of R214, TABLE + 32 and + 64 for the
  default actions of PCL windows 4 and 7 -/
  reported : List (Nat × Nat) := []
  filter : List (BitVec 62) := []
  learnQ : List (List Word) := []
  /-- L2 rows whose refresh is queued (R226) -/
  refreshQ : List Nat := []
  /-- damaged words of the LPM trie: the prefix of the node that the word is part of, and its raw address (R212, R215) -/
  badNodes : List (Route × Nat) := []
  /-- operations whose replaced trie nodes wait to be freed (R220) -/
  freeing : Nat := 0
  deriving DecidableEq, Repr, Inhabited

/-- A row of the search arrays (R232). -/
structure AsaRow where
  value : BitVec 160 := 0
  care : BitVec 160 := 0
  pf : Byte := 0
  pfcare : Byte := 0
  valid : Bool := false
  deriving DecidableEq, Repr, Inhabited

/-- The search arrays of a slice: the key shadow, the stored rows where they differ from it, rows disabled by a failed
verification or an uncorrectable shadow, and the rewrite queue (R232, R241-R243). -/
structure AsaSt where
  shadow : Tbl AsaRow := {}
  live : Tbl (Option AsaRow) := {}
  disabled : Tbl Bool := {}
  rewriteQ : List Nat := []
  /-- the error a shadow holds, and the rows that an uncorrectable one keeps disabled until the host writes them (R243) -/
  shadowErr : Tbl Ecc := {}
  lost : Tbl Bool := {}
  deriving DecidableEq, Repr, Inhabited

/-- An item of the punt reserve (R289): 0 punt, 1 copy, 2 sample, 3 capture record; its ring and its bytes. -/
structure PuntItem where
  kind : Nat := 0
  ring : Nat := 0
  /-- the frame of a punt or copy, whose bytes are read when the item is delivered -/
  fid : Nat := 0
  bytes : List Byte := []
  cells : Nat := 0
  /-- the cells it occupies, in frame order (R273) -/
  chain : List Nat := []
  inport : Nat := 0
  aux : Word := 0
  tsSec : Word := 0
  tsNs : Word := 0
  tid : Nat := 0
  tclass : Nat := 0
  seq : Word := 0
  deriving DecidableEq, Repr, Inhabited

/-- A frame stored in a slice's packet SRAM after admission (R285): cells, live copies with their shared charges. -/
structure Stored where
  cells : Nat := 0
  refs : Nat := 0
  shares : List Nat := []
  deriving DecidableEq, Repr, Inhabited

/-- The switch core of a slice. -/
structure SwcSt where
  /-- descriptors the reorder buffer has released, oldest first -/
  descs : List Desc := []
  /-- copies waiting for admission in this (egress) slice, oldest first -/
  admitQ : List Copy := []
  stored : Tbl Stored := {}
  gused : Tbl Nat := {}
  sused : Tbl Nat := {}
  tgused : Tbl Nat := {}
  tsused : Tbl Nat := {}
  spillUse : Tbl Nat := {}
  punts : List PuntItem := []
  puntUse : Nat := 0
  captures : List (List Byte) := []
  countdown : Tbl Nat := {}
  /-- samples discarded since the sampler's last summary item (R490) -/
  smpLost : Tbl Nat := {}
  /-- ns of the sampler's last summary item -/
  smpAt : Tbl Nat := {}
  /-- copies chosen for spill, and spill writes and drain reads in progress, as (queue, copy number), oldest first -/
  spillQ : List (Nat × Nat) := []
  spilling : List (Nat × Nat) := []
  draining : List (Nat × Nat) := []
  /-- shared cells held for frames waiting to cross to a sleeping slice (R281) -/
  heldShared : Nat := 0
  /-- the packet SRAM cells of each frame that the slice holds, in frame order; those of the capture records at 0; and those
  beyond a damaged link, which nothing reaches (R273, R274). Every other cell is free. [DESIGN CHOICE, log 120] -/
  cells : Tbl (List Nat) := {}
  leaked : List Nat := []
  /-- cells found unaccounted for in the last sweep (R299) -/
  suspect : List Nat := []
  /-- the cells allocated since the sweep of Retriever began that goes on, if one does (R299) -/
  fresh : Option (List Nat) := none
  /-- copies dequeued, waiting for their rewrite, oldest first -/
  rewriteQ : List Copy := []
  deriving DecidableEq, Repr, Inhabited

/-- A fabric link (R286): frames waiting to cross, failures of the current cell, failed retrains. -/
structure LinkSt where
  waiting : List Nat := []
  flying : List Nat := []
  fails : Nat := 0
  retraining : Bool := false
  retrainFails : Nat := 0
  deriving DecidableEq, Repr, Inhabited

/-- R314, R329, R335: a write of the housekeeping port: scrub's of a block that it has corrected, or compaction's of a lower buffer,
with the buffer that is moved, and the queue and number of its copy. -/
structure HkWrite where
  addr : Nat
  bytes : Nat
  move : Option (Nat × Nat × Nat) := none
  deriving DecidableEq, Repr, Inhabited

/-- The buffer pools of a slice (R294-R297): the pool of each page in use (1-4), reference counts by buffer address. -/
structure BpmSt where
  pageOwner : Tbl Nat := {}
  refs : Tbl Nat := {}
  retired : List Nat := []
  quarantined : List Nat := []
  /-- the housekeeping port's waiting write, and its waiting read as slice address and bytes (R314) -/
  hkWrite : Option HkWrite := none
  hkRead : Option (Nat × Nat) := none
  deriving DecidableEq, Repr, Inhabited

/-- A Heel tracker entry (R325): row identity and count. -/
structure HeelRow where
  row : Nat
  count : Nat
  deriving DecidableEq, Repr, Inhabited

/-- A deep-tier channel beyond its registers. -/
structure ChanSt where
  heel : Tbl (List HeelRow) := {}
  raa : Tbl Nat := {}
  /-- ports under a Heel throttle (R326) -/
  throttled : List Nat := []
  /-- ns of the uncorrectable errors of the last second, newest first (R321) -/
  ues : List Nat := []
  /-- correctable-error table (R331): location and count, newest first, at most 16 -/
  ceRows : List (DeepLoc × Nat) := []
  /-- repair candidates waiting for their page to empty, and whether an uncorrectable error made them (R331) -/
  candidates : List (DeepLoc × Bool) := []
  /-- consecutive MR4 reads at or below 85 °C, by rank (R323) -/
  coolReads : Tbl Nat := {}
  refreshes : Tbl Nat := {}
  prewoken : List Nat := []
  /-- by requester port (R314): the tokens that its bucket lacks to BURST, in 1/160 byte, and the ns at which this held -/
  short : Tbl Nat := {}
  filledAt : Tbl Nat := {}
  /-- the requester port served last (R314) -/
  served : Nat := 3
  repairing : Bool := false
  rfms : Nat := 0
  deriving DecidableEq, Repr, Inhabited

/-- The gates of a port (R363-R365): running, entry in force, longest windows (none: never closes). -/
structure GateSt where
  running : Bool := false
  entry : Option Nat := none
  /-- ns of TSU time at which the entry in force began, and at which it ends -/
  started : Nat := 0
  ends : Nat := 0
  base : Nat := 0
  longest : List (Option Nat) := []
  /-- the TransmissionOverrun count (R361) -/
  overruns : Nat := 0
  deriving DecidableEq, Repr, Inhabited

/-- The traffic manager of a slice: queues of copies, bucket levels, deficits, the energy gate's books. Bucket levels are
kept as the shortfall below the burst, so that an unlisted bucket is full. Units: bytes × 10^6 (R353). -/
structure TmgSt where
  queues : Tbl (List Copy) := {}
  nodeC : Tbl Int := {}
  nodeP : Tbl Int := {}
  svcC : Tbl Int := {}
  svcP : Tbl Int := {}
  portB : Tbl Int := {}
  mtrC : Tbl Int := {}
  mtrE : Tbl Int := {}
  /-- TSU cycle of each bucket's last refill -/
  nodeT : Tbl Nat := {}
  svcT : Tbl Nat := {}
  portT : Tbl Nat := {}
  mtrT : Tbl Nat := {}
  /-- deficits: by service (committed, excess), by node (committed, excess), by queue -/
  defSvcC : Tbl Int := {}
  defSvcX : Tbl Int := {}
  defNodeC : Tbl Int := {}
  defNodeX : Tbl Int := {}
  defQueue : Tbl Int := {}
  /-- the child a DRR round stands at: by port (C, X), by service (C, X), by node -/
  rrPortC : Tbl Nat := {}
  rrPortX : Tbl Nat := {}
  rrSvcC : Tbl Nat := {}
  rrSvcX : Tbl Nat := {}
  rrNode : Tbl Nat := {}
  /-- queues out of scheduling until the next refill (R368) -/
  refusedQ : List Nat := []
  e1Refused : Bool := false
  e23Refused : Bool := false
  /-- tokens × 1,024 paid for E0 and E1 in this interval, and cost refused in this millisecond -/
  paid01 : Nat := 0
  refusedCost : Nat := 0
  /-- allotments × 1,024 while division is in force (R386) -/
  allot : Option (List (Nat × Nat)) := none
  gates : Tbl GateSt := {}
  countQ : List CountReq := []
  /-- charges and counters that wait for the length of a frame (R358, R359), with the frame -/
  pendMtr : List (Nat × Charge) := []
  pendBytes : List (Nat × Nat) := []
  /-- counted bytes dequeued since a queue's last record (R374) -/
  sampled : Tbl Nat := {}
  srPhase : Bool := true
  deriving DecidableEq, Repr, Inhabited

/-- The governor of a slice. -/
structure EgvSt where
  /-- B in 1/1,024 token -/
  bucket : Int := 0
  /-- spreader node in µ°C -/
  th : Int := 0
  /-- the demand in force (R391), and the level a change in progress goes to (R389) -/
  want : Nat := 0
  changing : Option Nat := none
  /-- consecutive computations of a lower demand, and the highest of them (R391) -/
  falls : Nat := 0
  fallTo : Nat := 0
  /-- the clocks run at half rate (R402), since when, and the stretches of the last 10 ms, newest first (R404) -/
  droop : Bool := false
  droopSince : Nat := 0
  droops : List (Nat × Nat) := []
  droopCap : Option Nat := none
  /-- the fixed tasks that run, each with the housekeeping pup it occupies (R398) -/
  tasks : List (Nat × Nat) := []
  /-- ns of the last rise that a quarter-full absorption buffer made (R391) -/
  pressAt : Option Nat := none
  /-- ns at which the slice fell asleep (R385) -/
  sleptAt : Option Nat := none
  deriving DecidableEq, Repr, Inhabited

/-- The device governor. -/
structure GovSt where
  /-- package node in µ°C, and whether the nodes have started (R382) -/
  tp : Int := 0
  init : Bool := false
  /-- R405, R406: stages asked by PMB_ALERT_N and by PLANT_SENSE; windows in a row at or below each threshold -/
  pmbStage : Nat := 0
  plantStage : Nat := 0
  below : Tbl Nat := {}
  /-- ms of sprint time of the current sprint, and ms since the last one ended (R399) -/
  sprintMs : Nat := 0
  sinceSprint : Nat := 10000
  /-- ms of sprint time that the Kennel's bins do not hold yet (R400) -/
  unbinned : Nat := 0
  /-- ports shed, in order of shedding, with the stage that shed them; ports still to shed -/
  shed : List (Nat × Nat) := []
  toShed : List (Nat × Nat) := []
  /-- the holds of R410 and R401 -/
  s6Held : Bool := false
  t115Held : Bool := false
  /-- ns of the last write of EGV_TAMB (R383) -/
  tambAt : Option Nat := none
  /-- draining under S5MODE 1 (R409) -/
  drain5 : Bool := false
  deriving DecidableEq, Repr, Inhabited

/-- A committed TOUT schedule (R436). Times in ns. -/
structure ToutSt where
  mode : Nat := 0
  start : Nat := 0
  period : Nat := 0
  width : Nat := 0
  next : Nat := 0
  pin : Bool := false
  deriving DecidableEq, Repr, Inhabited

/-- A capture latch (R440). -/
structure Latch where
  valid : Bool := false
  ovr : Bool := false
  sec : BitVec 48 := 0
  ns : BitVec 32 := 0
  deriving DecidableEq, Repr, Inhabited

/-- The time and sync unit beyond its registers. -/
structure TsuSt where
  /-- R418: seconds, nanoseconds, and the fraction in 2^-48 ns -/
  sec : BitVec 48 := 0
  ns : Nat := 0
  frac : Nat := 0
  /-- TSU cycles since the clock started -/
  cycles : Nat := 0
  /-- FREQ (R422), and the remaining slew in 2^-48 ns (R424) -/
  freq : Int := 0
  slew : Int := 0
  /-- the value last written to TSU_FREQHI (R422) -/
  freqHi : BitVec 8 := 0
  tout : Tbl ToutSt := {}
  pps : Bool := false
  latches : Tbl Latch := {}
  /-- ns of the last edge of TIN[0-3] and PPS_IN (4), by input (R440) -/
  edgeAt : Tbl (Option Nat) := {}
  snapTime : Nat := 0
  ksetPending : Bool := false
  txPhase : Bool := true
  deriving DecidableEq, Repr, Inhabited

/-- A KCC command (R475). -/
structure Cmd where
  opcode : Nat := 0
  tag : Nat := 0
  batch : Bool := false
  fn : Nat := 0
  seq : Nat := 0
  payload : List Byte := []
  icv : List Byte := []
  /-- a KEY_LOAD taken without steps 2 and 3 (R481) -/
  bare : Bool := false
  /-- the number of its fetch: the model's own, which tells commands of equal SEQ apart -/
  no : Nat := 0
  deriving DecidableEq, Repr, Inhabited

/-- A load of a key slot (algorithm, role, key and salt), or its clearing, that waits for the requests accepted under the
slot (R457), and its command. -/
structure KeyLoad where
  key : Option (Nat × Nat × List Byte × List Byte) := none
  reset : Bool := false
  cmd : Cmd := {}
  deriving DecidableEq, Repr, Inhabited

/-- A key slot (R451, R469); its mark is in the Kennel's store. -/
structure KeySlot where
  loaded : Bool := false
  alg : Nat := 0
  role : Nat := 0
  key : List Byte := []
  salt : List Byte := []
  counter : Nat := 0
  exhausted : Bool := false
  /-- loaded with RESET = 1 since the last fuse load (R461) -/
  fresh : Bool := false
  /-- the Kennel mark being written (R460, R480) -/
  writing : Option Nat := none
  pendingLoad : Option KeyLoad := none
  deriving DecidableEq, Repr, Inhabited

/-- What a request of the keyed check engine serves: a MAC command; the check of a fetched command, with its bytes 0-47 and
whether TAGF [15:13] is 0 (R478); the image being loaded (R138); or a check whose function was lost meanwhile (R486). -/
inductive KceUse where
  | mac
  | check (bytes : List Byte) (clean : Bool)
  | image
  | void
  deriving DecidableEq, Repr, Inhabited

/-- A request of the keyed check engine (R462, R463). -/
structure KceReq where
  cmd : Cmd := {}
  use : KceUse := .mac
  /-- the number of a fetched command, rising with the fetches (R478) -/
  no : Nat := 0
  slot : Nat := 0
  verify : Bool := false
  urgent : Bool := false
  msg : List Byte := []
  tagLen : Nat := 16
  counter : Nat := 0
  /-- the trailer of a verification, and the result address of a generation -/
  trailer : List Byte := []
  result : Nat := 0
  /-- ns at which its last byte was in the engine -/
  since : Nat := 0
  deriving DecidableEq, Repr, Inhabited

/-- The keyed check engine beyond registers and slots (R463, R464): the urgent, check and normal queues, the cores, the
suspended messages, and the generations that wait for a mark (R460). -/
structure KceSt where
  slots : Tbl KeySlot := {}
  urgent : List KceReq := []
  checks : List KceReq := []
  normal : List KceReq := []
  cores : Tbl (Option KceReq) := {}
  suspended : Tbl (Option KceReq) := {}
  waiting : List KceReq := []
  deriving DecidableEq, Repr, Inhabited

/-- A completion (R476). -/
structure Cpl where
  tag : Nat := 0
  /-- of an accepted command, and not a repetition -/
  acc : Bool := false
  cached : Bool := false
  staged : Bool := false
  status : Nat := 0
  opcode : Nat := 0
  fn : Nat := 0
  seq : Nat := 0
  /-- the ICV of the command, and the number of its fetch -/
  icv : List Byte := []
  no : Nat := 0
  result : List Byte := []
  deriving DecidableEq, Repr, Inhabited

/-- A cached accepted command (R479): its SEQ, its ICV, its completion once it has one, and the number of its fetch. -/
structure CacheEnt where
  seq : Nat
  icv : List Byte
  cpl : Option Cpl
  no : Nat := 0
  deriving DecidableEq, Repr, Inhabited

/-- A function of the host interface. -/
structure FnSt where
  lastSeq : Nat := 0
  cache : List CacheEnt := []
  /-- accepted commands to execute, oldest first -/
  accepted : List Cmd := []
  /-- a KEY_LOAD fetched while slot 0 is empty, whose blob has yet to show the slot it names (R481); and whether its TAGF
  [15:13] is 0 -/
  unproved : Option (Cmd × Bool) := none
  /-- duplicates held until their original completes (R479), each under the number of its original -/
  dups : List Cmd := []
  /-- completions to write -/
  done : List Cpl := []
  outstanding : Nat := 0
  /-- number and TAG of the accepted commands that are outstanding (R478 step 4) -/
  tags : List (Nat × Nat) := []
  batch : Bool := false
  held : List (Cmd × List Word) := []
  batchWrote : Bool := false
  phase : Bool := true
  /-- completions of commands accepted before an FLR are cached and not written (R486): their numbers -/
  muted : List Nat := []
  deriving DecidableEq, Repr, Inhabited

/-- A word of an event FIFO (R490). -/
structure FifoWord where
  data : Word
  start : Bool
  fin : Bool
  deriving DecidableEq, Repr, Inhabited

/-- An event FIFO: words, the last word read, items its producers wait to post. -/
structure FifoSt where
  words : List FifoWord := []
  last : Word := 0
  waiting : List (List Word) := []
  deriving DecidableEq, Repr, Inhabited

/-- A punt ring (R487): cached free descriptors (class, address), oldest first, and PHASE. -/
structure RingSt where
  cache : List (Nat × BitVec 64) := []
  phase : Bool := true
  deriving DecidableEq, Repr, Inhabited

/-- An image load in progress (R138). -/
structure LoadSt where
  fn : Nat
  base : Bool
  imgId : Nat
  bankB : Bool
  image : List Byte
  keySlot : Nat
  cmd : Cmd
  deriving DecidableEq, Repr, Inhabited

/-- The host interface beyond its registers. [DESIGN CHOICE, log 20] -/
structure HifSt where
  fns : Tbl FnSt := {}
  fifos : Tbl FifoSt := {}
  rings : Tbl RingSt := {}
  /-- data returned by the last register read, and the last configuration request's answer (true: CRS) -/
  readData : Word := 0
  crs : Bool := true
  /-- the value the last configuration request answered, where the spec states one (R472) -/
  cfgData : Option Nat := none
  /-- MSI-X enabled, and its function mask set, by function (R510); vectors held back by a function mask -/
  msixOn : Tbl Bool := {}
  msixMask : Tbl Bool := {}
  /-- vectors whose own mask is clear, by 64 × function + vector -/
  msixOpen : Tbl Bool := {}
  msixHeld : List (Nat × Nat) := []
  /-- the LTSSM trains -/
  training : Bool := false
  /-- what the device has written to host memory -/
  mem : List Host.Cell := []
  /-- MSI-X vectors sent, newest first, as (function, vector) -/
  msi : List (Nat × Nat) := []
  load : Option LoadSt := none
  flashBusy : Bool := false
  /-- the next slice HIF serves (R289), the next function (R477), and the next inject ring (R489) -/
  puntRr : Nat := 0
  kccRr : Nat := 0
  injRr : Nat := 0
  /-- commands fetched so far: the model's own number of a fetched command -/
  fetchNo : Nat := 0
  deriving DecidableEq, Repr, Inhabited

/-- A block reset in progress (R516): target index (R268), group, and whether FLT_BRST asked for it. -/
structure BlockReset where
  target : Nat
  group : Nat
  asked : Bool := false
  deriving DecidableEq, Repr, Inhabited

/-- The fault collector beyond its registers. -/
structure FltSt where
  frozen : Option (Word × Word) := none
  missed : Bool := false
  bark : Bool := false
  resets : List BlockReset := []
  /-- resets of sleeping slices that wait for the wake (R517) -/
  waiting : List BlockReset := []
  /-- register shadows of the trigger being copied, and the bank -/
  shadow : Option (Nat × List (Nat × Word)) := none
  /-- bank contents by window key of R523, none while nothing is latched; order of use for SNAP_WRAP -/
  banks : Tbl (Option (List (Nat × Word))) := {}
  bankOrder : List Nat := []
  lastTrigger : Option Nat := none
  /-- the last trigger that did not merge took no snapshot (R522) -/
  lastMissed : Bool := false
  snapOut : Bool := false
  /-- a chip reset waiting for the copy (R501): cause -/
  chipPending : Option Nat := none
  sealed : Bool := false
  /-- the condition of EGV_T115 lasts (R401, R504) -/
  t115 : Bool := false
  /-- sources detected by a reset's own effects, collected after it -/
  toRaise : List Nat := []
  thermtrip : Bool := false
  deriving DecidableEq, Repr, Inhabited

/-- The Kennel (R544-R551). [DESIGN CHOICE, log 12] -/
structure KnlSt where
  store : Tbl Byte := ⟨[(0, 0x4B), (1, 0x4E), (2, 0x4C), (3, 0x31), (4, 1)]⟩
  sec : BitVec 48 := 0
  ticks : Nat := 0
  /-- stopped because the crystal shows no edges -/
  stopped : Bool := false
  ptr : BitVec 16 := 0
  inten : Byte := 0
  intstat : Byte := 0
  setsec : BitVec 48 := 0
  /-- last bytes read over two wires, and whether the last write was refused -/
  readBytes : List Byte := []
  nack : Bool := false
  freshInit : Bool := false
  deriving DecidableEq, Repr, Inhabited

/-- The states of the controller of the test access port (R565). [PRESUMED, log 137] -/
inductive TapState where
  | testLogicReset | runTestIdle
  | selectDr | captureDr | shiftDr | exit1Dr | pauseDr | exit2Dr | updateDr
  | selectIr | captureIr | shiftIr | exit1Ir | pauseIr | exit2Ir | updateIr
  deriving DecidableEq, Repr, Inhabited

/-- R565: the test access port: its inputs at the levels that their pulls give them, its controller, the bypass register, and what
TDO drives. [PRESUMED, log 137] -/
structure TapSt where
  tck : Bool := false
  tms : Bool := true
  tdi : Bool := true
  trstN : Bool := false
  state : TapState := .testLogicReset
  bypass : Bool := false
  tdo : Option Bool := none
  deriving DecidableEq, Repr, Inhabited

/-- Resets and start-up (R533-R538), and the test access port. [DESIGN CHOICE, log 106] -/
structure BootSt where
  vkeep : Bool := true
  vaon : Bool := true
  porstLow : Bool := false
  sysrstLow : Bool := false
  perstLow : Bool := false
  /-- in chip reset, not yet released; and the start-up's phases yet to end -/
  inReset : Bool := false
  fullStart : Bool := true
  avs : Bool := false
  /-- the part is an EN2564-S that has been below 0 °C with its rails up, and the manual's guarantee has not returned (R5) -/
  unrated : Bool := false
  /-- the sensors, as 6 × slice + number, whose last reading since PORST_N took hold of the powered part is at or above 0 °C (R5) -/
  warm : List Nat := []
  tap : TapSt := {}
  deriving DecidableEq, Repr, Inhabited

/-- The state of the block. [DESIGN CHOICE, log 1] -/
structure State where
  /-- the commands that wait, first in first out -/
  pending : List Instr := []
  /-- time in ns since the model started; one per idle step -/
  time : Nat := 0
  /-- the model's own counter of free values drawn -/
  free : Nat := 0
  /-- registers, by byte address (R27) -/
  regs : Tbl Word := {}
  /-- window words, by instance, window and word address (R36-R39) -/
  win : Tbl Word := {}
  /-- window words stored with a parity error -/
  bad : Tbl Bool := {}
  wst : Tbl WinState := {}
  held : List Access := []
  frames : Tbl Frame := {}
  nextFrame : Nat := 1
  nextCopy : Nat := 1
  ports : Tbl PortSt := {}
  macros : Tbl MacroSt := {}
  ctxs : Tbl Ctx := {}
  pups : Tbl PupSt := {}
  pcls : Tbl PclSt := {}
  /-- ns at which the last commit was made (R196), and the image identifier of the base image (R139) -/
  commitAt : Nat := 0
  baseImg : Nat := 0
  fwds : Tbl FwdSt := {}
  asas : Tbl AsaSt := {}
  swcs : Tbl SwcSt := {}
  links : Tbl LinkSt := {}
  hrPhase : Bool := true
  /-- the configuration signatures last computed, by instance index (R266) -/
  sigs : Tbl Word := {}
  bpms : Tbl BpmSt := {}
  chans : Tbl ChanSt := {}
  /-- the deep-tier bytes that DEEP_WRITE has written, by `State.deepKey` (R309, R483) -/
  deepMem : Tbl (Option Byte) := {}
  tmgs : Tbl TmgSt := {}
  egvs : Tbl EgvSt := {}
  /-- what the governor counts, by 16 × slice + counter: 0-11 the activity counters of the last 1 ms (R416); 12 packets
  assigned, 13 issue cycles and 14 dequeues since the last demand computation (R391) -/
  acts : Tbl Nat := {}
  /-- ns at which the fabric cells of the last 10 µs arrived, newest first, by slice (R395) -/
  fabIn : Tbl (List Nat) := {}
  gov : GovSt := {}
  tsu : TsuSt := {}
  kce : KceSt := {}
  hif : HifSt := {}
  flt : FltSt := {}
  knl : KnlSt := {}
  boot : BootSt := {}
  deriving DecidableEq, Repr, Inhabited

/-- The machine right after reset: every register and window at the value its chapter states, nothing in flight.
[DESIGN CHOICE, log 10; DESIGN CHOICE, log 11] -/
def State.reset : State := {}

end Sys2Proof.Machine
end

