-- ==== Sys2Proof/WellFormed.lean ====
section
/-! DEFINITION. Well-formed commands: the operands name objects that exist, and a command that stands for a write of
one bit has that bit. -/

namespace Sys2Proof

/-- The slice instances and the broadcast (R24). -/
def slOrAll (inst : Fin 16) : Bool := inst.val < 4 || inst.val = 15

/-- R24: the block has slice instances. -/
def Block.sliced : Block → Bool
  | .egv | .prt | .pup | .pcl | .rwr | .fwd | .asa | .swc | .bpm | .dtc | .tmg => true
  | .knl | .tsu | .kce | .hif | .flt => false

/-- R24: the block has instance 4. -/
def Block.single : Block → Bool
  | .egv | .knl | .swc | .tsu | .kce | .hif | .flt => true
  | .prt | .pup | .pcl | .rwr | .fwd | .asa | .bpm | .dtc | .tmg => false

/-- R24: the instance is present; the broadcast instance 15 is not one. -/
def InstId.present (i : InstId) : Bool := (i.inst.val < 4 && i.block.sliced) || (i.inst.val = 4 && i.block.single)

/-- The instances that have an indirect window. PRT and DTC have none (R36); BPM and SWC instance 4 list no window
registers (R303, R304). -/
def InstId.hasWindow (i : InstId) : Bool :=
  i.present && match i.block with
    | .prt | .dtc | .bpm => false
    | .swc => i.inst.val < 4
    | _ => true

/-- An instance whose window a command may address, the broadcast included (R31). -/
def InstId.windowed (i : InstId) : Bool :=
  i.hasWindow || (i.inst.val = 15 && InstId.hasWindow { i with inst := 0 })

/-- R85: a housekeeping pup has only context 0. -/
def CtxId.wf (x : CtxId) : Bool := x.pup.val < 384 || x.ctx.val = 0

/-- The operands of the command are of a form that the row admits. -/
def Instr.wf : Instr → Bool
  | .registerWrite _ addr _ => addr % 4 = 0
  | .readClear _ addr => addr % 4 = 0
  | .heldAccessPerform => true
  | .wselWrite i _ => i.windowed
  | .waddrWrite i _ => i.windowed
  | .wdataRead i => i.windowed
  | .wdataWrite i _ => i.windowed
  | .pllLock _ _ => true
  | .pllLockLoss _ _ => true
  | .portEnable _ v => bit v 0
  | .portDisable _ v => !bit v 0
  | .signalDetect _ => true
  | .anComplete _ => true
  | .trainingComplete _ => true
  | .trainingTimeout _ => true
  | .lockAchieved _ => true
  | .lockTimeout _ => true
  | .alignComplete _ => true
  | .alignTimeout _ => true
  | .calComplete _ _ _ => true
  | .lossOfSignal _ => true
  | .faultSequenceStart _ _ => true
  | .faultSequenceEnd _ => true
  | .fecCodeword _ _ => true
  | .fecDegWindowEnd _ => true
  | .frameReceiveStart _ bytes => bytes ≠ []
  | .frameReceiveEnd _ _ _ => true
  | .absorptionRelease _ _ => true
  | .absrateWindowEnd _ => true
  | .frameSplit _ => true
  | .lpiTxEntry _ => true
  | .lpiRxEntry _ => true
  | .lpiRxExit _ => true
  | .shedTimerExpiry _ => true
  | .frameTransmitStart _ _ => true
  | .frameTransmitEnd _ => true
  | .packetAssign _ => true
  | .packetRestart _ => true
  | .watchdogExpiry x => x.wf
  | .hkWatchdogExpiry x => x.wf
  | .lookupResult x _ _ => x.wf
  | .lookupTimeout x _ => x.wf
  | .storeRepairComplete _ => true
  | .pupScrubCheck _ _ _ => true
  | .ebankWrite inst _ => slOrAll inst
  | .runWrite inst _ => slOrAll inst
  | .parityInjectNw inst v => slOrAll inst && bit v 4
  | .parityInjectMw inst v => slOrAll inst && bit v 3
  | .hkRoutineResume _ _ _ => true
  | .nop x => x.wf
  | .mov x _ _ => x.wf
  | .add x _ _ _ => x.wf
  | .sub x _ _ _ => x.wf
  | .and x _ _ _ => x.wf
  | .or x _ _ _ => x.wf
  | .xor x _ _ _ => x.wf
  | .andn x _ _ _ => x.wf
  | .shl x _ _ _ => x.wf
  | .shr x _ _ _ => x.wf
  | .sar x _ _ _ => x.wf
  | .rol x _ _ _ => x.wf
  | .minu x _ _ _ => x.wf
  | .maxu x _ _ _ => x.wf
  | .adc x _ _ _ => x.wf
  | .sbc x _ _ _ => x.wf
  | .tst x _ => x.wf
  | .cmpf x _ _ => x.wf
  | .movi x _ _ => x.wf
  | .addi x _ _ _ => x.wf
  | .subi x _ _ _ => x.wf
  | .andi x _ _ _ => x.wf
  | .ori x _ _ _ => x.wf
  | .xori x _ _ _ => x.wf
  | .shli x _ _ _ => x.wf
  | .shri x _ _ _ => x.wf
  | .sari x _ _ _ => x.wf
  | .roli x _ _ _ => x.wf
  | .minui x _ _ _ => x.wf
  | .maxui x _ _ _ => x.wf
  | .addsi x _ _ _ => x.wf
  | .cmpfi x _ _ => x.wf
  | .sethp x _ _ => x.wf
  | .sethpi x _ => x.wf
  | .movw x _ _ => x.wf
  | .orh x _ _ => x.wf
  | .addw x _ _ => x.wf
  | .movk x _ _ _ => x.wf
  | .ext8 x _ _ => x.wf
  | .ext16 x _ _ => x.wf
  | .ext24 x _ _ => x.wf
  | .ext32 x _ _ => x.wf
  | .extnh x _ _ => x.wf
  | .extnl x _ _ => x.wf
  | .ext12 x _ _ => x.wf
  | .ext3 x _ _ => x.wf
  | .ext20 x _ _ => x.wf
  | .ext6 x _ _ => x.wf
  | .ext13 x _ _ => x.wf
  | .extr8 x _ _ => x.wf
  | .extr16 x _ _ => x.wf
  | .extr32 x _ _ => x.wf
  | .xmd8 x _ _ => x.wf
  | .xmd16 x _ _ => x.wf
  | .xmd32 x _ _ => x.wf
  | .xk32 x _ _ _ => x.wf
  | .xtk32 x _ _ _ => x.wf
  | .xtk16 x _ _ _ => x.wf
  | .dep8 x _ => x.wf
  | .dep16 x _ => x.wf
  | .dep32 x _ => x.wf
  | .cmpEq x _ _ => x.wf
  | .cmpNe x _ _ => x.wf
  | .cmpLtu x _ _ => x.wf
  | .cmpLeu x _ _ => x.wf
  | .cmpGtu x _ _ => x.wf
  | .cmpGeu x _ _ => x.wf
  | .cmpLt x _ _ => x.wf
  | .cmpLe x _ _ => x.wf
  | .cmpGt x _ _ => x.wf
  | .cmpGe x _ _ => x.wf
  | .cmpAny x _ _ => x.wf
  | .cmpAll x _ _ => x.wf
  | .cmpiEq x _ _ => x.wf
  | .cmpiNe x _ _ => x.wf
  | .cmpiLtu x _ _ => x.wf
  | .cmpiLeu x _ _ => x.wf
  | .cmpiGtu x _ _ => x.wf
  | .cmpiGeu x _ _ => x.wf
  | .cmpiLt x _ _ => x.wf
  | .cmpiLe x _ _ => x.wf
  | .cmpiGt x _ _ => x.wf
  | .cmpiGe x _ _ => x.wf
  | .cmpiAny x _ _ => x.wf
  | .cmpiAll x _ _ => x.wf
  | .rng x _ _ _ => x.wf
  | .br x _ => x.wf
  | .bz x _ => x.wf
  | .bnz x _ => x.wf
  | .bc x _ => x.wf
  | .bnc x _ => x.wf
  | .bn x _ => x.wf
  | .bnn x _ => x.wf
  | .bv x _ => x.wf
  | .bnv x _ => x.wf
  | .blt x _ => x.wf
  | .bge x _ => x.wf
  | .bhi x _ => x.wf
  | .bls x _ => x.wf
  | .jr x _ => x.wf
  | .loop x _ _ => x.wf
  | .loopr x _ _ => x.wf
  | .wait x _ => x.wf
  | .lpm4 x _ _ => x.wf
  | .lpm6 x _ _ => x.wf
  | .lbl x _ _ => x.wf
  | .nh x _ _ => x.wf
  | .sess x _ _ => x.wf
  | .pvlan x _ _ => x.wf
  | .bd x _ _ => x.wf
  | .l2 x _ _ => x.wf
  | .meter x _ _ => x.wf
  | .count x _ _ => x.wf
  | .sample x _ _ => x.wf
  | .srch160 x _ _ _ => x.wf
  | .srch320 x _ _ _ => x.wf
  | .srch640 x _ _ _ => x.wf
  | .rdst1 x _ _ => x.wf
  | .rdst2 x _ _ => x.wf
  | .rdst4 x _ _ => x.wf
  | .rdst8 x _ _ => x.wf
  | .rdsti1 x _ _ => x.wf
  | .setcol x _ => x.wf
  | .setdp x _ => x.wf
  | .setusr x _ _ => x.wf
  | .setcoli x _ => x.wf
  | .setdpi x _ => x.wf
  | .mode x _ => x.wf
  | .moder x _ _ => x.wf
  | .commit x => x.wf
  | .end_ x => x.wf
  | .cmtend x => x.wf
  | .drop x => x.wf
  | .trd x _ _ _ => x.wf
  | .trd2 x _ _ _ => x.wf
  | .twr x _ _ _ => x.wf
  | .twr2 x _ _ _ => x.wf
  | .safe x => x.wf
  | .yield x => x.wf
  | .customerNanoword x _ => x.wf
  | .descriptorRelease _ _ => true
  | .robTimeout _ _ => true
  | .routeAdd4 _ _ _ _ => true
  | .routeDel4 _ _ _ => true
  | .routeAdd6 _ _ _ _ _ _ _ => true
  | .routeDel6 _ _ _ _ _ _ => true
  | .l2Insert _ _ _ _ _ => true
  | .l2Delete _ _ _ => true
  | .l2Agedel _ _ => true
  | .fwdOpComplete _ => true
  | .trieNodeFree _ => true
  | .l2RefreshWrite _ => true
  | .pendingFilterExpiry _ => true
  | .learnQueueToFifo _ => true
  | .ageClockTick _ => true
  | .asaPartitionWrite inst _ _ => slOrAll inst
  | .asaRowRewrite _ => true
  | .asaScrubRow _ _ _ => true
  | .frameRewrite _ _ => true
  | .configSignatureRecompute i => i.present
  | .descriptorResolve _ _ => true
  | .headerCaptureWrite _ => true
  | .copyAdmit _ => true
  | .fabricCellCross l _ => l.src ≠ l.dst
  | .fabricCellReceive l _ => l.src ≠ l.dst
  | .fabricRetrainComplete l _ => l.src ≠ l.dst
  | .copySpill _ _ => true
  | .spillWriteComplete _ => true
  | .drainReadback _ _ => true
  | .drainReadComplete _ _ _ _ => true
  | .sharedPoolConfigWrite inst _ _ => slOrAll inst
  | .hrcfgEnable v => bit v 8
  | .retrieverSweepEnd _ => true
  | .puntDeliver _ => true
  | .freeDescriptorPrefetch _ _ _ => true
  | .injectFetch _ desc _ => desc.length = 64
  | .dimmDescribe _ _ _ => true
  | .trainingStart _ v => bit v 0
  | .ddrTrainingComplete _ _ _ lanes => lanes.length = 80
  | .channelEnable _ v => bit v 0
  | .channelDisable _ v => !bit v 0
  | .memberWrite _ _ => true
  | .bpmEnable inst _ => slOrAll inst
  | .caParityAlert _ _ => true
  | .mr4Poll _ _ _ _ => true
  | .refreshIssue _ _ => true
  | .dramActivate _ _ _ _ _ _ _ => true
  | .heelHoldExpiry _ _ => true
  | .heelWindowClear _ _ => true
  | .deepScrubBlock _ _ _ _ _ => true
  | .hpprRequest _ v => bit v 5
  | .hpprComplete _ _ => true
  | .spprApply _ _ => true
  | .rankSelfRefreshEntry _ _ => true
  | .rankMpsmEntry _ _ => true
  | .rankWake _ _ => true
  | .compactionMove _ _ _ _ _ _ => true
  | .copyDequeue _ => true
  | .energyRefill _ => true
  | .subscriberNodeWrite inst _ w => slOrAll inst && w.length = 5
  | .serviceNodeWrite inst _ w => slOrAll inst && w.length = 5
  | .meterConfigWrite inst _ w => slOrAll inst && w.length = 5
  | .gateConfigWrite inst _ entry w => slOrAll inst && w.length = (match entry with | some _ => 2 | none => 7)
  | .gateEnable inst _ w2 => slOrAll inst && bit w2 0
  | .gateEntryChange _ => true
  | .countRequestApply _ => true
  | .queueSampleRecord _ _ => true
  | .samplerEnable inst _ => slOrAll inst
  | .sensorSample _ _ _ => true
  | .governorTick => true
  | .dvfsCompute _ => true
  | .levelChangeComplete _ _ => true
  | .dozeEntry _ => true
  | .napEntry _ => true
  | .deepEntry _ => true
  | .wakeComplete _ => true
  | .hkTaskStart _ _ _ => true
  | .sprintBinUpdate => true
  | .droopDetect _ => true
  | .droopRecover _ => true
  | .droopLongEnd _ => true
  | .plantWindow volts => volts.length = 16
  | .pmbAlert _ => true
  | .stageFall => true
  | .stageForceWrite _ => true
  | .stageThresholdWrite _ _ => true
  | .s5DrainEnd => true
  | .s6Halt => true
  | .s6Release => true
  | .freqCommit _ => true
  | .offsetWrite _ => true
  | .stepWrite _ => true
  | .timeArm _ => true
  | .armExpiry => true
  | .armCancel v => bit v 0
  | .timeLatchRead => true
  | .toutArm _ v => bit v 2
  | .toutPulse _ => true
  | .toutPulseEnd _ => true
  | .ppsOutPulse => true
  | .ppsOutPulseEnd => true
  | .tinEdge _ _ => true
  | .captureRead _ => true
  | .snapArm v => bit v 0
  | .snapCompareFire => true
  | .recoveredClockResume _ => true
  | .ksetWrite v => bit v 1
  | .kennelTimeFollow => true
  | .keyLoad _ _ => true
  | .keyLoadApply _ => true
  | .keyClear _ => true
  | .macGen _ _ => true
  | .macVerify _ _ => true
  | .kceRequestComplete _ _ _ => true
  | .messageResume _ => true
  | .kennelMarkWriteComplete _ => true
  | .kennelMarkTimeout _ => true
  | .commandFetch _ cmd => cmd.length = 64
  | .commandCompletionWrite _ => true
  | .kccNop _ => true
  | .tblWrite _ _ => true
  | .tblRead _ _ => true
  | .fwdOp _ => true
  | .batchOpen _ => true
  | .batchCommit _ => true
  | .batchAbort _ => true
  | .commitVersion _ => true
  | .imageLoad _ _ => true
  | .imageLoadVerify _ => true
  | .deepRead _ _ _ _ _ => true
  | .deepWrite _ _ => true
  | .flashRead _ _ _ => true
  | .flashWrite _ _ => true
  | .flashErase _ => true
  | .tenantMapWrite _ w => w.length = 21
  | .functionLevelReset _ => true
  | .pcieLinkLoss => true
  | .ltssmStart => true
  | .fifoItemPost _ => true
  | .fifoRead _ => true
  | .twoWireRead _ _ => true
  | .twoWireWrite _ _ => true
  | .setgo v => v = 0xA5
  | .kennelAck v => v = 0x5A
  | .knlCtrlAck v => bit v 0
  | .faultDetect _ _ => true
  | .conditionRedetect _ => true
  | .barkPulseEnd => true
  | .muzzleForce v => bit v 3
  | .muzzleRelease v => bit v 1
  | .blockResetRequest v => bit v 20
  | .blockResetEnd _ _ => true
  | .chipResetRequest v => v.toNat % 256 = 0xC5
  | .snapFireWrite v => bit v 0
  | .snapInEdge => true
  | .snapOutEnd => true
  | .snapshotCopyComplete => true
  | .snapBankFree v => fld v 8 4 ≠ 0
  | .statusFreezeRead => true
  | .statusThawRead => true
  | .vkeepRise => true
  | .vkeepLoss => true
  | .vaonRemove => true
  | .porstNAssert => true
  | .porstNRelease _ => true
  | .sysrstNAssert => true
  | .sysrstNRelease => true
  | .perstNAssert => true
  | .perstNRelease => true
  | .fuseLoadComplete _ => true
  | .flashBootReadDone _ => true
  | .selfTestComplete _ => true
  | .laneCalibrationComplete => true
  | .avsbusTakeover => true
  | .xtalFail => true
  | .xtalReturn => true
  | .vaonRise => true
  | .pcieLinkUp speed width => 1 ≤ speed.val && [1, 2, 4, 8].contains width.val
  | .slewComplete => true
  | .configurationRequest _ _ => true
  | .registerRead _ addr => addr % 4 = 0
  | .unassignedBaseNanoword x _ => x.wf

end Sys2Proof
end

