-- ==== Sys2Proof/Machine/WinMap.lean ====
section
/-! DEFINITION. The indirect windows: for each block instance the windows it defines, their entries and words, the
fields of each word, and the reset contents. -/

namespace Sys2Proof.Machine

/-- Region and block number of R18. -/
def blockNo : Block → Nat × Nat
  | .egv => (0, 0)
  | .knl => (0, 1)
  | .prt => (1, 0)
  | .pup => (2, 0)
  | .pcl => (2, 1)
  | .rwr => (2, 2)
  | .fwd => (3, 0)
  | .asa => (3, 1)
  | .swc => (4, 0)
  | .bpm => (4, 1)
  | .dtc => (4, 2)
  | .tmg => (5, 0)
  | .tsu => (6, 0)
  | .kce => (6, 1)
  | .hif => (7, 0)
  | .flt => (7, 1)

/-- The block of a region and block number. -/
def blockOf : Nat → Nat → Option Block
  | 0, 0 => some .egv
  | 0, 1 => some .knl
  | 1, 0 => some .prt
  | 2, 0 => some .pup
  | 2, 1 => some .pcl
  | 2, 2 => some .rwr
  | 3, 0 => some .fwd
  | 3, 1 => some .asa
  | 4, 0 => some .swc
  | 4, 1 => some .bpm
  | 4, 2 => some .dtc
  | 5, 0 => some .tmg
  | 6, 0 => some .tsu
  | 6, 1 => some .kce
  | 7, 0 => some .hif
  | 7, 1 => some .flt
  | _, _ => none

/-- R268: the instance index REGION × 1,024 + BLOCK × 16 + INST, bits [24:12] of the instance's base address. -/
def instIndex (i : InstId) : Nat := (blockNo i.block).1 * 1024 + (blockNo i.block).2 * 16 + i.inst.val

/-- The instance of an index, when its block exists. -/
def instOfIndex (k : Nat) : Option InstId :=
  (blockOf (k / 1024) (k / 16 % 64)).map fun b => ⟨b, Fin.ofNat 16 k⟩

/-- Instance `n` of a block. -/
def instOf (b : Block) (n : Nat) : InstId := ⟨b, Fin.ofNat 16 n⟩

/-- The instance of a block in a slice. -/
def slInst (b : Block) (sl : Slice) : InstId := instOf b sl.val

/-- R498, R499: the default class of a source. -/
def defaultClass (src : Nat) : Nat :=
  if src < 84 then
    match src / 4 with
    | 1 => 2
    | 2 | 6 | 11 | 16 => 1
    | 4 => 3
    | _ => 0
  else match src with
    | 88 | 91 => 3
    | 89 | 92 | 95 => 4
    | 90 => 1
    | _ => 0

/-- R499: the sources whose class is fixed. -/
def fixedSrc (src : Nat) : Bool := src = 89 || src = 92 || src = 95

/-- R500: the reset value of a source's word of FLT window 4. -/
def srcReset (src : Nat) : Nat :=
  let c := defaultClass src
  c + (if fixedSrc src then 8 else 0) + 16 + (if 3 ≤ c then 32 + 128 else 0) + (if 2 ≤ c then 64 else 0)

/-- Entries and words per entry of the windows a block instance defines. -/
def winDim (i : InstId) (w : Nat) : Option (Nat × Nat) :=
  if !i.hasWindow then none else
  match i.block, w with
  | .pup, 0 => some (16384, 1)
  | .pup, 1 => some (4096, 8)
  | .pup, 2 => some (256, 1)
  | .pup, 3 => some (256, 1)
  | .pcl, 0 => some (64, 2)
  | .pcl, 1 => some (64, 2)
  | .pcl, 2 => some (64, 1)
  | .pcl, 3 => some (16, 4)
  | .pcl, 4 => some (16, 4)
  | .pcl, 5 => some (65536, 4)
  | .pcl, 6 => some (65536, 2)
  | .pcl, 7 => some (16, 4)
  | .fwd, 0 => some (1048576, 2)
  | .fwd, 1 => some (262144, 4)
  | .fwd, 2 => some (262144, 4)
  | .fwd, 3 => some (1048576, 2)
  | .fwd, 4 => some (16384, 2)
  | .fwd, 5 => some (32768, 2)
  | .fwd, 6 => some (8, 4)
  | .fwd, 7 => some (256, 1)
  | .asa, 0 => some (65536, 11)
  | .asa, 1 => some (32, 1)
  | .asa, 2 => some (4096, 1)
  | .asa, 3 => some (16, 20)
  | .rwr, 0 => some (65536, 17)
  | .rwr, 1 => some (4096, 32)
  | .rwr, 7 => some (8192, 1)
  | .swc, 0 => some (512, 1)
  | .swc, 1 => some (256, 2)
  | .swc, 2 => some (524288, 1)
  | .swc, 3 => some (64, 3)
  | .swc, 4 => some (65536, 1)
  | .swc, 5 => some (262144, 2)
  | .swc, 6 => some (16, 2)
  | .swc, 7 => some (64, 1)
  | .swc, 8 => some (524288, 2)
  | .swc, 9 => some (256, 2)
  | .tmg, 0 => some (65536, 5)
  | .tmg, 1 => some (4096, 5)
  | .tmg, 2 => some (64, 7)
  | .tmg, 3 => some (16, 3)
  | .tmg, 4 => some (16384, 2)
  | .tmg, 5 => some (131072, 5)
  | .tmg, 6 => some (1048576, 4)
  | .tmg, 7 => some (256, 2)
  | .egv, 0 => if i.inst.val = 4 then some (8, 1) else some (256, 1)
  | .egv, 1 => if i.inst.val = 4 then none else some (19, 2)
  | .egv, 2 => if i.inst.val = 4 then none else some (64, 1)
  | .tsu, 0 => some (256, 1)
  | .kce, 0 => some (512, 5)
  | .hif, 0 => some (256, 21)
  | .hif, 1 => some (385, 8)
  | .flt, 0 => some (8388608, 1)
  | .flt, 1 => some (8388608, 1)
  | .flt, 2 => some (8388608, 1)
  | .flt, 3 => some (8388608, 1)
  | .flt, 4 => some (96, 1)
  | .flt, 5 => some (96, 1)
  | .knl, 0 => some (2048, 1)
  | _, _ => none

/-- The fields of word `k` of entry `e` that a window write stores (R14). Nanowords and edit lists are stored whole, since R98 and R256
test their reserved bits. [DEDUCED, log 138] -/
def winMask (b : Block) (w e k : Nat) : Word :=
  match b, w with
  | .pup, 2 | .pup, 3 => 0x00FFFFFF
  | .pcl, 2 => 0x1FF
  | .pcl, 3 | .pcl, 4 | .pcl, 5 | .pcl, 7 => if k = 0 then 0x7FFFFFFF else 0xFFFFFFFF
  | .fwd, 1 => if k = 0 then 0x03FFFFFF else if k = 1 then 0x003FFFFF else 0xFFFFFFFF
  | .fwd, 2 => if k = 0 then 0x03FFFFFF else if k = 1 then 0xFF01FFFF else if k = 2 then 0x803FFFFF else 0xFFFFFFFF
  | .fwd, 5 => 0
  | .fwd, 7 => 0xFFFF
  | .asa, 0 => if k = 10 then 0x1FFFF else 0xFFFFFFFF
  | .asa, 1 => 0xFFFF
  | .asa, 2 => 0x3F
  | .rwr, 7 => 0
  | .swc, 0 => 0x00FFFFFF
  | .swc, 1 => if k = 0 then 0x07FFFFFF else 0x000FFFFF
  | .swc, 2 => 0x3F
  | .swc, 3 => if k = 1 then 0x000FFFFF else 0x0007FFFF
  | .swc, 4 => 0xBFFFFFFF
  | .swc, 5 => if k = 0 then 0xC3FFFFFF else 0x003FFFFF
  | .swc, 6 => if k = 0 then 0xFFFFFFFF else 1
  | .swc, 7 => 0x3F
  | .swc, 8 | .swc, 9 => 0
  | .tmg, 0 => match k with
    | 0 => 0x87FFFFFF
    | 1 | 3 => 0x07FFFFFF
    | 2 => 0xFFFFFFFF
    | _ => 0x00FFFFFF
  | .tmg, 1 => match k with
    | 0 => 0x803FFFFF
    | 1 | 3 => 0x07FFFFFF
    | _ => 0x00FFFFFF
  | .tmg, 2 => match k with
    | 0 => 0x07FFFFFF
    | 1 => 0x00FFFFFF
    | 2 => 0x0003FFFF
    | 3 | 4 => 0x3FFFFFFF
    | 5 => 0xFFFFFFFF
    | _ => 0xFFFF
  | .tmg, 3 => if k = 0 then 7 else 0xFFFFFFFF
  | .tmg, 4 => if k = 0 then 0xFF else 0xFFFFFFFF
  | .tmg, 5 => match k with
    | 0 => 0x3FF
    | 1 | 3 => 0x07FFFFFF
    | _ => 0x00FFFFFF
  | .tmg, 7 => if k = 0 then 0xFFFFF else 0x1FFFFF
  | .egv, 1 => if k = 0 then 0xFFFFFFFF else 0x1FFFF
  | .egv, 2 => 0xFFFF
  | .tsu, 0 => 0x3F
  | .kce, 0 => 0
  | .hif, 0 => match k with
    | 0 | 1 => 0xFFFFF
    | 2 | 3 | 4 | 5 | 13 | 14 => 0x3FFFF
    | 6 => 0xFFFF
    | 7 => 0x3FFF3FFF
    | 8 | 9 => 0x1FFFF
    | 11 => 0x0FFF0FFF
    | _ => 0xFFFFFFFF
  | .hif, 1 =>
    if e ≤ 256 then match k with
      | 0 => 0xFFFFFFC0
      | 2 => 0x001F011F
      | 3 => 0xFFFFFFE0
      | 5 | 6 => 0xFFF
      | 7 => 0
      | _ => 0xFFFFFFFF
    else if e < 321 then match k with
      | 0 => 0xFFFFFFF0
      | 2 => 0x00011F1F
      | 3 => 0xFFFFFFE0
      | 5 | 6 => 0x3FFF
      | _ => 0xFFFFFFFF
    else match k with
      | 0 => 0xFFFFFFC0
      | 1 => 0xFFFFFFFF
      | 2 => 0x11F
      | 3 => 0x3FFF
      | _ => 0
  | .flt, 0 | .flt, 1 | .flt, 2 | .flt, 3 => 0
  | .flt, 4 => 0x1F7
  | .knl, 0 => 0
  | _, _ => 0xFFFFFFFF

/-- The fields of a window word that a write of instance `i` stores: EGV window 0 holds tenant weights in a slice instance
and coefficients in instance 4 (R416). -/
def winMaskAt (i : InstId) (w e k : Nat) : Word :=
  if i.block = .egv ∧ w = 0 then (if i.inst.val = 4 then 0xFFFF else 0xFF) else winMask i.block w e k

/-- R14: the words of an entry as a read shows them: the reserved bits of a nanoword (R94) and of an edit list (R253, R254) read 0.
[DEDUCED, log 138] -/
def shownWords (b : Block) (w : Nat) (l : List Word) : List Word :=
  match b, w with
  | .pup, 1 => l.zipWith (· &&& ·)
    [0xFFFFF7FF, 0x0FFFFFFF, 0x0007FFFF, 0xFF0FFFFF, 0x0007FFFF, 0xFFFFFFFF, 0x00007FFF, 0]
  | .rwr, 0 => l.zipIdx.map fun (v, k) => v &&& if k = 0 then 0x07FFFFFF else 0x0FFFFFFF
  | _, _ => l

/-- The reset value of word `k` of entry `e`, where it is not 0. -/
def winReset (i : InstId) (w e k : Nat) : Word :=
  match i.block, w with
  | .pcl, 0 | .pcl, 1 => if k = 0 then 0xFFFFFFFF else 0
  | .pcl, 2 => 0x100
  | .fwd, 7 => BitVec.ofNat 32 (e + e * 256)
  | .swc, 0 => BitVec.ofNat 32 (6 * 2 ^ 19)
  | .swc, 1 => if k = 0 then BitVec.ofNat 32 (128 * 2 ^ 19) else 0
  | .swc, 3 => if k = 2 then 0 else 0x7FFFF
  | .tmg, 2 => match k with
    | 0 => 0x07FFFFFF
    | 1 => 16446
    | 2 => 0x200
    | 3 => 1000000
    | _ => 0
  | .tmg, 3 => if k = 0 then 0 else 0x01010101
  | .tmg, 7 => if e = 0 ∧ k = 1 then 1048576 else 0
  | .egv, 0 => if i.inst.val = 4 then 0 else 16
  | .egv, 1 =>
    if e < 16 then (if k = 0 then BitVec.ofNat 32 (1000 + 100 * 65536) else BitVec.ofNat 32 (10 + 65536))
    else if e = 16 then (if k = 0 then BitVec.ofNat 32 (10 * 65536) else 50)
    else if e = 17 then (if k = 0 then BitVec.ofNat 32 (600 * 65536) else BitVec.ofNat 32 (200 + 65536))
    else (if k = 0 then 100 else BitVec.ofNat 32 (100 + 65536))
  | .hif, 0 => match k with
    | 0 | 2 | 4 | 6 | 7 | 8 | 10 | 11 | 12 | 13 => 1
    | _ => 0
  | .hif, 1 =>
    if k = 2 then (if e ≤ 256 then 0x00090009 else if e < 321 then 0x00000A0A else 10) else 0
  | .flt, 4 => BitVec.ofNat 32 (srcReset e)
  | _, _ => 0

/-- The key of a window word in the state: instance index, window and word address. -/
def winKey (i : InstId) (w a : Nat) : Nat := (instIndex i * 256 + w) * 2 ^ 32 + a

/-- The reset value of the window word with key `key`. [DESIGN CHOICE, log 8] -/
def winResetAt (key : Nat) : Word :=
  match instOfIndex (key / 2 ^ 40) with
  | none => 0
  | some i =>
    let w := key / 2 ^ 32 % 256
    match winDim i w with
    | none => 0
    | some (_, n) => winReset i w (key % 2 ^ 32 / n) (key % 2 ^ 32 % n)

end Sys2Proof.Machine
end

