-- ==== Sys2Proof/Machine/Ops.lean ====
section
/-! DEFINITION. The named operations over registers, windows and the parts of the state that every chapter uses. -/

namespace Sys2Proof.Machine

/-- A command's effect as an outcome: the machine always goes on. -/
abbrev Out := Host.Outcome State Fault Refusal

/-! ### Registers (R13, R27-R30) -/

/-- The register table of an instance. [DESIGN CHOICE, log 7] -/
def regTable (i : InstId) : List RegRow :=
  match i.block with
  | .egv => if i.inst.val = 4 then regsEgv4 else regsEgvS
  | .knl => regsKnl
  | .prt => regsPrt
  | .pup => regsPup
  | .pcl => regsPcl
  | .rwr => regsRwr
  | .fwd => regsFwd
  | .asa => regsAsa
  | .swc => if i.inst.val = 4 then regsSwc4 else regsSwcS
  | .bpm => regsBpm
  | .dtc => regsDtc
  | .tmg => regsTmg
  | .tsu => regsTsu
  | .kce => regsKce
  | .hif => regsHif
  | .flt => regsFlt

/-- R29, R30: the offset within a macro's or a channel's space. -/
def subOff (b : Block) (off : Nat) : Nat :=
  match b with
  | .prt => off % 512
  | .dtc => off % 1024
  | _ => off

/-- The offset is one of the row's registers. -/
def RegRow.covers (r : RegRow) (off : Nat) : Bool :=
  r.off ≤ off && (off - r.off) % r.stride = 0 && decide ((off - r.off) / r.stride < r.n)

/-- The table row of a register, none at an undefined offset (R28). -/
def regRow (i : InstId) (off : Nat) : Option RegRow :=
  if i.present then (regTable i).find? (·.covers (subOff i.block off)) else none

/-- R27: the byte address of a register. -/
def regAddr (i : InstId) (off : Nat) : Nat := instIndex i * 4096 + off % 4096

/-- The reset value of the register at a byte address. -/
def regResetAt (a : Nat) : Word :=
  match instOfIndex (a / 4096) with
  | none => 0
  | some i => ((regRow i (a % 4096)).map (·.reset)).getD 0

/-- The stored value of a register. [DEDUCED, log 21] -/
def State.reg (s : State) (i : InstId) (off : Nat) : Word := s.regs.getD (regResetAt (regAddr i off)) (regAddr i off)

/-- Store a register whole. -/
def State.setReg (s : State) (i : InstId) (off : Nat) (v : Word) : State :=
  { s with regs := s.regs.setD (regResetAt (regAddr i off)) (regAddr i off) v }

/-- A field of a register. -/
def State.regF (s : State) (i : InstId) (off lo width : Nat) : Nat := fld (s.reg i off) lo width

/-- One bit of a register. -/
def State.regB (s : State) (i : InstId) (off k : Nat) : Bool := bit (s.reg i off) k

/-- Store a field of a register. -/
def State.setRegF (s : State) (i : InstId) (off lo width v : Nat) : State :=
  s.setReg i off (setFld (s.reg i off) lo width v)

/-- Store one bit of a register. -/
def State.setRegB (s : State) (i : InstId) (off k : Nat) (b : Bool) : State := s.setReg i off (setBit (s.reg i off) k b)

/-- Add to a counter field, saturating at its maximum (R78, R140). -/
def State.count (s : State) (i : InstId) (off : Nat) (lo : Nat := 0) (width : Nat := 32) (n : Nat := 1) : State :=
  s.setRegF i off lo width (satAdd (s.regF i off lo width) n width)

/-- The value of a write of the host: RW fields take it, W1C fields are cleared where it is 1, and every other field
keeps its value (R13, R14). [DEDUCED, log 27] -/
def hostWrite (r : RegRow) (old v : Word) : Word :=
  (old &&& ~~~ (r.rw ||| r.w1c)) ||| (v &&& r.rw) ||| (old &&& r.w1c &&& ~~~ v)

/-- The value left by a read: RC fields return to their reset value (R13). -/
def afterRead (r : RegRow) (old : Word) : Word := (old &&& ~~~ r.rc) ||| (r.reset &&& r.rc)

/-- Perform a host write of a register at its own offset, without further effects. -/
def State.plainWrite (s : State) (i : InstId) (off : Nat) (v : Word) : State :=
  match regRow i off with
  | none => s
  | some r => s.setReg i off (hostWrite r (s.reg i off) v)

/-- The RC effect of a read. -/
def State.clearRc (s : State) (i : InstId) (off : Nat) : State :=
  match regRow i off with
  | none => s
  | some r => s.setReg i off (afterRead r (s.reg i off))

/-! ### Windows (R36-R39) -/

/-- A stored window word. -/
def State.winWord (s : State) (i : InstId) (w a : Nat) : Word := s.win.getD (winResetAt (winKey i w a)) (winKey i w a)

/-- Store a window word whole; a word written so has good parity. -/
def State.setWinWord (s : State) (i : InstId) (w a : Nat) (v : Word) : State :=
  { s with win := s.win.setD (winResetAt (winKey i w a)) (winKey i w a) v, bad := s.bad.set (winKey i w a) false }

/-- Words per entry of a window (1 where it is not defined). -/
def winWords (i : InstId) (w : Nat) : Nat := ((winDim i w).map (·.2)).getD 1

/-- Word `k` of entry `e`. -/
def State.ent (s : State) (i : InstId) (w e k : Nat) : Word := s.winWord i w (e * winWords i w + k)

/-- Store word `k` of entry `e`. -/
def State.setEnt (s : State) (i : InstId) (w e k : Nat) (v : Word) : State := s.setWinWord i w (e * winWords i w + k) v

/-- Entry `e` whole. -/
def State.entry (s : State) (i : InstId) (w e : Nat) : List Word :=
  (List.range (winWords i w)).map fun k => s.ent i w e k

/-- Store the words of entry `e` from word `k` on. -/
def State.setEntry (s : State) (i : InstId) (w e : Nat) : Nat → List Word → State
  | _, [] => s
  | k, v :: r => (s.setEnt i w e k v).setEntry i w e (k + 1) r

/-- The word at word address `a` is damaged (R212, R375). -/
def State.badWord (s : State) (i : InstId) (w a : Nat) : Bool := s.bad.get (winKey i w a)

/-- Some word of entry `e` is damaged. -/
def State.badEntry (s : State) (i : InstId) (w e : Nat) : Bool :=
  (List.range (winWords i w)).any fun k => s.badWord i w (e * winWords i w + k)

/-- The window state of an instance. -/
def State.wsOf (s : State) (i : InstId) : WinState := s.wst.get (instIndex i)

def State.setWs (s : State) (i : InstId) (x : WinState) : State := { s with wst := s.wst.set (instIndex i) x }

/-! ### The parts of a slice -/

def State.pup (s : State) (sl : Slice) : PupSt := s.pups.get sl.val
def State.updPup (s : State) (sl : Slice) (f : PupSt → PupSt) : State := { s with pups := s.pups.upd sl.val f }
def State.pcl (s : State) (sl : Slice) : PclSt := s.pcls.get sl.val
def State.updPcl (s : State) (sl : Slice) (f : PclSt → PclSt) : State := { s with pcls := s.pcls.upd sl.val f }
def State.fwd (s : State) (sl : Slice) : FwdSt := s.fwds.get sl.val
def State.updFwd (s : State) (sl : Slice) (f : FwdSt → FwdSt) : State := { s with fwds := s.fwds.upd sl.val f }
def State.asa (s : State) (sl : Slice) : AsaSt := s.asas.get sl.val
def State.updAsa (s : State) (sl : Slice) (f : AsaSt → AsaSt) : State := { s with asas := s.asas.upd sl.val f }
def State.swc (s : State) (sl : Slice) : SwcSt := s.swcs.get sl.val
def State.updSwc (s : State) (sl : Slice) (f : SwcSt → SwcSt) : State := { s with swcs := s.swcs.upd sl.val f }
def State.bpm (s : State) (sl : Slice) : BpmSt := s.bpms.get sl.val
def State.updBpm (s : State) (sl : Slice) (f : BpmSt → BpmSt) : State := { s with bpms := s.bpms.upd sl.val f }
def State.tmg (s : State) (sl : Slice) : TmgSt := s.tmgs.get sl.val
def State.updTmg (s : State) (sl : Slice) (f : TmgSt → TmgSt) : State := { s with tmgs := s.tmgs.upd sl.val f }
def State.egv (s : State) (sl : Slice) : EgvSt := s.egvs.get sl.val
def State.updEgv (s : State) (sl : Slice) (f : EgvSt → EgvSt) : State := { s with egvs := s.egvs.upd sl.val f }
def State.port (s : State) (p : Nat) : PortSt := s.ports.get p
def State.updPort (s : State) (p : Nat) (f : PortSt → PortSt) : State := { s with ports := s.ports.upd p f }
def State.macro (s : State) (m : Nat) : MacroSt := s.macros.get m
def State.updMacro (s : State) (m : Nat) (f : MacroSt → MacroSt) : State := { s with macros := s.macros.upd m f }
def State.chan (s : State) (c : Nat) : ChanSt := s.chans.get c
def State.updChan (s : State) (c : Nat) (f : ChanSt → ChanSt) : State := { s with chans := s.chans.upd c f }
def State.frame (s : State) (f : Nat) : Frame := s.frames.get f
def State.updFrame (s : State) (f : Nat) (g : Frame → Frame) : State := { s with frames := s.frames.upd f g }
/-- R60, R61: the frame has ended, poisoned or with a failed check. -/
def Frame.bad (f : Frame) : Bool := f.final && (f.poison || f.fcsBad)
def State.fn (s : State) (f : Nat) : FnSt := s.hif.fns.get f
def State.updFn (s : State) (f : Nat) (g : FnSt → FnSt) : State :=
  { s with hif := { s.hif with fns := s.hif.fns.upd f g } }

/-- The key of a context: slices of 388 pups of 8 contexts. -/
def ctxKey (x : CtxId) : Nat := (x.slice.val * 388 + x.pup.val) * 8 + x.ctx.val

/-- The context of a key. -/
def ctxOfKey (k : Nat) : CtxId := ⟨Fin.ofNat 4 (k / 8 / 388), Fin.ofNat 388 (k / 8), Fin.ofNat 8 k⟩

def State.ctx (s : State) (x : CtxId) : Ctx := s.ctxs.get (ctxKey x)
def State.setCtx (s : State) (x : CtxId) (c : Ctx) : State := { s with ctxs := s.ctxs.set (ctxKey x) c }
def State.updCtx (s : State) (x : CtxId) (f : Ctx → Ctx) : State := s.setCtx x (f (s.ctx x))

/-- All slices, in order (R31). -/
def slices : List Slice := [0, 1, 2, 3]

/-- The slice instances that an INST field addresses (R31). -/
def instSlices (inst : Fin 16) : List Slice :=
  if inst.val = 15 then slices else if inst.val < 4 then [Fin.ofNat 4 inst.val] else []

/-- Apply an operation to each member of a list in order. -/
def forAll {α : Type} (l : List α) (f : α → State → State) (s : State) : State := l.foldl (fun t a => f a t) s

/-! ### The governor's counters (R391, R395, R416) -/

/-- A counter of a slice: 0-11 as R416 numbers them, 12 packets assigned, 13 issue cycles, 14 dequeues. -/
def State.actOf (s : State) (sl : Slice) (k : Nat) : Nat := s.acts.get (16 * sl.val + k)

/-- Count `n` events. -/
def State.noteAct (s : State) (sl : Slice) (k n : Nat) : State := { s with acts := s.acts.upd (16 * sl.val + k) (· + n) }

/-! ### Free values -/

/-- Draw a word the spec leaves open. [DESIGN CHOICE, log 13] -/
def State.drawWord (s : State) : Word × State := (Config.freeWord s.free, { s with free := s.free + 1 })

/-! ### Non-slice instances -/

abbrev swc4 : InstId := ⟨.swc, 4⟩
abbrev egv4 : InstId := ⟨.egv, 4⟩
abbrev knl4 : InstId := ⟨.knl, 4⟩
abbrev tsu4 : InstId := ⟨.tsu, 4⟩
abbrev kce4 : InstId := ⟨.kce, 4⟩
abbrev hif4 : InstId := ⟨.hif, 4⟩
abbrev flt4 : InstId := ⟨.flt, 4⟩

/-! ### The port complex's registers (R29, R78) -/

/-- The slice of a port or lane. -/
def portSlice (p : Nat) : Slice := Fin.ofNat 4 (p / 64)

/-- The offset of a macro register of the macro of lane `p`. -/
def macOff (p off : Nat) : Nat := p / 8 % 8 * 512 + off

/-- The offset of a lane register of lane `p`. -/
def laneOff (p off : Nat) : Nat := p / 8 % 8 * 512 + off + 32 * (p % 8)

/-- A lane's register, a macro's register. -/
def State.laneReg (s : State) (p off : Nat) : Word := s.reg (slInst .prt (portSlice p)) (laneOff p off)
def State.macReg (s : State) (p off : Nat) : Word := s.reg (slInst .prt (portSlice p)) (macOff p off)
def State.setLane (s : State) (p off lo width v : Nat) : State :=
  s.setRegF (slInst .prt (portSlice p)) (laneOff p off) lo width v
def State.setMac (s : State) (p off lo width v : Nat) : State :=
  s.setRegF (slInst .prt (portSlice p)) (macOff p off) lo width v
def State.countLane (s : State) (p off : Nat) (n : Nat := 1) : State :=
  s.count (slInst .prt (portSlice p)) (laneOff p off) 0 32 n
def State.countMac (s : State) (p off lo width : Nat) (n : Nat := 1) : State :=
  s.count (slInst .prt (portSlice p)) (macOff p off) lo width n

/-- R54: the state code of a port. -/
def State.portState (s : State) (p : Nat) : Nat := fld (s.laneReg p R.PRT_PSTAT) 0 4

/-- R54: the port is in UP. -/
def State.portUp (s : State) (p : Nat) : Bool := s.portState p = 7

/-- The DTC register of a channel (R30). -/
def chInst (c : Nat) : InstId := instOf .dtc (c / 4 % 4)
def chOff (c off : Nat) : Nat := c % 4 * 1024 + off
def State.chReg (s : State) (c off : Nat) : Word := s.reg (chInst c) (chOff c off)
def State.chF (s : State) (c off lo width : Nat) : Nat := fld (s.chReg c off) lo width
def State.setChF (s : State) (c off lo width v : Nat) : State := s.setRegF (chInst c) (chOff c off) lo width v

/-! ### Block resets (R516) -/

/-- R537: slice `sl` failed self-test, and is held in reset. [DEDUCED, log 28] -/
def State.failed (s : State) (sl : Slice) : Bool := s.regB knl4 R.KNL_BOOT (12 + sl.val)

/-- An instance, or a group of a PUP instance, is under block reset, or held in reset with its slice (R537). -/
def State.inBlockReset (s : State) (i : InstId) (group : Nat := 15) : Bool :=
  (s.flt.resets.any fun r => decide (r.target = instIndex i) && decide (r.group = group))
    || (decide (i.inst.val < 4) && s.failed (Fin.ofNat 4 i.inst.val))

/-! ### Sleep of a slice (R33, R394) -/

/-- 0 awake, 1 Doze, 2 Nap, 3 Deep. -/
def State.sleep (s : State) (sl : Slice) : Nat := s.regF (slInst .egv sl) R.EGV_SSTAT 8 2

/-- The slice is awake, and not held in reset for a failed self-test. -/
def State.awake (s : State) (sl : Slice) : Bool := s.sleep sl = 0 && !s.failed sl

/-- Ask the governor to wake a slice: the wake is in progress until WAKE_COMPLETE. -/
def State.requestWake (s : State) (sl : Slice) : State :=
  if s.sleep sl = 0 || s.failed sl then s else s.setRegB (slInst .egv sl) R.EGV_SSTAT 10 true

/-- R409: the supply stage in force. -/
def State.stage (s : State) : Nat := s.regF egv4 R.EGV_PLANT 24 3

/-! ### Detected sources -/

/-- Note that a fault source is detected; the collector takes its reactions when the command's own effect is done.
`group` is the pup group of PUP_POSTCMT. -/
def State.noteFault (s : State) (src : Nat) (group : Nat := 15) : State :=
  { s with flt := { s.flt with toRaise := s.flt.toRaise ++ [src + 128 * group] } }

/-! ### Interrupts and event FIFOs (R473, R490, R509) -/

/-- No mask holds a vector back: neither the function's nor its own; the PF's vector 63 is sent whatever they hold (R510). -/
def State.vectorOpen (s : State) (fn vec : Nat) : Bool :=
  (fn = 0 && vec = 63) || (!s.hif.msixMask.get fn && s.hif.msixOpen.get (64 * fn + vec))

/-- Send an MSI-X vector of a function: nothing where its MSI-X is disabled; a masked vector is held. [PRESUMED, log 110] -/
def State.sendMsi (s : State) (fn vec : Nat) : State :=
  if !s.hif.msixOn.get fn then s
  else if s.vectorOpen fn vec then { s with hif := { s.hif with msi := (fn, vec) :: s.hif.msi } }
  else { s with hif := { s.hif with msixHeld := (fn, vec) :: s.hif.msixHeld.filter (· ≠ (fn, vec)) } }

/-- The held vectors of a function that no mask holds back any more are sent, oldest first. -/
def State.releaseVectors (s : State) (fn : Nat) : State :=
  let go := s.hif.msixHeld.reverse.filter fun (f, v) => f = fn && s.vectorOpen f v
  go.foldl (fun t (f, v) => t.sendMsi f v)
    { s with hif := { s.hif with msixHeld := s.hif.msixHeld.filter fun e => !go.contains e } }

/-- R509: the vector of a block instance's conditions. -/
def vectorOf (i : InstId) : Nat :=
  match i.block with
  | .prt => 1 + i.inst.val
  | .pcl => 5 + i.inst.val
  | .fwd => 9 + i.inst.val
  | .asa => 13 + i.inst.val
  | .rwr => 17 + i.inst.val
  | .swc => if i.inst.val = 4 then 37 else 21 + i.inst.val
  | .bpm => 25 + i.inst.val
  | .dtc => 29 + i.inst.val
  | .tmg => 33 + i.inst.val
  | .egv => 38
  | .tsu => 39
  | .kce => 40
  | .hif => 41
  | .flt | .knl | .pup => 0

/-- The event register of a block instance and its mask register; none in PUP, KNL, FLT and the slice instances of
EGV, whose conditions are events of instance 4 (R417). -/
def eventRegs (i : InstId) : Option (Nat × Nat) :=
  match i.block with
  | .prt => some (R.PRT_EVENT, R.PRT_EVMASK)
  | .pcl => some (R.PCL_VSTAT, R.PCL_EVMASK)
  | .fwd => some (R.FWD_EVENT, R.FWD_EVMASK)
  | .asa => some (R.ASA_STAT, R.ASA_EVMASK)
  | .rwr => some (R.RWR_STAT, R.RWR_EVMASK)
  | .swc => some (if i.inst.val = 4 then (R.SWC_FABEVENT, R.SWC_FABEVMASK) else (R.SWC_STAT, R.SWC_EVMASK))
  | .bpm => some (R.BPM_STAT, R.BPM_EVMASK)
  | .dtc => some (R.DTC_EVENT, R.DTC_EVMASK)
  | .tmg => some (R.TMG_STAT, R.TMG_EVMASK)
  | .egv => if i.inst.val = 4 then some (R.EGV_EVENT, R.EGV_EVMASK) else none
  | .tsu => some (R.TSU_EVENT, R.TSU_EVMASK)
  | .kce => some (R.KCE_EVENT, R.KCE_EVMASK)
  | .hif => some (R.HIF_EVENT, R.HIF_EVMASK)
  | .pup | .knl | .flt => none

/-- Set bit `k` of an instance's event register (of the macro or channel at offset `base`); the block's vector is sent
when the bit rises unmasked (R509). [DEDUCED, log 25] -/
def State.event (s : State) (i : InstId) (k : Nat) (base : Nat := 0) : State :=
  match eventRegs i with
  | none => s
  | some (e, m) =>
    let t := s.setRegB i (base + e) k true
    if !s.regB i (base + e) k && !s.regB i (base + m) k then t.sendMsi 0 (vectorOf i) else t

/-- The words of an item with their marks. -/
def fifoItem : List Word → List FifoWord
  | [] => []
  | [w] => [⟨w, true, true⟩]
  | w :: r => ⟨w, true, false⟩ :: (r.zipIdx.map fun (v, j) => ⟨v, false, j + 1 = r.length⟩)

/-- Whole items held. -/
def FifoSt.items (f : FifoSt) : Nat := f.words.countP (·.fin)

/-- R490: a FIFO has 64 stages, and an item enters only when as many are free as it has words. -/
def FifoSt.room (f : FifoSt) (item : List Word) : Bool := f.words.length + item.length ≤ 64

def State.fifo (s : State) (f : Nat) : FifoSt := s.hif.fifos.get f
def State.updFifo (s : State) (f : Nat) (g : FifoSt → FifoSt) : State :=
  { s with hif := { s.hif with fifos := s.hif.fifos.upd f g } }

/-- Enter an item, sending the FIFO's vector when ITEMS rises from 0 (R509). -/
def State.fifoEnter (s : State) (f : Nat) (item : List Word) : State :=
  let t := s.updFifo f fun x => { x with words := x.words ++ fifoItem item }
  if (s.fifo f).items = 0 then t.sendMsi 0 (42 + f) else t

/-- Post an item: it enters when there is room and no earlier item waits, else its producer waits. -/
def State.fifoPost (s : State) (f : Nat) (item : List Word) : State :=
  if (s.fifo f).waiting = [] && (s.fifo f).room item then s.fifoEnter f item
  else s.updFifo f fun x => { x with waiting := x.waiting ++ [item] }

end Sys2Proof.Machine
end

