-- ==== Sys2Proof/Machine/Buckets.lean ====
section
/-! DEFINITION. Token buckets of the traffic manager: nodes, ports and meters (R351-R358). A bucket is kept as its
shortfall below the burst in 10^-6 bytes, the amount that one unit of a rate field adds in a nanosecond. -/

namespace Sys2Proof.Machine

/-- R352: the rate field that means unlimited. -/
abbrev unlimited : Nat := 0x7FFFFFF

/-- One byte, in the units of a bucket. -/
abbrev byteUnit : Int := 1000000

/-- R353: the shortfall after `dt` ns at a rate. [DEDUCED, log 69] -/
def refilled (rate dt : Nat) (short : Int) : Int :=
  if rate = unlimited then 0 else max 0 (short - (rate * dt : Nat))

/-- The level of a bucket of a burst field. -/
def bucketLevel (burst : Nat) (short : Int) : Int := burst * byteUnit - short

/-- R351: the signed overhead of a length-overhead profile in a slice. -/
def State.overhead (s : State) (sl : Slice) (p : Nat) : Int :=
  sext (s.regF (slInst .tmg sl) (R.TMG_OVHD + 4 * (p % 64 / 4)) (8 * (p % 4)) 8) 8

/-- R351: counted length. -/
def State.countedLen (s : State) (sl : Slice) (len ovhd : Nat) : Int := max 0 (len + s.overhead sl ovhd)

/-! ### Nodes and ports -/

/-- Words of subscriber node `n`, service node `v` and local port `lp`. -/
def State.nodeW (s : State) (sl : Slice) (n k : Nat) : Word := s.ent (slInst .tmg sl) 0 n k
def State.svcW (s : State) (sl : Slice) (v k : Nat) : Word := s.ent (slInst .tmg sl) 1 v k
def State.portW (s : State) (sl : Slice) (lp k : Nat) : Word := s.ent (slInst .tmg sl) 2 lp k

/-- R353: the refill rate of the peak bucket. -/
def peakRate (cir pir : Nat) : Nat := max cir pir

/-- Bring a subscriber node's buckets up to date. -/
def State.refillNode (s : State) (sl : Slice) (n : Nat) : State :=
  let cir := fld (s.nodeW sl n 1) 0 27
  let pir := fld (s.nodeW sl n 3) 0 27
  s.updTmg sl fun t => { t with
    nodeC := t.nodeC.set n (refilled cir (s.time - t.nodeT.get n) (t.nodeC.get n))
    nodeP := t.nodeP.set n (refilled (peakRate cir pir) (s.time - t.nodeT.get n) (t.nodeP.get n))
    nodeT := t.nodeT.set n s.time }

/-- Bring a service node's buckets up to date. -/
def State.refillSvc (s : State) (sl : Slice) (v : Nat) : State :=
  let cir := fld (s.svcW sl v 1) 0 27
  let pir := fld (s.svcW sl v 3) 0 27
  s.updTmg sl fun t => { t with
    svcC := t.svcC.set v (refilled cir (s.time - t.svcT.get v) (t.svcC.get v))
    svcP := t.svcP.set v (refilled (peakRate cir pir) (s.time - t.svcT.get v) (t.svcP.get v))
    svcT := t.svcT.set v s.time }

/-- Bring a port's bucket up to date. -/
def State.refillPort (s : State) (sl : Slice) (lp : Nat) : State :=
  let rate := fld (s.portW sl lp 0) 0 27
  s.updTmg sl fun t => { t with
    portB := t.portB.set lp (refilled rate (s.time - t.portT.get lp) (t.portB.get lp))
    portT := t.portT.set lp s.time }

/-! ### Meters (R355, R356) -/

def State.mtrW (s : State) (sl : Slice) (m k : Nat) : Word := s.ent (slInst .tmg sl) 5 m k

/-- Bring a meter's buckets up to date: in srTCM what overflows Tc feeds Te. -/
def State.refillMeter (s : State) (sl : Slice) (m : Nat) : State :=
  let mode := fld (s.mtrW sl m 0) 0 2
  let cir := fld (s.mtrW sl m 1) 0 27
  let rate2 := fld (s.mtrW sl m 3) 0 27
  s.updTmg sl fun t =>
    let dt := s.time - t.mtrT.get m
    let c := t.mtrC.get m
    let e := t.mtrE.get m
    let e' :=
      if mode = 1 then refilled (peakRate cir rate2) dt e
      else if mode = 2 then refilled rate2 dt e
      else if cir = unlimited then 0
      else max 0 (e - max 0 ((cir * dt : Nat) - c))
    { t with mtrC := t.mtrC.set m (refilled cir dt c), mtrE := t.mtrE.set m e', mtrT := t.mtrT.set m s.time }

/-- Give `n` bytes back to the buckets of a meter, no further than the burst (R125, R358). -/
def State.creditMeter (s : State) (sl : Slice) (m : Nat) (first second : Bool) (n : Int) : State :=
  (s.refillMeter sl m).updTmg sl fun t => { t with
    mtrC := if first then t.mtrC.set m (max 0 (t.mtrC.get m - n * byteUnit)) else t.mtrC
    mtrE := if second then t.mtrE.set m (max 0 (t.mtrE.get m - n * byteUnit)) else t.mtrE }

/-- R358: debit `n` bytes late; the bucket stops at -16,446 bytes. -/
def State.lateDebit (s : State) (sl : Slice) (m : Nat) (first second : Bool) (n : Int) : State :=
  let floor := fun (burst : Nat) (short : Int) => min (short + n * byteUnit) (max short ((burst + 16446) * byteUnit))
  let b1 := fld (s.mtrW sl m 2) 0 24
  let b2 := fld (s.mtrW sl m 4) 0 24
  (s.refillMeter sl m).updTmg sl fun t => { t with
    mtrC := if first then t.mtrC.set m (floor b1 (t.mtrC.get m)) else t.mtrC
    mtrE := if second then t.mtrE.set m (floor b2 (t.mtrE.get m)) else t.mtrE }

/-- R397, R372: every shaper and meter bucket is at its burst, and the deficits are cleared. -/
def TmgSt.filled (t : TmgSt) : TmgSt :=
  { t with nodeC := {}, nodeP := {}, svcC := {}, svcP := {}, portB := {}, mtrC := {}, mtrE := {}, defSvcC := {},
           defSvcX := {}, defNodeC := {}, defNodeX := {}, defQueue := {} }

end Sys2Proof.Machine
end

