-- ==== Sys2Proof/Machine/Pools.lean ====
section
/-! DEFINITION. Packet SRAM cells, the shared pool and the deep tier's buffers: their accounting, and the freeing of
frames and copies (R273-R281, R285, R294-R298, R308-R311, R334). -/

namespace Sys2Proof.Machine

/-! ### Cells (R273, R275) -/

/-- Cells of a slice (R273). -/
abbrev sliceCells : Nat := 393216

/-- R273: cells of a frame of `len` bytes. -/
def cellsOf (len : Nat) : Nat := cdiv len 256

/-- Cells that a frame takes in a reserve (R276). -/
def State.frameCells (s : State) (fid : Nat) : Nat :=
  let f := s.frame fid
  cellsOf (if f.final then f.bytes.length else f.maxfrm)

/-- The cells of a slice that are in use, and the `n` lowest-numbered free ones. The spec does not say which free cell a frame
takes. [DESIGN CHOICE, log 120] -/
def SwcSt.usedCells (x : SwcSt) : List Nat := x.cells.ents.flatMap (·.2) ++ x.punts.flatMap (·.chain) ++ x.leaked
def SwcSt.freeCells (x : SwcSt) (n : Nat) : List Nat :=
  let used := x.usedCells
  ((List.range (min sliceCells (used.length + n))).filter fun k => !used.contains k).take n

/-- R299: cells are allocated, in a sweep of Retriever if one goes on. -/
def SwcSt.noteFresh (x : SwcSt) (l : List Nat) : SwcSt := { x with fresh := x.fresh.map (· ++ l) }

/-- Link further cells to a chain up to `n`, or free those beyond the first `n`. -/
def SwcSt.growChain (x : SwcSt) (k n : Nat) : SwcSt :=
  let l := x.freeCells (n - (x.cells.get k).length)
  { x with cells := x.cells.upd k fun c => c ++ l }.noteFresh l
def SwcSt.trimChain (x : SwcSt) (k n : Nat) : SwcSt := { x with cells := x.cells.upd k fun c => c.take n }

/-- R274: the link word of cell `j` of a chain is damaged: the cells beyond it are reached by nothing. -/
def SwcSt.leakChain (x : SwcSt) (k j : Nat) : SwcSt :=
  { x with cells := x.cells.upd k fun c => c.take (j + 1), leaked := x.leaked ++ (x.cells.get k).drop (j + 1) }

/-- R273, R285: the cells a frame takes in a slice: those charged to the ingress reserve or moved from it where it entered
there, or those of its copies. -/
def State.needCells (s : State) (sl : Slice) (fid : Nat) : Nat :=
  let f := s.frame fid
  max (if portSlice f.inport.val = sl then f.ingCells + f.ingShared else 0) ((s.swc sl).stored.get fid).cells

/-- The frame has taken further cells, or needs fewer than before. -/
def State.takeCells (s : State) (sl : Slice) (fid : Nat) : State :=
  let n := s.needCells sl fid
  (s.updSwc sl fun x => x.growChain fid n).noteAct sl 4 (n - ((s.swc sl).cells.get fid).length)
def State.giveCells (s : State) (sl : Slice) (fid : Nat) : State :=
  s.updSwc sl fun x => x.trimChain fid (s.needCells sl fid)

/-- The sum of a number read from each listed word of window `w` at word addresses below `hi`. -/
def State.winSum (s : State) (i : InstId) (w hi : Nat) (f : Nat → Word → Nat) : Nat :=
  ((s.win.ents.filter fun (k, _) => winKey i w 0 ≤ k && decide (k < winKey i w hi)).map fun (k, v) =>
    f (k - winKey i w 0) v).sum

/-- GUAR of a port-class, TGUAR and TSHARE of a tenant (R302). -/
def State.guar (s : State) (sl : Slice) (pc : Nat) : Nat := fld (s.ent (slInst .swc sl) 0 pc 0) 0 19
def State.tguar (s : State) (sl : Slice) (t : Nat) : Nat := fld (s.ent (slInst .swc sl) 1 t 0) 0 19
def State.tshare (s : State) (sl : Slice) (t : Nat) : Nat := min (fld (s.ent (slInst .swc sl) 1 t 0) 19 8) 128

/-- R275: the cells that the guarantees and reserves take, each at the larger of its setting and its use. -/
def State.takenCells (s : State) (sl : Slice) : Nat :=
  let i := slInst .swc sl
  let x := s.swc sl
  max (s.regF i R.SWC_INGRSV 0 19) (s.regF i R.SWC_INGUSE 0 19) + max (s.regF i R.SWC_PUNTRSV 0 19) x.puntUse
    + s.winSum i 0 512 (fun _ v => fld v 0 19) + s.winSum i 1 512 (fun a v => if a % 2 = 0 then fld v 0 19 else 0)
    + (x.gused.ents.map fun (pc, u) => u - s.guar sl pc).sum + (x.tgused.ents.map fun (t, u) => u - s.tguar sl t).sum

/-- R285: the shared cells in use: each stored frame once, at the largest share of its live copies; and the cells of
frames that wait to cross to a sleeping slice (R281). -/
def State.sharedUse (s : State) (sl : Slice) : Nat :=
  ((s.swc sl).stored.ents.map fun (_, x) => x.shares.foldl max 0).sum + (s.swc sl).heldShared

/-- R275, R285: bring SWC_SHSIZE and SWC_SHFREE up to date. -/
def State.syncShared (s : State) (sl : Slice) : State :=
  let i := slInst .swc sl
  let size := sliceCells - s.takenCells sl
  (s.setRegF i R.SWC_SHSIZE 0 19 size).setRegF i R.SWC_SHFREE 0 19 (size - s.sharedUse sl)

/-- Add to or take from the ingress reserve in use. -/
def State.addIngress (s : State) (sl : Slice) (n : Nat) : State :=
  (s.setRegF (slInst .swc sl) R.SWC_INGUSE 0 19 (s.regF (slInst .swc sl) R.SWC_INGUSE 0 19 + n)).syncShared sl

def State.subIngress (s : State) (sl : Slice) (n : Nat) : State :=
  (s.setRegF (slInst .swc sl) R.SWC_INGUSE 0 19 (s.regF (slInst .swc sl) R.SWC_INGUSE 0 19 - n)).syncShared sl

/-- The ingress slice of a frame. -/
def State.ingSlice (s : State) (fid : Nat) : Slice := portSlice (s.frame fid).inport.val

/-- Free the cells a frame holds in its ingress slice, in the reserve or moved to the shared pool (R277, R281). -/
def State.freeIngress (s : State) (fid : Nat) : State :=
  let f := s.frame fid
  let sl := s.ingSlice fid
  let t := s.updFrame fid fun g => { g with ingCells := 0, ingShared := 0 }
  ((t.updSwc sl fun x => { x with heldShared := x.heldShared - f.ingShared }).subIngress sl f.ingCells).giveCells sl fid

/-- R279, R372, R516: the slice admits copies: it is awake, and neither its SWC nor its TMG is under reset. -/
def State.admits (s : State) (sl : Slice) : Bool :=
  s.awake sl && !s.inBlockReset (slInst .swc sl) && !s.inBlockReset (slInst .tmg sl)

/-- R394, R396, R372: an egress slice that does not admit. A copy for it waits, and its frame's cells move to the shared pool
of the sender where SHFREE holds them (R281). -/
def State.holdForWake (s : State) (sl e : Slice) (fid : Nat) : State :=
  let n := (s.frame fid).ingCells
  if s.admits e then s else
  let s := s.requestWake e
  if n ≤ s.regF (slInst .swc sl) R.SWC_SHFREE 0 19 then
    let s := (s.updFrame fid fun f => { f with ingShared := f.ingShared + n, ingCells := 0 }).updSwc sl fun x =>
      { x with heldShared := x.heldShared + n }
    s.subIngress sl n
  else s

/-- R22, R281: the copies that wait for admission in a slice that does not admit: those of other slices' frames wait in their
senders, in the shared pool. -/
def State.holdWaiting (s : State) (e : Slice) : State :=
  forAll ((s.swc e).admitQ.filter fun c => s.ingSlice c.fid ≠ e) (fun c t => t.holdForWake (t.ingSlice c.fid) e c.fid) s

/-- The port-class of a copy (R278). -/
def portClass (port tclass : Nat) : Nat := port % 64 * 8 + tclass

/-- R279: what a copy of `n` cells takes from the port-class guarantee, the tenant guarantee and the shared pool; none
where the shared pool refuses it. -/
def State.admission (s : State) (sl : Slice) (pc t n : Nat) : Option (Nat × Nat × Nat) :=
  let x := s.swc sl
  let a := min n (s.guar sl pc - x.gused.get pc)
  let b := min (n - a) (s.tguar sl t - x.tgused.get t)
  let sh := n - a - b
  let size := sliceCells - s.takenCells sl
  let f := size - s.sharedUse sl
  let alpha := min (fld (s.ent (slInst .swc sl) 0 pc 0) 19 4) 9
  if 0 < sh && (f < sh || 2 ^ alpha * f < (x.sused.get pc + sh) * 64 || s.tshare sl t * size / 128 < x.tsused.get t + sh)
  then none else some (a, b, sh)

/-- Charge a copy to its counts and to the stored frame's references (R279, R285). -/
def State.chargeCopy (s : State) (c : Copy) : State :=
  let sl := Fin.ofNat 4 c.eslice
  let pc := portClass c.port (c.queue % 8)
  (s.updSwc sl fun x => { x with
    gused := x.gused.set pc (x.gused.get pc + c.a), tgused := x.tgused.set c.tid (x.tgused.get c.tid + c.b),
    sused := x.sused.set pc (x.sused.get pc + c.s), tsused := x.tsused.set c.tid (x.tsused.get c.tid + c.s),
    stored := x.stored.upd c.fid fun st => { cells := c.a + c.b + c.s, refs := st.refs + 1, shares := c.s :: st.shares }
    }).syncShared sl |>.takeCells sl c.fid

/-- R280: release a copy's charges and its reference to the stored cells. -/
def State.unchargeCopy (s : State) (c : Copy) : State :=
  let sl := Fin.ofNat 4 c.eslice
  let pc := portClass c.port (c.queue % 8)
  (s.updSwc sl fun x =>
    let st := x.stored.get c.fid
    { x with
      gused := x.gused.set pc (x.gused.get pc - c.a), tgused := x.tgused.set c.tid (x.tgused.get c.tid - c.b),
      sused := x.sused.set pc (x.sused.get pc - c.s), tsused := x.tsused.set c.tid (x.tsused.get c.tid - c.s),
      stored := x.stored.set c.fid (if st.refs ≤ 1 then {} else
        { cells := st.cells, refs := st.refs - 1, shares := st.shares.erase c.s }) }).syncShared sl |>.giveCells sl c.fid

/-- R280: a charge that falls to `n` cells is taken back from s first, then b, then a. -/
def Copy.shrink (c : Copy) (n : Nat) : Copy :=
  let cut := c.a + c.b + c.s - n
  let ds := min cut c.s
  let db := min (cut - ds) c.b
  { c with s := c.s - ds, b := c.b - db, a := c.a - (cut - ds - db) }

/-! ### The deep tier's space (R307-R311) -/

/-- The members of a slice: its channels with MEMBER = 1 (R309). -/
def State.members (s : State) (sl : Slice) : List Nat :=
  ((List.range 4).map (4 * sl.val + ·)).filter fun c => bit (s.chReg c R.DTC_CCFG) 1

/-- A channel is ONLINE (R315), and no block reset holds it: it returns to that state at the end of the reset (R322).
[DEDUCED, log 131] -/
def State.chOnline (s : State) (c : Nat) : Bool := s.chF c R.DTC_CSTAT 0 3 = 3 && !s.inBlockReset (chInst c)

/-- R318: every member of the slice is ONLINE, and there is one. -/
def State.deepOnline (s : State) (sl : Slice) : Bool := s.members sl ≠ [] && (s.members sl).all s.chOnline

/-- R309: pages of the slice's deep tier. -/
def State.deepPages (s : State) (sl : Slice) : Nat :=
  match (s.members sl).map fun c => s.chF c R.DTC_SIZE 0 26 with
  | [] => 0
  | n :: r => (r.length + 1) * r.foldl min n

/-- Physical ranks of a channel: those of one DIMM, and of both. -/
def State.dimm0 (s : State) (c : Nat) : Bool := bit (s.chReg c R.DTC_DIMM) 0
def State.dimmRanks (s : State) (c : Nat) : Nat := 2 ^ fld (s.chReg c (R.DTC_DIMM + if s.dimm0 c then 0 else 4)) 2 2
def State.chRanks (s : State) (c : Nat) : Nat :=
  s.dimmRanks c * ((if bit (s.chReg c R.DTC_DIMM) 0 then 1 else 0) + if bit (s.chReg c (R.DTC_DIMM + 4)) 0 then 1 else 0)

/-- A channel's slice. -/
def chSlice (c : Nat) : Slice := Fin.ofNat 4 (c / 4)

/-- R311: the pages of the slice that have a block in one physical rank of member `c`. -/
def State.rankPages (s : State) (c : Nat) : Nat :=
  (s.members (chSlice c)).length * s.chF c R.DTC_SIZE 0 26 / s.chRanks c

/-- R311: the rank of member `c`, in address order, that holds a page; and its number DIMM × 4 + physical rank. -/
def State.pageRank (s : State) (c page : Nat) : Nat := page / s.rankPages c
def State.rankNo (s : State) (c j : Nat) : Nat :=
  (if s.dimm0 c then 0 else 4) + j / s.dimmRanks c * 4 + j % s.dimmRanks c

/-- The state of a rank in DTC_RANKPWR (R333). -/
def State.rankPwr (s : State) (c r : Nat) : Nat := s.chF c R.DTC_RANKPWR (2 * r) 2
def State.setRankPwr (s : State) (c r v : Nat) : State := s.setChF c R.DTC_RANKPWR (2 * r) 2 v

/-- The physical ranks a channel has, by number DIMM × 4 + physical rank. -/
def State.ranksOf (s : State) (c : Nat) : List Nat :=
  (List.range 8).filter fun r =>
    let w := s.chReg c (R.DTC_DIMM + 4 * (r / 4))
    bit w 0 && decide (r % 4 < 2 ^ fld w 2 2)

/-- Put the active ranks of a channel into self-refresh (R315, R322, R333); and take those in self-refresh out of it. -/
def State.restRanks (s : State) (c : Nat) : State :=
  forAll (s.ranksOf c) (fun r t => if t.rankPwr c r = 0 then t.setRankPwr c r 1 else t) s
def State.unrestRanks (s : State) (c : Nat) : State :=
  forAll (s.ranksOf c) (fun r t => if t.rankPwr c r = 1 then t.setRankPwr c r 0 else t) s

/-- The position of rank `r` among the channel's ranks in address order. -/
def State.rankIndex (s : State) (c r : Nat) : Nat := ((s.ranksOf c).takeWhile (· ≠ r)).length

/-- No page of rank `r` of a member holds an allocated buffer. -/
def State.rankEmpty (s : State) (c r : Nat) : Bool :=
  !(s.members (chSlice c)).contains c ||
    (s.bpm (chSlice c)).pageOwner.ents.all fun (p, _) => s.pageRank c p ≠ s.rankIndex c r

/-- R333: a request wakes a rank in self-refresh; it takes one out of MPSM only where BPM has allocated from a page of the rank. -/
def State.wakeRank (s : State) (c r : Nat) : State :=
  if s.rankPwr c r = 1 || (s.rankPwr c r = 2 && !s.rankEmpty c r) then s.setRankPwr c r 0 else s

/-- R333: an allocation from a page takes its ranks out of MPSM. -/
def State.wakePageRanks (s : State) (sl : Slice) (page : Nat) : State :=
  forAll (s.members sl) (fun c t =>
    let r := t.rankNo c (t.pageRank c page)
    if t.rankPwr c r = 2 then t.setRankPwr c r 0 else t) s

/-! ### Buffers (R294-R297) -/

/-- R294: buffer size and buffers per page of a pool. -/
def poolSize : Nat → Nat
  | 0 => 512
  | 1 => 2048
  | 2 => 10240
  | _ => 65536
def poolPerPage : Nat → Nat
  | 0 => 128
  | 1 => 32
  | 2 => 6
  | _ => 1

/-- R294: the smallest pool whose buffer holds a size. -/
def fitPool (size : Nat) : Nat := if size ≤ 512 then 0 else if size ≤ 2048 then 1 else if size ≤ 10240 then 2 else 3

/-- The buffers of a page of a pool, ascending. -/
def pageBuffers (page pool : Nat) : List Nat :=
  (List.range (poolPerPage pool)).map fun k => page * 65536 + k * poolSize pool

/-- The lowest free buffer of the pages a pool holds; quarantined pages serve nothing (R331). -/
def BpmSt.freeBuffer (b : BpmSt) (pool : Nat) : Option Nat :=
  firstSome (fun page => (pageBuffers page pool).find? fun a => b.refs.get a = 0)
    ((b.pageOwner.ents.filter fun (pg, o) => o = pool + 1 && !b.quarantined.contains pg).map (·.1))

/-- R295: the lowest-numbered free page of the slice. -/
def BpmSt.freePage (b : BpmSt) (pages : Nat) : Option Nat :=
  let used := b.pageOwner.ents.map (·.1) ++ b.retired ++ b.quarantined
  (List.range (used.length + 1)).find? fun n => n < pages && !used.contains n

/-- Whether BPM serves requests (R304, R318, R516). -/
def State.bpmServes (s : State) (sl : Slice) : Bool :=
  s.regB (slInst .bpm sl) R.BPM_CTRL 0 && s.deepOnline sl && !s.inBlockReset (slInst .bpm sl)

/-- R294, R295: a buffer of one of the pools from `pool` on, with its page if it is new. -/
def State.findBuffer (s : State) (sl : Slice) (pool : Nat) : Option (Nat × Nat) :=
  let b := s.bpm sl
  firstSome (fun p =>
    match b.freeBuffer p with
    | some a => some (p, a)
    | none =>
      if s.regF (slInst .bpm sl) (R.BPM_PGUSE + 4 * p) 0 28 < s.regF (slInst .bpm sl) (R.BPM_PGMAX + 4 * p) 0 28 then
        (b.freePage (s.deepPages sl)).map fun pg => (p, pg * 65536)
      else none) ((List.range 4).filter (pool ≤ ·))

/-- The highest page in use of a slice. -/
def BpmSt.topPage (b : BpmSt) : Nat := b.pageOwner.ents.foldl (fun m (p, _) => max m p) 0

/-- R334: an allocation in the last 25 % of the pages of a member's highest rank in use wakes its next rank from MPSM. -/
def State.prewake (s : State) (sl : Slice) (page : Nat) : State :=
  forAll (s.members sl) (fun c t =>
    let rp := t.rankPages c
    let top := t.pageRank c (t.bpm sl).topPage
    let r := t.rankNo c (top + 1)
    if t.pageRank c page = top && 3 * rp ≤ 4 * (page - top * rp) && top + 1 < t.chRanks c && t.rankPwr c r = 2 then
      (t.setRankPwr c r 1).updChan c fun x => { x with prewoken := r :: x.prewoken }
    else t) s

/-- R309: the channel that holds block `k` of a slice. -/
def State.blockChannel (s : State) (sl : Slice) (k : Nat) : Option Nat :=
  (s.members sl)[k % (s.members sl).length]?

/-- R309: where the byte at a slice address lies: 2^44 times its channel, and its channel address. -/
def State.deepKey (s : State) (sl : Slice) (a : Nat) : Option Nat :=
  (s.blockChannel sl (a / 256)).map fun c => c * 2 ^ 44 + a / 256 / (s.members sl).length * 256 + a % 256

/-- R309: the page of the slice that the byte at a place lies in. -/
def State.keyPage (s : State) (k : Nat) : Nat :=
  let m := s.members (chSlice (k / 2 ^ 44))
  (k % 2 ^ 44 / 256 * m.length + m.idxOf (k / 2 ^ 44)) / 256

/-- The channel's rank, in address order, that a place lies in. -/
def State.keyRank (s : State) (k : Nat) : Nat :=
  let c := k / 2 ^ 44
  k % 2 ^ 44 / (s.chF c R.DTC_SIZE 0 26 * 65536 / s.chRanks c)

/-- R333: the rank of a place is in MPSM, and holds no data. -/
def State.placeLost (s : State) (k : Nat) : Bool := s.rankPwr (k / 2 ^ 44) (s.rankNo (k / 2 ^ 44) (s.keyRank k)) = 2

/-- Forget what DEEP_WRITE wrote at the places that `f` names. -/
def State.forgetDeep (s : State) (f : Nat → Bool) : State :=
  { s with deepMem := ⟨s.deepMem.ents.filter fun (k, _) => !f k⟩ }

/-- A page that a pool takes no longer holds what DEEP_WRITE wrote to it. -/
def State.clearPage (s : State) (sl : Slice) (page : Nat) : State :=
  s.forgetDeep fun k => (s.members sl).contains (k / 2 ^ 44) && s.keyPage k = page

/-- R294-R296: allocate a buffer for `size` bytes with `refs` references. A request that fails counts in BPM_FAIL. -/
def State.bpmAlloc (s : State) (sl : Slice) (size refs : Nat) : Option Nat × State :=
  let i := slInst .bpm sl
  match if s.bpmServes sl && size ≤ 65536 then s.findBuffer sl (fitPool size) else none with
  | none => (none, (s.count i R.BPM_FAIL (8 * fitPool size) 8).event i 0)
  | some (p, a) =>
    let page := a / 65536
    let new := (s.bpm sl).pageOwner.get page = 0
    let t := s.updBpm sl fun b => { b with pageOwner := b.pageOwner.set page (p + 1), refs := b.refs.set a refs }
    let t := t.setRegF i (R.BPM_BUFUSE + 4 * p) 0 32 (t.regF i (R.BPM_BUFUSE + 4 * p) 0 32 + 1)
    let t := t.wakePageRanks sl page
    let t := if new then (t.clearPage sl page).setRegF i (R.BPM_PGUSE + 4 * p) 0 28 (t.regF i (R.BPM_PGUSE + 4 * p) 0 28 + 1)
      else t
    (some a, t.prewake sl page)

/-- R295, R296: free a buffer; a page all of whose buffers are free leaves its pool. -/
def State.bpmFree (s : State) (sl : Slice) (a : Nat) : State :=
  let i := slInst .bpm sl
  let page := a / 65536
  let p := (s.bpm sl).pageOwner.get page - 1
  let t := s.updBpm sl fun b => { b with refs := b.refs.set a 0 }
  let t := t.setRegF i (R.BPM_BUFUSE + 4 * p) 0 32 (t.regF i (R.BPM_BUFUSE + 4 * p) 0 32 - 1)
  if (pageBuffers page p).all fun x => (t.bpm sl).refs.get x = 0 then
    (t.updBpm sl fun b => { b with pageOwner := b.pageOwner.set page 0 }).setRegF i (R.BPM_PGUSE + 4 * p) 0 28
      (t.regF i (R.BPM_PGUSE + 4 * p) 0 28 - 1)
  else t

/-- R335: a write of the housekeeping port is abandoned: of a move, the lower buffer is freed. -/
def State.dropWrite (s : State) (sl : Slice) (w : HkWrite) : State :=
  if w.move.isNone || (s.bpm sl).refs.get w.addr = 0 then s else s.bpmFree sl w.addr

/-- What waits on the housekeeping port is abandoned. -/
def State.loseHk (s : State) (sl : Slice) : State :=
  let t := s.updBpm sl fun b => { b with hkWrite := none, hkRead := none }
  match (s.bpm sl).hkWrite with
  | none => t
  | some w => t.dropWrite sl w

/-- Release one reference of a copy to its buffer; the tenant's spill use falls when the buffer is freed (R287, R296). A
count already at 0 raises BPM_REFERR, source 56 + n. -/
def State.releaseBuffer (s : State) (sl : Slice) (tid a : Nat) : State :=
  let i := slInst .bpm sl
  let b := s.bpm sl
  let n := b.refs.get a
  if n = 0 then ((s.count i R.BPM_REFERR).event i 1).noteFault (56 + sl.val)
  else if n = 1 then
    let size := poolSize (b.pageOwner.get (a / 65536) - 1)
    (s.bpmFree sl a).updSwc sl fun x => { x with spillUse := x.spillUse.set tid (x.spillUse.get tid - size) }
  else s.updBpm sl fun y => { y with refs := y.refs.set a (n - 1) }

/-! ### The fabric (R281, R285, R286) -/

/-- The link from slice `a` to slice `b`. -/
def linkKey (a b : Slice) : Nat := 4 * a.val + b.val
def State.link (s : State) (a b : Slice) : LinkSt := s.links.get (linkKey a b)
def State.updLink (s : State) (a b : Slice) (f : LinkSt → LinkSt) : State :=
  { s with links := s.links.upd (linkKey a b) f }

/-- R286: the cells of some frames leave a link. The failures counted are those of its oldest cell: with that cell they are gone. -/
def LinkSt.without (l : LinkSt) (f : Nat → Bool) : LinkSt :=
  { l with
    waiting := l.waiting.filter fun k => !f k, flying := l.flying.filter fun k => !f k
    fails := if (l.flying ++ l.waiting).head?.any f then 0 else l.fails }

/-- A cell of the frame waits for a link of its ingress slice or crosses it. -/
def State.onLinks (s : State) (fid : Nat) : Bool :=
  slices.any fun e => let l := s.link (s.ingSlice fid) e
    l.waiting.contains fid || l.flying.contains fid

/-- A link that has failed 3 consecutive retrains is dead (R286). -/
def LinkSt.dead (l : LinkSt) : Bool := 3 ≤ l.retrainFails

/-- Hand the cells of a frame that have not been handed to the fabric yet, up to `n`, to the link to slice `e`. -/
def State.linkCells (s : State) (fid : Nat) (e : Slice) (n : Nat) : State :=
  let k := (s.frame fid).linked.get e.val
  if e = s.ingSlice fid then s else
    (s.updLink (s.ingSlice fid) e fun l => { l with waiting := l.waiting ++ List.replicate (n - k) fid }).updFrame fid
      fun f => { f with linked := f.linked.set e.val (max k n) }

/-- R276, R281: the ingress cells of a resolved frame are freed once no copy of it waits for admission and its cells have
crossed to every slice that holds it. -/
def State.settleIngress (s : State) (fid : Nat) : State :=
  let f := s.frame fid
  if slices.any (fun e => (s.swc e).admitQ.any fun c => decide (c.fid = fid)) || s.onLinks fid
      || (!f.final && f.linked ≠ {}) then s
  else s.freeIngress fid

/-! ### Copies -/

/-- R280: free a copy: its charges and cells where it lies in SRAM, its buffer where it has one in the deep tier. -/
def State.freeCopy (s : State) (c : Copy) : State :=
  if c.gone then s else
  let s := if c.deep.isNone || 0 < c.a + c.b + c.s then s.unchargeCopy c else s
  match c.deep with
  | some a => s.releaseBuffer (Fin.ofNat 4 c.eslice) c.tid a
  | none => s

/-- R301: count a drop under reason `r` in a slice. -/
def State.countDrop (s : State) (sl : Slice) (r : Nat) : State :=
  let t := s.count (slInst .swc sl) (R.SWC_DROP + 4 * r)
  if r = 5 then t.event (slInst .swc sl) 4 else t

/-- Drop a copy under a reason. -/
def State.dropCopy (s : State) (r : Nat) (c : Copy) : State := (s.freeCopy c).countDrop (Fin.ofNat 4 c.eslice) r

/-- The copies queued under a key of the traffic manager. -/
def State.queue (s : State) (sl : Slice) (q : Nat) : List Copy := (s.tmg sl).queues.get q
def State.setQueue (s : State) (sl : Slice) (q : Nat) (l : List Copy) : State :=
  s.updTmg sl fun x => { x with queues := x.queues.set q l }

/-- Cells a copy is charged in SRAM. -/
def Copy.cells (c : Copy) : Nat := c.a + c.b + c.s

/-- The copy lies in the deep tier: it has a buffer, and its SRAM charge is released (R319). -/
def Copy.inDeep (c : Copy) : Bool := c.deep.isSome && c.cells = 0

/-- R302: cells of a queue in SRAM, and its deep-tier frames in 256-byte units. -/
def sramCells (l : List Copy) : Nat := (l.map (·.cells)).sum
def deepUnits (l : List Copy) : Nat := ((l.filter (·.inDeep)).map fun c => cellsOf c.len).sum

/-- Change, or take out, a queued copy by its number. -/
def State.updCopy (s : State) (sl : Slice) (q cid : Nat) (f : Copy → Copy) : State :=
  s.setQueue sl q ((s.queue sl q).map fun c => if c.cid = cid then f c else c)
def State.removeCopy (s : State) (sl : Slice) (q cid : Nat) : State :=
  s.setQueue sl q ((s.queue sl q).filter fun c => c.cid ≠ cid)
def State.findCopy (s : State) (sl : Slice) (q cid : Nat) : Option Copy := (s.queue sl q).find? fun c => c.cid = cid

end Sys2Proof.Machine
end

