-- ==== Sys2Proof/Machine/Contexts.lean ====
section
/-! DEFINITION. Contexts, reorder slots and retirement: how a program starts, ends and is abandoned (R85-R92, R101,
R124-R128, R132, R178-R180, R196). -/

namespace Sys2Proof.Machine

/-! ### Reorder slots and retirement -/

/-- The slots of a slice's frames of one epoch. -/
def PclSt.inflight (x : PclSt) (e : Bool) : Nat := x.rob.countP fun r => r.epoch = e

/-- R196, R204: bring PCL_INFLIGHT and PCL_ROBOCC up to date. -/
def State.syncRob (s : State) (sl : Slice) : State :=
  let i := slInst .pcl sl
  let x := s.pcl sl
  let n := x.rob.length
  let s := s.setReg i R.PCL_INFLIGHT (setFld (setFld 0 0 13 (x.inflight false)) 16 13 (x.inflight true))
  s.setReg i R.PCL_ROBOCC (setFld (setFld 0 0 13 n) 16 13 (max n (s.regF i R.PCL_ROBOCC 16 13)))

/-- The version, the same in every slice (R193). -/
def State.version (s : State) : Nat := s.regF (slInst .pcl 0) R.PCL_VERSION 0 16
def State.epoch (s : State) : Bool := s.regB (slInst .pcl 0) R.PCL_VERSION 0
def State.retiring (s : State) : Bool := s.regB (slInst .pcl 0) R.PCL_VERSION 17

/-- R196: a pending retirement happens when no slice holds a frame of the previous epoch. -/
def State.tryRetire (s : State) : State :=
  if s.retiring && slices.all (fun sl => (s.pcl sl).inflight (!s.epoch) = 0) then
    forAll slices (fun sl t =>
      let i := slInst .pcl sl
      ((t.setRegB i R.PCL_VERSION 17 false).event i 2).setRegF i R.PCL_RETTIME 0 16
        (min ((s.time - s.commitAt) / 500) 0xFFFF)) s
  else s

/-- Reserve a slot (R178). -/
def State.addSlot (s : State) (sl : Slice) (r : Slot) : State :=
  (s.updPcl sl fun x => { x with rob := x.rob ++ [r] }).syncRob sl

/-- Free the slot of a frame (R180). -/
def State.freeSlot (s : State) (sl : Slice) (fid : Nat) : State :=
  ((s.updPcl sl fun x => { x with rob := x.rob.filter fun r => r.fid ≠ fid }).syncRob sl).tryRetire

/-- The slot of a frame. -/
def State.slotOf (s : State) (sl : Slice) (fid : Nat) : Option Slot := (s.pcl sl).rob.find? fun r => r.fid = fid

/-- Set where a frame's slot stands. -/
def State.setSlot (s : State) (sl : Slice) (fid : Nat) (st : SlotSt) : State :=
  s.updPcl sl fun x => { x with rob := x.rob.map fun r => if r.fid = fid then { r with st := st } else r }

/-! ### Starting a program (R88, R91, R100) -/

/-- A table of bytes holding a byte string from byte 0 on. -/
def bytesTbl (l : List Byte) : Tbl Byte := ⟨(l.zipIdx.filter fun (b, _) => b ≠ 0).map fun (b, k) => (k, b)⟩

/-- The entry-table window of a bank. -/
def bankWin (b : Bool) : Nat := if b then 3 else 2

/-- R100: the entry word `e` of a bank. -/
def State.entryWord (s : State) (sl : Slice) (bank : Bool) (e : Nat) : Word := s.ent (slInst .pup sl) (bankWin bank) e 0

/-- R91: the metadata block of a frame when its program starts. -/
def mdBlock (f : Frame) (profile : Nat) (seq : Word) (epoch restarted : Bool) (tid : Byte) : List Byte :=
  [BitVec.ofNat 8 f.inport.val, BitVec.ofNat 8 profile] ++ leBytes 2 f.bytes.length
    ++ leBytes 4 ((if f.final then 1 else 0) + (if f.cut then 2 else 0) + (if restarted then 4 else 0)
        + if epoch then 8 else 0)
    ++ leBytes 4 f.sec.toNat ++ leBytes 4 f.ns.toNat ++ leBytes 2 f.frac.toNat ++ leBytes 2 0 ++ leBytes 4 seq.toNat
    ++ [tid]

/-- R88, R91: the context at the start of a program at an entry word: MD.TID is the current TID, and with no frame the
rest of MD is 0. [DESIGN CHOICE, log 9] -/
def startCtx (ew : Word) (bank : Bool) (e : Nat) : Ctx :=
  let tid : Byte := BitVec.ofNat 8 (fld ew 15 8)
  { running := true, pc := BitVec.ofNat 14 (fld ew 0 14), tid := tid, view := bit ew 23,
    md := ({} : Tbl Byte).set 24 tid, bank := bank, entry := e }

/-- R88: the context of a packet's program. -/
def packetCtx (f : Frame) (fid : Nat) (ew : Word) (bank : Bool) (profile : Nat) (seq : Word) (epoch restarted : Bool) :
    Ctx :=
  { startCtx ew bank profile with
    frameView := bytesTbl (f.bytes.take 256)
    md := bytesTbl (mdBlock f profile seq epoch restarted (BitVec.ofNat 8 (fld ew 15 8)))
    restarted := restarted, fid := fid, seq := seq, epoch := epoch }

/-- The contexts of a slice that run, as context identifiers. -/
def State.running (s : State) (sl : Slice) : List CtxId :=
  ((s.ctxs.ents.filter fun (_, c) => c.running).map fun (k, _) => ctxOfKey k).filter fun x => x.slice = sl

/-- R101, R141: CTXBUSY counts the running packet contexts; EDRAIN is 1 when no program started under the previous bank
remains. -/
def State.syncBusy (s : State) (sl : Slice) : State :=
  let i := slInst .pup sl
  let ebank := s.regB i R.PUP_CTRL 1
  let old := (s.running sl).any (fun x => (s.ctx x).bank ≠ ebank) || (s.pup sl).restarts.any fun r => r.bank ≠ ebank
  (s.setRegF i R.PUP_STAT 16 12 ((s.running sl).countP fun x => decide (x.pup.val < 384))).setRegB i R.PUP_STAT 0 (!old)

/-- Put a program into a context. -/
def State.startIn (s : State) (x : CtxId) (c : Ctx) : State := (s.setCtx x c).syncBusy x.slice

/-- A housekeeping context. -/
def isHk (x : CtxId) : Bool := 384 ≤ x.pup.val

/-- Free a context (R86). -/
def State.endCtx (s : State) (x : CtxId) : State := (s.setCtx x {}).syncBusy x.slice

/-- R126: the group of a pup. -/
def pupGroup (pup : Nat) : Nat := if 384 ≤ pup then 12 else pup / 32

/-! ### Meter refunds (R125) -/

/-- Give a run's meter charges back to the buckets they came from. The buckets are kept as shortfalls below the burst,
so a refund is capped at the burst. -/
def State.refund (s : State) (sl : Slice) (l : List Charge) : State :=
  forAll l (fun c t => t.creditMeter sl c.meter c.first c.second c.n) s

/-! ### Endings -/

/-- R180, R277: the program of a packet ends without a descriptor: its slot is freed and its cells too. -/
def State.dropPacket (s : State) (sl : Slice) (fid : Nat) : State := (s.freeSlot sl fid).freeIngress fid

/-- The descriptor of a slot that has committed; one whose tail still runs has the requests issued so far. -/
def State.slotDesc (s : State) (sl : Slice) (r : Slot) : Option Desc :=
  match r.st with
  | .ready d => some d
  | .committed d => some { d with samples :=
      ((s.running sl).filter fun x => !isHk x && (s.ctx x).fid = r.fid).flatMap fun x => (s.ctx x).samples }
  | _ => none

/-- R124: a packet's program is abandoned before COMMIT under an exception code: it will restart on another pup, or is
dropped when it had restarted already. R125 refunds the meter charges of a run that is restarted; those of the run that a second
exception ends are refunded as well. [DESIGN CHOICE, log 132] -/
def State.abandonPacket (s : State) (x : CtxId) (code : Nat) : State :=
  let c := s.ctx x
  let s := (s.refund x.slice c.charges).updTmg x.slice fun t => { t with
    pendMtr := t.pendMtr.filter fun (f, _) => f ≠ c.fid }
  if c.restarted then
    ((s.count (slInst .pup x.slice) (R.PUP_EXDROP + 4 * (code - 1))).endCtx x).dropPacket x.slice c.fid
  else
    (s.updPup x.slice fun p => { p with
      restarts := p.restarts ++ [⟨c.fid, c.seq, c.epoch, c.bank, c.entry, x.pup.val, code ≤ 2⟩] }).endCtx x

/-- R202, R360: the counter requests that a tail has issued stand though its context is abandoned: those that still wait for room
wait on, behind the queue's 512. [DESIGN CHOICE, log 139] -/
def State.keepRequests (s : State) (x : CtxId) : State :=
  s.updTmg x.slice fun t => { t with countQ := t.countQ ++ (s.ctx x).tailReqs }

/-- R119, R126: a program past COMMIT loses its tail; the descriptor becomes ready with the requests already issued. -/
def State.loseTail (s : State) (x : CtxId) : State :=
  let c := s.ctx x
  let s := s.keepRequests x
  let s := match s.slotOf x.slice c.fid with
    | some ⟨_, _, _, _, .committed d⟩ => s.setSlot x.slice c.fid (.ready { d with samples := c.samples })
    | _ => s
  s.endCtx x

/-- R132: a housekeeping routine abandoned before its COMMIT starts again from its entry; after 3 consecutive abandons it
is marked failed and PUP_HKFAIL is detected. The spec does not say what the count of abandons is then: it starts again
from 0 [DESIGN CHOICE, log 118]. Nor does it speak of the meter charges of the abandoned run: they are refunded, as a packet's
are. [DESIGN CHOICE, log 132] -/
def State.abandonHk (s : State) (x : CtxId) : State :=
  let c := s.ctx x
  let i := slInst .pup x.slice
  let n := c.entry - 240
  let k := (s.pup x.slice).abandons.get n + 1
  let s := s.refund x.slice c.charges
  if 3 ≤ k then
    let s := (s.updPup x.slice fun p => { p with abandons := p.abandons.set n 0 }).setRegB i R.PUP_HKSTAT n true
    (s.noteFault (12 + x.slice.val)).endCtx x
  else
    let ew := s.entryWord x.slice c.bank c.entry
    (s.updPup x.slice fun p => { p with abandons := p.abandons.set n k }).startIn x (startCtx ew c.bank c.entry)

/-- A context abandoned as if it had raised exception `code`, or deprived of its tail (R126). -/
def State.abandon (s : State) (x : CtxId) (code : Nat) : State :=
  if (s.ctx x).committed then s.loseTail x
  else if isHk x then s.abandonHk x
  else s.abandonPacket x code

end Sys2Proof.Machine
end

