-- ==== Sys2Proof/Machine/Kcc.lean ====
section
/-! DEFINITION. Completions of commands, the marks of the Kennel, and the rings' owners: what other blocks and the
resets need of the host interface (R460, R472-R479, R485-R487, R544-R548). -/

namespace Sys2Proof.Machine

/-! ### The record store (R545) -/

/-- `n` bytes of the record store from an offset. -/
def State.knlRead (s : State) (off n : Nat) : List Byte := (List.range n).map fun k => s.knl.store.get (off + k)

/-- Store bytes in the record store; without VKEEP there is no Kennel (R502). -/
def State.knlWrite (s : State) (off : Nat) (l : List Byte) : State :=
  if !s.boot.vkeep then s else
  { s with knl := { s.knl with store := l.zipIdx.foldl (fun t (b, k) => t.set (off + k) b) s.knl.store } }

/-- A number in the record store. -/
def State.knlNat (s : State) (off n : Nat) : Nat := ofLe (s.knlRead off n)

/-- R545: FLAGS, with KNL_STAT following it (R551). -/
def State.setKnlFlag (s : State) (k : Nat) (b : Bool) : State :=
  let f := setBit (BitVec.ofNat 32 (s.knlNat 6 2)) k b
  (s.knlWrite 6 (leBytes 2 f.toNat)).setRegB knl4 R.KNL_STAT k b

/-- R550: an event of INTSTAT. -/
def State.knlEvent (s : State) (k : Nat) : State :=
  { s with knl := { s.knl with intstat := s.knl.intstat ||| BitVec.ofNat 8 (2 ^ k) } }

/-- R460: the mark of a key slot. -/
def State.mark (s : State) (slot : Nat) : Nat := s.knlNat (0x1000 + 8 * slot) 8
def State.setMark (s : State) (slot h : Nat) : State := s.knlWrite (0x1000 + 8 * slot) (leBytes 8 h)

/-! ### Owners of rings (R485) -/

/-- The TID whose tenant entry owns punt ring `r` (words 17, 18) or inject ring `r` (words 19, 20); the PF, TID 0,
otherwise. -/
def State.ringOwner (s : State) (punt : Bool) (r : Nat) : Nat :=
  let word := (if punt then 17 else 19) + r / 32
  let hit := s.win.ents.find? fun (k, v) => winKey hif4 0 21 ≤ k && decide (k < winKey hif4 0 (256 * 21)) &&
    (k - winKey hif4 0 0) % 21 = word && bit v (r % 32)
  match hit with
  | some (k, _) => (k - winKey hif4 0 0) / 21
  | none => 0

/-- Words of the ring blocks (R494): the KCC ring of a function, a punt ring, an inject ring. -/
def kccBlk (f : Nat) : Nat := f
def puntBlk (r : Nat) : Nat := 257 + r
def injBlk (r : Nat) : Nat := 321 + r
def State.ring (s : State) (e k : Nat) : Word := s.ent hif4 1 e k
def State.setRing (s : State) (e k lo width v : Nat) : State := s.setEnt hif4 1 e k (setFld (s.ring e k) lo width v)

/-- A LOG2N field, read as the nearer limit when outside its range (R494). -/
def log2n (v lo hi : Nat) : Nat := min (max v lo) hi

/-! ### Completions (R476-R479) -/

/-- A number in the payload of a command. -/
def Cmd.pay (c : Cmd) (off n : Nat) : Nat := ofLe (slice c.payload off n)

/-- R477: bring OUTST and HIF_INFLIGHT up to date. -/
def State.syncOutst (s : State) (f : Nat) : State :=
  let t := s.setRing (kccBlk f) 7 0 10 (s.fn f).outstanding
  t.setRegF hif4 R.HIF_INFLIGHT 0 13 ((s.hif.fns.ents.map fun (_, x) => x.outstanding).sum)

/-- A completion that is written, or of a function reset meanwhile, only cached (R486). -/
def FnSt.post (x : FnSt) (c : Cpl) : FnSt :=
  if x.muted.contains c.no then
    { x with outstanding := x.outstanding - 1, tags := x.tags.filter fun e => e.1 ≠ c.no }
  else { x with done := x.done ++ [c] }

/-- A held duplicate of the cached command receives its completion. -/
def FnSt.answerDup (x : FnSt) (c : Cpl) (d : Cmd) : FnSt :=
  { x with done := x.done ++ [{ c with cached := true, acc := false, tag := d.tag }] }

/-- The function after an accepted command completes: the completion is cached, and held duplicates receive a copy
(R479). -/
def FnSt.finish (x : FnSt) (c : Cpl) : FnSt :=
  let same := fun (d : Cmd) => decide (d.no = c.no)
  let y := { x with
    cache := x.cache.map fun (e : CacheEnt) => if e.no = c.no then { e with cpl := some c } else e }.post { c with acc := true }
  let z := (y.dups.filter same).foldl (fun z d => z.answerDup c d) y
  { z with dups := z.dups.filter fun d => !same d, muted := z.muted.filter (· ≠ c.no) }

/-- Complete an accepted command of function `f`. -/
def State.complete (s : State) (f : Nat) (c : Cpl) : State := (s.updFn f fun x => x.finish c).syncOutst f

/-- The completion of a command with a status and result. -/
def Cmd.cpl (c : Cmd) (status : Nat) (result : List Byte := []) : Cpl :=
  { tag := c.tag, status := status, opcode := c.opcode, fn := c.fn, seq := c.seq, icv := c.icv, no := c.no, result := result }

/-- Complete an accepted command. -/
def State.finish (s : State) (c : Cmd) (status : Nat) (result : List Byte := []) : State :=
  s.complete c.fn (c.cpl status result)

/-- A command of function `f` that is not accepted completes. -/
def State.reject (s : State) (f : Nat) (c : Cmd) (status : Nat) (result : List Byte := []) : State :=
  s.updFn f fun x => { x with done := x.done ++ [c.cpl status result] }

/-- The completion of a command is not written: its function has been reset meanwhile (R486). -/
def State.silent (s : State) (c : Cmd) : Bool := (s.fn c.fn).muted.contains c.no

/-! ### Host memory -/

/-- The last byte the device has written at a host address, if any. -/
def memGet (l : List Host.Cell) (a : Nat) : Option Byte := (l.find? fun (k, _) => k = a).map (·.2)

/-- Write one byte, keeping addresses strictly rising. -/
def memSet : List Host.Cell → Nat → Byte → List Host.Cell
  | [], a, b => [(a, b)]
  | (k, v) :: r, a, b =>
    if k < a then (k, v) :: memSet r a b else if k = a then (a, b) :: r else (a, b) :: (k, v) :: r

/-- The device writes bytes to host memory. -/
def State.dma (s : State) (a : Nat) (l : List Byte) : State :=
  { s with hif := { s.hif with mem := l.zipIdx.foldl (fun m (b, k) => memSet m (a + k) b) s.hif.mem } }

/-! ### Loss of a function (R486) -/

/-- Disable a ring block and clear its indices: EN is bit `en` of word 2. -/
def State.clearRing (s : State) (e en : Nat) (idx : List Nat) : State :=
  forAll idx (fun k t => t.setEnt hif4 1 e k 0) (s.setRing e 2 en 1 0)

/-- R201: STALE in every slice. -/
def State.setStale (s : State) : State := forAll slices (fun sl t => t.event (slInst .pcl sl) 0) s

/-- The accepted commands of a function that have not completed. -/
def FnSt.open (x : FnSt) : List (Nat × Nat) :=
  x.tags.filter fun e => !x.done.any fun c => c.acc && decide (c.no = e.1)

/-- R486: a check of a command of the function is dropped; its message goes on in the engine, without effect. -/
def KceReq.dropCheck (f : Nat) (r : KceReq) : KceReq :=
  match r.use with
  | .check _ _ => if r.slot = f then { r with use := .void } else r
  | _ => r

/-- R486: the fetched commands of the function that are not yet accepted are dropped. -/
def State.dropChecks (s : State) (f : Nat) : State :=
  let k := s.kce
  { s with kce := { k with
      checks := k.checks.map (·.dropCheck f)
      cores := ⟨k.cores.ents.map fun (n, r) => (n, r.map (·.dropCheck f))⟩ } }

/-- The punt rings of a function, or its inject rings. -/
def State.ringsOf (s : State) (punt : Bool) (f : Nat) : List Nat :=
  (List.range 64).filter fun r => f < 256 && s.ringOwner punt r = f

/-- R486: the frames posted to an enabled inject ring that the device has not read. [DEDUCED, log 146] -/
def State.injWaiting (s : State) (r : Nat) : Nat :=
  let n := 2 ^ log2n (fld (s.ring (injBlk r) 2) 0 5) 6 14
  let w := s.ring (injBlk r) 3
  if bit (s.ring (injBlk r) 2) 8 then (fld w 0 14 + n - fld w 16 14 % n) % n else 0

/-- The punt items of a slice that wait for some rings. -/
def SwcSt.itemsFor (x : SwcSt) (rings : List Nat) : List PuntItem := x.punts.filter fun p => p.kind < 3 && rings.contains p.ring

/-- R486: the punt items and inject frames that the loss of a function drops. -/
def State.lossDrops (s : State) (f : Nat) : Nat :=
  (slices.map fun sl => ((s.swc sl).itemsFor (s.ringsOf true f)).length).sum + ((s.ringsOf false f).map s.injWaiting).sum

/-- R486: what an FLR of a function, or loss of the link, does to it. -/
def State.functionLoss (s : State) (f : Nat) : State :=
  let x := s.fn f
  let rings := s.ringsOf true f
  let injs := s.ringsOf false f
  let s := s.count hif4 R.HIF_RSTDROP 0 32 ((injs.map s.injWaiting).sum)
  let s := s.updFn f fun x => { x with
    muted := x.open.map (·.1), tags := x.open, outstanding := x.open.length, done := [], dups := [], unproved := none
    batch := false, held := [], batchWrote := false, phase := true }
  let s := s.dropChecks f
  let s := if x.batch then (if x.batchWrote then s.setStale else s).event hif4 3 else s
  let s := (s.clearRing (kccBlk f) 8 [5, 6, 7]).syncOutst f
  let s := forAll injs (fun r t => t.clearRing (injBlk r) 8 [3]) s
  let s := forAll rings (fun r t =>
    let u := t.clearRing (puntBlk r) 16 [5, 6]
    { u with hif := { u.hif with rings := u.hif.rings.set r {} } }) s
  forAll slices (fun sl t =>
    let gone := (t.swc sl).itemsFor rings
    let t := t.updSwc sl fun y => { y with
      punts := y.punts.filter fun p => !(p.kind < 3 && rings.contains p.ring)
      puntUse := y.puntUse - (gone.map (·.cells)).sum }
    ((t.count hif4 R.HIF_RSTDROP 0 32 gone.length)).syncShared sl) s

end Sys2Proof.Machine
end

