-- ==== Sys2Proof/Machine/Samples.lean ====
section
/-! DEFINITION. Samplers and the punt reserve: what a frame's descriptor gives them, and the events of the samplers
(R92, R289-R291). -/

namespace Sys2Proof.Machine

abbrev swcI (sl : Slice) : InstId := slInst .swc sl

/-! ### The result descriptor (R92) -/

def Desc.byte (d : Desc) (k : Nat) : Nat := ((d.rd[k]?).getD 0).toNat
def Desc.le (d : Desc) (off n : Nat) : Nat := ofLe (slice d.rd off n)
def Desc.dest (d : Desc) : Word := BitVec.ofNat 32 (d.le 4 4)
def Desc.flag (d : Desc) (k : Nat) : Bool := (d.byte 1).testBit k
def Desc.tclass (d : Desc) : Nat := d.byte 2 % 8

/-! ### Samples, copies and capture (R289-R292) -/

/-- R289: `n` cells fit in the punt reserve. -/
def State.puntFits (s : State) (sl : Slice) (n : Nat) : Bool :=
  (s.swc sl).puntUse + n ≤ s.regF (swcI sl) R.SWC_PUNTRSV 0 19

/-- Count a copy, sample or record that is suppressed. [DEDUCED, log 51] -/
def State.countSmp (s : State) (sl : Slice) : State := s.count (swcI sl) R.SWC_SMPDROP

/-- Count one that is discarded. -/
def State.discardSmp (s : State) (sl : Slice) : State := (s.countSmp sl).event (swcI sl) 5

/-- Queue an item in the punt reserve. The cells of a copy or sample are written there (R416); a punt's cells are moved
(R289), which writes none. [DESIGN CHOICE, log 130] -/
def State.addPunt (s : State) (sl : Slice) (p : PuntItem) : State :=
  ((s.updSwc sl fun x => { x with
    punts := x.punts ++ [{ p with chain := x.freeCells p.cells }], puntUse := x.puntUse + p.cells }.noteFresh
      (x.freeCells p.cells)).syncShared sl).noteAct sl 4 (if p.kind = 0 then 0 else p.cells)

/-- A punt item of a descriptor. -/
def Desc.punt (d : Desc) (kind ring cells : Nat) : PuntItem :=
  { kind := kind, ring := ring, fid := d.fid, cells := cells, inport := d.byte 49, aux := BitVec.ofNat 32 (d.le 12 4)
    tsSec := BitVec.ofNat 32 (d.le 56 4), tsNs := BitVec.ofNat 32 (d.le 60 4), tid := d.byte 48, tclass := d.byte 2
    seq := BitVec.ofNat 32 (d.le 52 4) }

/-- R291: bytes of a sample that TRUNC selects. -/
def truncBytes (w : Word) : Nat := 64 * (fld w 24 2 + 1)

/-- R291: the sample of a frame. -/
def State.sampleBytes (s : State) (d : Desc) (sampler : Nat) (forced : Bool) (w : Word) : List Byte :=
  let cut := truncBytes w < d.mdLen
  slice d.rd 56 8 ++ [BitVec.ofNat 8 (d.byte 49), BitVec.ofNat 8 sampler] ++ leBytes 2 d.mdLen ++ slice d.rd 12 4
    ++ slice d.rd 4 4 ++ slice d.rd 48 1 ++ slice d.rd 0 1 ++ slice d.rd 2 1
    ++ [BitVec.ofNat 8 ((if forced then 1 else 0) + (if cut then 2 else 0) + if d.lenFinal then 4 else 0)]
    ++ slice d.rd 52 4 ++ leBytes 4 0 ++ slice (s.frame d.fid).bytes 0 (min d.mdLen (truncBytes w))

/-- R490: a sampler's discarded sample; a summary item at its first discard, then at most one per ms. -/
def State.loseSample (s : State) (sl : Slice) (sampler : Nat) : State :=
  let x := s.swc sl
  let n := x.smpLost.get sampler + 1
  let s := s.discardSmp sl
  if x.smpAt.get sampler = 0 || x.smpAt.get sampler + 1000000 ≤ s.time + 1 then
    (s.updSwc sl fun y => { y with smpLost := y.smpLost.set sampler 0, smpAt := y.smpAt.set sampler (s.time + 1) }).fifoPost
      (8 + sl.val) [BitVec.ofNat 32 sampler, BitVec.ofNat 32 n]
  else s.updSwc sl fun y => { y with smpLost := y.smpLost.set sampler n }

/-- A sample is taken: suppressed from stage S1 on, discarded where it does not fit. -/
def State.takeSample (s : State) (sl : Slice) (d : Desc) (sampler : Nat) (forced : Bool) : State :=
  let w := s.ent (swcI sl) 6 sampler 0
  let b := s.sampleBytes d sampler forced w
  if 1 ≤ s.stage then s.countSmp sl
  else if s.puntFits sl (cellsOf b.length) then
    s.addPunt sl { d.punt 2 (fld w 26 6) (cellsOf b.length) with fid := 0, bytes := b }
  else s.loseSample sl sampler

/-- R290: load a countdown: drawn from 1 to 2N - 1. -/
def State.drawCountdown (s : State) (sl : Slice) (sampler : Nat) : Nat × State :=
  let n := fld (s.ent (swcI sl) 6 sampler 0) 0 24 + 1
  (1 + Config.samplerDraw s.free % (2 * n - 1), { s with free := s.free + 1 })

/-- R290: an event of a sampler. -/
def State.samplerEvent (s : State) (sl : Slice) (d : Desc) (sampler : Nat) (forced : Bool) : State :=
  if !bit (s.ent (swcI sl) 6 sampler 1) 0 then s
  else if forced then s.takeSample sl d sampler true
  else
    let (n, s) := if (s.swc sl).countdown.get sampler = 0 then s.drawCountdown sl sampler
      else ((s.swc sl).countdown.get sampler, s)
    if n = 1 then
      let (m, s) := s.drawCountdown sl sampler
      (s.updSwc sl fun x => { x with countdown := x.countdown.set sampler m }).takeSample sl d sampler false
    else s.updSwc sl fun x => { x with countdown := x.countdown.set sampler (n - 1) }

/-- The word of window 7 of a frame's ingress port. -/
def State.ingWord (s : State) (sl : Slice) (fid : Nat) : Word := s.ent (swcI sl) 7 ((s.frame fid).inport.val % 64) 0

/-- R290: at most one event per sampler, forced where a request forces it. [DEDUCED, log 52] -/
def samplerEvents (all : List (Nat × Bool)) : List (Nat × Bool) :=
  (List.range 16).filterMap fun k =>
    if all.any fun (i, _) => i = k then some (k, all.any fun (i, f) => i = k && f) else none

/-- The events of a frame: of its port's sampler, and of the requests that travel with its descriptor. -/
def State.sampleEvents (s : State) (sl : Slice) (d : Desc) : List (Nat × Bool) :=
  samplerEvents ((if d.flag 1 then [(fld (s.ingWord sl d.fid) 2 4, false)] else []) ++ d.samples)

/-- The events of some samplers for a frame. -/
def State.takeEvents (s : State) (sl : Slice) (d : Desc) (l : List (Nat × Bool)) : State :=
  forAll l (fun (k, f) t => t.samplerEvent sl d k f) s

/-- R202: the SAMPLE requests of a descriptor that a block reset of PCL discards stand: they act on the frame there and then,
though they would have travelled with the descriptor (R290). [DESIGN CHOICE, log 145] -/
def State.standingSamples (s : State) (sl : Slice) (d : Desc) : State := s.takeEvents sl d (samplerEvents d.samples)

end Sys2Proof.Machine
end

