-- ==== Sys2Proof/Machine/Faults.lean ====
section
/-! DEFINITION. The fault collector: detection and its reactions, Muzzle, the snapshot trigger, block resets and chip
resets (R497-R524, R533, R546). -/

namespace Sys2Proof.Machine

/-! ### Sources (R498) -/

/-- Source 4k + n: kind k in slice instance n (R497). -/
def srcOf (k : Nat) (sl : Slice) : Nat := 4 * k + sl.val

/-- R498: the reset target of a source; PUP_POSTCMT resets a group of its instance. -/
def resetTarget (src : Nat) : Option InstId :=
  if src < 84 then
    match src / 4 with
    | 0 => some (instOf .prt (src % 4))
    | 1 | 2 | 3 | 4 => some (instOf .pup (src % 4))
    | 5 => some (instOf .fwd (src % 4))
    | 6 | 7 => some (instOf .asa (src % 4))
    | 8 | 9 | 10 => some (instOf .rwr (src % 4))
    | 11 | 12 | 13 => some (instOf .swc (src % 4))
    | 14 => some (instOf .bpm (src % 4))
    | 15 => none
    | 16 | 17 | 18 | 19 => some (instOf .dtc (src % 4))
    | _ => some (instOf .tmg (src % 4))
  else match src with
    | 90 | 91 => some swc4
    | 93 | 94 => some kce4
    | _ => none

/-- R499, R500: the configuration word of a source. -/
def State.srcCfg (s : State) (src : Nat) : Word := s.ent flt4 4 src 0

/-- R499: the class in force. -/
def State.srcClass (s : State) (src : Nat) : Nat := fld (s.srcCfg src) 0 3

/-- The status register and bit of a source (R504). -/
def statOff (src : Nat) : Nat := 4 * (src / 32)
def State.latched (s : State) (src : Nat) : Bool := s.regB flt4 (statOff src) (src % 32)

/-- Every status bit is clear (R507). -/
def State.noneLatched (s : State) : Bool :=
  s.reg flt4 R.FLT_STAT0 = 0 && s.reg flt4 R.FLT_STAT1 = 0 && s.reg flt4 R.FLT_STAT2 = 0

/-! ### Outputs: ERR_N, Muzzle, recovered clocks -/

/-- R512: a pulse of ERR_N begins. -/
def State.bark (s : State) : State :=
  { s with flt := { s.flt with bark := true } }.setRegB flt4 R.FLT_ERRPIN 1 true

/-- R503, R512: the ERR_N ball is asserted. -/
def State.errN (s : State) : Bool := s.regB flt4 R.FLT_ERRPIN 1 || s.flt.sealed

/-- R503, R510: the NMI_N ball is asserted. -/
def State.nmiN (s : State) : Bool := s.regB flt4 R.FLT_NMI 0 || s.flt.sealed

/-- R410, R513: Muzzle is in force, for the outputs of a SCOPE bit; stage S6 muzzles every output. -/
def State.muzzled (s : State) (k : Nat) : Bool :=
  s.regB flt4 R.FLT_MUZZLE 0 && (s.regB flt4 R.FLT_MUZZLE (4 + k) || s.regB flt4 R.FLT_MUZZLE 7)

/-- R58: a frame in transmission ends with an error control character; its copy is freed. -/
def State.cutTx (s : State) (p : Nat) : State :=
  match (s.port p).tx with
  | none => s
  | some f => (s.updPort p fun x => { x with tx := none, sent := f.bytes, sentErr := true }).freeCopy f.copy

/-- R75: a port sends only Local Fault: it leaves LPI, and the frames handed to its MAC are discarded and counted in
PRT_TXDROP. -/
def State.muzzlePort (s : State) (p : Nat) : State :=
  if bit (s.laneReg p R.PRT_PSTAT) 11 then s else
  let s := (s.setLane p R.PRT_PSTAT 11 1 1).setLane p R.PRT_PSTAT 9 1 0
  let s := s.event (slInst .prt (portSlice p)) (24 + p % 8) (p / 8 % 8 * 512)
  let held := (s.port p).mac
  let n := held.length + (if (s.port p).tx.isSome then 1 else 0)
  let s := (s.cutTx p).updPort p fun x => { x with mac := [] }
  (forAll (held.map (·.copy)) (fun c t => t.freeCopy c) s).countMac p R.PRT_TXDROP 0 32 n

/-- R513: Muzzle makes a port send Local Fault: a guarded port under SCOPE, or every enabled port under ALLPORTS. -/
def State.muzzleWants (s : State) (p : Nat) : Bool :=
  s.regB flt4 R.FLT_MUZZLE 0 && ((s.regB flt4 R.FLT_MUZZLE 6 && bit (s.laneReg p R.PRT_PCFG) 11) ||
    (s.regB flt4 R.FLT_MUZZLE 7 && bit (s.laneReg p R.PRT_PCFG) 0))

/-- Bring a port under Muzzle. A port stays muzzled until the host releases Muzzle, whatever GUARD and SCOPE become (R75). -/
def State.syncMuzzlePort (s : State) (p : Nat) : State := if s.muzzleWants p then s.muzzlePort p else s

/-- R435: squelch a recovered clock. -/
def State.squelch (s : State) (c : Nat) : State :=
  if s.regB tsu4 (R.TSU_RCLK + 4 * c) 25 then s
  else (s.setRegB tsu4 (R.TSU_RCLK + 4 * c) 25 true).event tsu4 11

/-- Bring the outputs in line with FLT_MUZZLE. -/
def State.syncMuzzle (s : State) : State :=
  let s := if s.muzzled 1 then (s.squelch 0).squelch 1 else s
  forAll (List.range 256) (fun p t => t.syncMuzzlePort p) s

/-- R513: Muzzle comes into force; `all` muzzles every enabled port (R410). TOUT and PPS_OUT follow it at the pins. -/
def State.muzzle (s : State) (all : Bool := false) : State :=
  let s := s.setRegB flt4 R.FLT_MUZZLE 0 true
  let s := if all then s.setRegB flt4 R.FLT_MUZZLE 7 true else s
  s.syncMuzzle

/-! ### The snapshot trigger (R520-R524) -/

/-- A bank is free: it holds no snapshot and no copy into it is in progress. -/
def State.bankFree (s : State) (b : Nat) : Bool :=
  !s.regB flt4 R.FLT_SNAPSTAT b && !s.regB flt4 R.FLT_SNAPSTAT (4 + b)

/-- R522: the bank a trigger uses. -/
def State.pickBank (s : State) : Option Nat :=
  match (List.range 4).find? s.bankFree with
  | some b => some b
  | none => if s.regB flt4 R.FLT_CTRL 2 then s.flt.bankOrder.head? else none

/-- R524: a trigger within 1 µs of an earlier one merges into it. -/
def State.triggerMerges (s : State) : Bool :=
  match s.flt.lastTrigger with
  | some t => decide (s.time - t ≤ 1000)
  | none => false

/-- R501, R522: a trigger now is copied: by its own copy, or by that of the trigger it merges into, unless that one was
missed. -/
def State.snapshotTaken (s : State) : Bool :=
  if s.triggerMerges then !s.flt.lastMissed else s.flt.shadow.isNone && s.pickBank.isSome

/-- R445: TSU_KSECLO and TSU_KSECHI show the Kennel's seconds. -/
def State.syncKsec (s : State) : State :=
  (s.setReg tsu4 R.TSU_KSECLO (BitVec.ofNat 32 s.knl.sec.toNat)).setReg tsu4 R.TSU_KSECHI
    (BitVec.ofNat 32 (s.knl.sec.toNat / 2 ^ 32))

/-- Fire the common trigger. -/
def State.trigger (s : State) (cause src : Nat) : State :=
  if s.triggerMerges then s else
  let s := { s with flt := { s.flt with
    lastTrigger := some s.time, lastMissed := !s.snapshotTaken
    snapOut := s.flt.snapOut || cause ≠ 0 || s.regB flt4 R.FLT_CTRL 3 } }
  if s.flt.shadow.isSome then s.count flt4 R.FLT_SNAPMISS else
  match s.pickBank with
  | none => s.count flt4 R.FLT_SNAPMISS
  | some b =>
    let s := s.syncKsec
    let s := { s with flt := { s.flt with
      shadow := some (b, s.regs.ents), bankOrder := s.flt.bankOrder.filter (· ≠ b) ++ [b] } }
    let s := (s.setRegB flt4 R.FLT_SNAPSTAT b false).setRegB flt4 R.FLT_SNAPSTAT (4 + b) true
    let s := s.setRegF flt4 (R.FLT_SNAPBSLO + 16 * b) 0 32 s.tsu.sec.toNat
    let s := s.setRegF flt4 (R.FLT_SNAPBSHI + 16 * b) 0 16 (s.tsu.sec.toNat / 2 ^ 32)
    let s := s.setRegF flt4 (R.FLT_SNAPBNS + 16 * b) 0 30 s.tsu.ns
    let s := s.setReg flt4 (R.FLT_SNAPBCAUSE + 16 * b) (setFld (setFld 0 0 3 cause) 3 7 (if cause = 2 then src else 0))
    forAll slices (fun sl t =>
      let t := t.updPup sl fun p => { p with freeze := true }
      if t.sleep sl = 3 then t.requestWake sl else t) s

/-! ### The Kennel record (R502, R546) -/

/-- The highest temperature, in °C, of the valid sensors; none where no sensor is valid. -/
def State.maxSensor (s : State) : Option Int :=
  let vals := slices.flatMap fun sl => (List.range 6).filterMap fun k =>
    let w := s.reg (slInst .egv sl) (R.EGV_SENSOR + 4 * k)
    if bit w 16 then none else some (sext (fld w 0 16) 16 / 8)
  match vals with
  | [] => none
  | v :: r => some (r.foldl max v)

/-- A byte holding a signed number. -/
def sbyte (v : Int) : Byte := BitVec.ofInt 8 v

/-- R502, R546: write a fault record. `src` 255 stands for an S6 halt. -/
def State.record (s : State) (src cls : Nat) (sealMark : Bool) : State :=
  let n := s.knlNat 0x10 4
  let plant := s.reg egv4 R.EGV_PLANT
  let dstat := s.reg egv4 R.EGV_DSTAT
  let (top, s) := match s.maxSensor with
    | some t => (sbyte t, s)
    | none => (Config.freeByte s.free, { s with free := s.free + 1 })
  let rec32 := leBytes 6 s.tsu.sec.toNat ++ [BitVec.ofNat 8 src,
      BitVec.ofNat 8 (cls + (if sealMark then 8 else 0) + if s.regB tsu4 R.TSU_STAT 2 then 16 else 0)]
    ++ leBytes 4 s.tsu.ns ++ [BitVec.ofNat 8 (fld plant 24 3), 0] ++ leBytes 2 (fld plant 0 12) ++ leBytes 4 n
    ++ leBytes 2 (fld dstat 0 16) ++ [BitVec.ofNat 8 (fld dstat 16 8), top] ++ leBytes 8 0
  if !s.boot.vkeep then s else
  let s := (s.knlWrite (0x400 + 32 * (n % 32)) rec32).knlWrite 0x10 (leBytes 4 (n + 1))
  let s := if sealMark then (s.setKnlFlag 0 true).knlWrite 0x0C (leBytes 4 (s.knlNat 0x0C 4 + 1)) else s
  let s := if src = 255 then s.setKnlFlag 1 true else s
  s.knlEvent 2

/-! ### Machine checks (R127) -/

/-- The nanoword index of the microword at a context's pc. -/
def State.nwAt (s : State) (x : CtxId) : Nat := fld (s.ent (slInst .pup x.slice) 0 (s.ctx x).pc.toNat 0) 20 12

/-- R127: record an exception unless a record is held. -/
def State.machineCheck (s : State) (x : CtxId) (code nw : Nat) : State :=
  let i := slInst .pup x.slice
  let c := s.ctx x
  if s.regB i R.PUP_MCHK0 23 then s else
  let w := setFld (setFld (setFld 0 24 8 code) 20 3 x.ctx.val) 11 9 x.pup.val
  let w := setBit (setBit (setBit w 23 true) 10 c.committed) 9 c.restarted
  (s.setReg i R.PUP_MCHK0 w).setReg i R.PUP_MCHK1 (setFld (setFld 0 16 12 nw) 0 14 c.pc.toNat)

/-! ### Block resets (R516, R517, R519) -/

/-- Count frames and copies that a block reset discards. -/
def State.rstDrop (s : State) (n : Nat) : State := s.count flt4 R.FLT_RSTDROP 0 32 n

/-! ### Access to an instance (R31-R33) -/

/-- R41: the CTL, HIF and TSU domains run, from the end of fuse load until chip reset. -/
def State.ctlRuns (s : State) : Bool := s.regB knl4 R.KNL_BOOT 0 && !s.boot.inReset

/-- The instance can be accessed now: the register fabric runs (R41; until it does the sender holds the access, R42), the
instance is not under block reset, and its slice is awake. [DEDUCED, log 109] -/
def State.reachable (s : State) (i : InstId) : Bool :=
  s.ctlRuns && !s.inBlockReset i && (4 ≤ i.inst.val || s.awake (Fin.ofNat 4 i.inst.val))

/-- An access waits for an earlier one to its instance, and for every part of its function's earlier broadcast write. -/
def Access.waitsFor (a b : Access) : Bool := decide (b.inst = a.inst) || (b.bcast && decide (b.fn = a.fn))

/-- Ask for the wake of an instance's slice. -/
def State.wakeFor (s : State) (i : InstId) : State :=
  if i.inst.val < 4 then s.requestWake (Fin.ofNat 4 i.inst.val) else s

/-- R510, R535: a write of FLT_NMI in a Sealed hold, or of FLT_CRST in another chip reset, which acts though no register fabric
runs. [DEDUCED, log 128] -/
def State.actsInReset (s : State) (a : Access) : Bool :=
  decide (a.fn = 0 ∧ a.inst = flt4) && a.value.isSome && a.store.isNone &&
    if s.flt.sealed then s.boot.inReset && a.off = R.FLT_NMI else s.boot.vaon && !s.ctlRuns && a.off = R.FLT_CRST

/-- Perform an access by `f`, or hold it until it can be performed. [DEDUCED, log 22] -/
def State.access (s : State) (a : Access) (f : State → State) : State :=
  if s.actsInReset a || (s.reachable a.inst && !s.held.any a.waitsFor) then f s
  else { s with held := s.held ++ [a] }.wakeFor a.inst

/-- The words of an entry, numbered from 0. -/
def numbered (l : List Word) : List (Nat × Word) := l.zipIdx.map fun (v, k) => (k, v)

/-- R31: an access to a slice instance, or a broadcast to all four in order. -/
def State.accessSlices (s : State) (b : Block) (inst : Fin 16) (a : Access) (f : Slice → State → State) : State :=
  forAll (instSlices inst) (fun sl t => t.access { a with inst := slInst b sl, bcast := inst.val = 15 } (f sl)) s

/-- R126: a pup group reset. "As if it had raised an exception" is read as the ending alone: a context that the reset abandons
writes no record of R127, though PUP_MCHK0.VALID is 0 [DESIGN CHOICE, log 139]. A packet that had restarted is discarded by the
reset, and counts in FLT_RSTDROP beside its count under 0x08 (R516). -/
def State.resetGroup (s : State) (sl : Slice) (g : Nat) : State :=
  let s := s.updPup sl fun p => { p with groupReset := g :: p.groupReset.filter (· ≠ g) }
  forAll ((s.running sl).filter fun x => decide (pupGroup x.pup.val = g)) (fun x t =>
    let gone := !(t.ctx x).committed && !isHk x && (t.ctx x).restarted
    (t.abandon x 8).rstDrop (if gone then 1 else 0)) s

/-- R516: PUP n. Packets before COMMIT are dropped; housekeeping routines restart from their entries. -/
def State.resetPup (s : State) (sl : Slice) : State :=
  forAll (s.running sl) (fun x t =>
    let c := t.ctx x
    if c.committed then t.loseTail x
    else if isHk x then t.startIn x (startCtx (t.entryWord sl c.bank c.entry) c.bank c.entry)
    else ((t.endCtx x).dropPacket sl c.fid).rstDrop 1) s

/-- R202: PCL n. Sample requests of what is discarded stand: their events come now. A SWC that is itself under reset takes no
samples. [DESIGN CHOICE, log 145] -/
def State.resetPcl (s : State) (sl : Slice) : State :=
  let fids := (s.pcl sl).rob.map (·.fid)
  let s := if s.inBlockReset (swcI sl) then s
    else forAll ((s.pcl sl).rob.filterMap (s.slotDesc sl)) (fun d t => t.standingSamples sl d) s
  let s := forAll ((s.running sl).filter fun x => !isHk x) (fun x t => (t.keepRequests x).endCtx x) s
  let s := s.updPup sl fun p => { p with restarts := [] }
  let s := ((s.updPcl sl fun x => { x with rob := [], seqs := {} }).syncRob sl).syncBusy sl
  let s := (forAll fids (fun f t => t.freeIngress f) s).rstDrop fids.length
  s.tryRetire

/-- R516 RWR n: of a frame that waits at its MAC and has not been handed over whole, what the MAC holds is all that will leave,
with an error control character behind it. -/
def TxFrame.cutShort (x : TxFrame) : TxFrame := if x.final then x else { x with final := true, cut := true }

/-- R516: RWR n. Copies dequeued and not started are dropped; a frame not wholly handed to its MAC is cut. -/
def State.resetRwr (s : State) (sl : Slice) : State :=
  let q := (s.swc sl).rewriteQ
  let s := s.updSwc sl fun x => { x with rewriteQ := [] }
  let s := (forAll q (fun c t => t.freeCopy c) s).rstDrop q.length
  let ports := (List.range 64).map (64 * sl.val + ·)
  let wire := ports.filter fun p => (s.port p).tx.any fun f => !f.final
  let wait := ports.filter fun p => (s.port p).mac.any fun f => !f.final
  let n := (wait.map fun p => (s.port p).mac.countP fun f => !f.final).sum
  let s := forAll wait (fun p t => t.updPort p fun x => { x with mac := x.mac.map TxFrame.cutShort }) s
  (forAll wire (fun p t => t.cutTx p) s).rstDrop (wire.length + n)

/-- R516: the contexts of a slice with an outstanding lookup of the given tables raise exception 0x04. -/
def State.failLookups (s : State) (sl : Slice) (tables : Nat → Bool) : State :=
  forAll ((s.running sl).filter fun x => (s.ctx x).look.toList.any fun l => l.any fun l => tables l.table) (fun x t =>
    (t.machineCheck x 4 (t.nwAt x)).abandon x 4) s

/-- R516: FWD n. -/
def State.resetFwd (s : State) (sl : Slice) : State :=
  let n := (s.fwd sl).learnQ.length
  let s := s.updFwd sl fun x => { x with learnQ := [], refreshQ := [], filter := [] }
  let s := if n = 0 then s else (s.count (slInst .fwd sl) R.FWD_LRNDROP 0 32 n).event (slInst .fwd sl) 2
  s.failLookups sl (· ≤ 7)

/-- R516: ASA n. -/
def State.resetAsa (s : State) (sl : Slice) : State := s.failLookups sl fun t => 7 ≤ t && t ≤ 23

/-- A copy whose cells or buffer a reset has taken: it is dropped when it is reached. [DEDUCED, log 50] -/
def Copy.lost (c : Copy) : Copy := { c with gone := true, a := 0, b := 0, s := 0 }

/-- R516 SWC n: a queued copy loses its cells; a spill write in progress is lost with its source. -/
def Copy.loseSram (c : Copy) : Copy := if c.deep.isSome && c.cells = 0 then c else { c.lost with deep := none }

/-- R516 BPM n: a queued copy loses its buffer; one whose spill write has not completed still lies in SRAM. -/
def Copy.loseDeep (c : Copy) : Copy :=
  if c.deep.isNone then c else if 0 < c.cells then { c with deep := none } else c.lost

/-- A frame of slice `sl` whose cells a reset of its packet SRAM has taken. -/
def loseFrame (sl : Slice) (f : Frame) : Frame :=
  if decide (portSlice f.inport.val = sl) && decide (0 < f.ingCells + f.ingShared) then
    { f with ingCells := 0, ingShared := 0, gone := true }
  else f

/-- Replace every listed entry; an unlisted one stays as it is. -/
def mapTbl {α : Type} [DecidableEq α] [Inhabited α] (f : α → α) (t : Tbl α) : Tbl α :=
  (t.ents.map (·.1)).foldl (fun u k => u.upd k f) t

/-- Some cells of a frame have not reached slice `e` from its ingress slice. -/
def State.missingIn (s : State) (e : Slice) (fid : Nat) : Bool :=
  let l := s.link (s.ingSlice fid) e
  !(s.frame fid).final || l.waiting.contains fid || l.flying.contains fid

/-- The copies in slice `e` of frames whose cells were lost before they had crossed are lost too: their charges are
released, and each is dropped when it is reached. [DEDUCED, log 50] -/
def State.loseRemote (s : State) (e : Slice) (fids : List Nat) : State :=
  let hit := fun (c : Copy) => fids.contains c.fid && !c.gone
  let lose := fun (c : Copy) => if hit c then c.lost else c
  let free := fun (l : List Copy) (t : State) => forAll (l.filter hit) (fun c u => u.unchargeCopy c) t
  let s := forAll ((s.tmg e).queues.ents.filter fun (_, l) => l.any hit) (fun (q, l) t => free l (t.setQueue e q (l.map lose))) s
  let s := free (s.swc e).rewriteQ (s.updSwc e fun x => { x with rewriteQ := x.rewriteQ.map lose })
  forAll ((List.range 64).map (64 * e.val + ·)) (fun p t =>
    let l := ((t.port p).mac ++ (t.port p).tx.toList).map (·.copy)
    let fix := fun (x : TxFrame) => { x with copy := lose x.copy }
    if !l.any hit then t else
      free l (t.updPort p fun y => { y with mac := y.mac.map fix, tx := y.tx.map fix })) s

/-- R516: SWC n. Every frame of the slice's packet SRAM is discarded; queued copies stay and are dropped when reached. -/
def State.resetSwc (s : State) (sl : Slice) : State :=
  let x := s.swc sl
  let mine := (s.frames.ents.filter fun (_, f) => loseFrame sl f ≠ f).map (·.1)
  let s := forAll (slices.filter (· ≠ sl)) (fun e t =>
    (t.loseRemote e (mine.filter (t.missingIn e))).updLink sl e fun l => l.without mine.contains) s
  let s := (List.range 64).map (64 * sl.val + ·) |>.foldl (fun t p =>
    let n := (t.port p).mac.length
    let cut := (t.port p).tx.isSome
    let t := (t.cutTx p).updPort p fun y => { y with mac := [] }
    t.rstDrop (n + if cut then 1 else 0)) s
  let s := s.rstDrop (x.rewriteQ.length + x.punts.length)
  let s := { s with frames := mapTbl (loseFrame sl) s.frames }
  let s := s.updSwc sl fun x => { x with
    rewriteQ := [], punts := [], puntUse := 0, captures := [], stored := {}, gused := {}, sused := {}, tgused := {},
    tsused := {}, heldShared := 0, cells := {}, leaked := [], suspect := [], fresh := none, spillQ := [], spilling := [], draining := [] }
  let s := forAll x.spilling (fun (q, cid) t => match t.findCopy sl q cid with
    | some c => match c.deep with
      | some a => t.releaseBuffer sl c.tid a
      | none => t
    | none => t) s
  let s := s.updTmg sl fun t => { t with
    queues := mapTbl (fun l => l.map Copy.loseSram) t.queues }
  (s.setRegF (slInst .swc sl) R.SWC_INGUSE 0 19 0).syncShared sl

/-- R516: SWC 4. All links retrain; cells in flight wait in their senders again. -/
def State.resetFabric (s : State) : State :=
  { s with links := mapTbl (fun l => { l with
      waiting := l.flying ++ l.waiting, flying := [], fails := 0, retraining := false, retrainFails := 0 }) s.links
    }.setRegF swc4 R.SWC_FABSTAT 0 16 0

/-- R516: BPM n. Every buffer is freed; the copies in them are dropped under DEEPUNC as they are reached. -/
def State.resetBpm (s : State) (sl : Slice) : State :=
  let i := slInst .bpm sl
  let s := s.updBpm sl fun b => { b with pageOwner := {}, refs := {}, hkWrite := none, hkRead := none }
  let s := forAll (List.range 4) (fun p t => (t.setReg i (R.BPM_PGUSE + 4 * p) 0).setReg i (R.BPM_BUFUSE + 4 * p) 0) s
  let s := s.updSwc sl fun x => { x with spillUse := {}, spilling := [], draining := [] }
  s.updTmg sl fun t => { t with
    queues := mapTbl (fun l => l.map Copy.loseDeep) t.queues }

/-- R322, R318: DTC n. The ranks rest in self-refresh, and every request in flight fails: the copies being spilled or drained
are dropped under DEEPUNC, and each counts in FLT_RSTDROP. -/
def State.resetDtc (s : State) (sl : Slice) : State :=
  let l := (s.swc sl).spilling ++ (s.swc sl).draining
  let s := forAll ((List.range 4).map (4 * sl.val + ·)) (fun c t => t.restRanks c) (s.loseHk sl)
  let s := s.updSwc sl fun x => { x with spilling := [], draining := [] }
  forAll l (fun (q, cid) t => match t.findCopy sl q cid with
    | some c => ((t.removeCopy sl q cid).dropCopy 10 c).rstDrop 1
    | none => t) s

/-- R372: TMG n. -/
def State.resetTmg (s : State) (sl : Slice) : State :=
  let l := (s.tmg sl).queues.ents.flatMap (·.2)
  let s := forAll l (fun c t => t.freeCopy c) s
  let s := s.updTmg sl fun t => { t.filled with
    queues := {}, refusedQ := [], e1Refused := false, e23Refused := false, refusedCost := 0 }
  (s.setRegB (slInst .tmg sl) R.TMG_ESTAT 0 false).rstDrop l.length

/-- R516: PRT n. Absorption buffers are emptied and frames in reception discarded; ports stay in UP. A frame in reception
that has been released in cut-through ends as a poisoned one. -/
def State.resetPrt (s : State) (sl : Slice) : State :=
  let ports := (List.range 64).map (64 * sl.val + ·)
  let n := (ports.map fun p => (s.port p).absorb.length + (s.port p).released.length
    + if (s.port p).rx.any fun f => !(s.port p).absorb.contains f && !(s.port p).released.contains f then 1 else 0).sum
  let s := forAll ports (fun p t => match (t.port p).rx with
    | none => t.updPort p fun x => { x with absorb := [], released := [] }
    | some f =>
      if (t.port p).absorb.contains f then
        t.updPort p fun x => { x with absorb := [], released := [], rx := none, rxSkip := true }
      else (t.updFrame f fun g => { g with poison := true }).updPort p fun x => { x with absorb := [], released := [] }) s
  let s := forAll ((List.range 8).map (8 * sl.val + ·)) (fun m t =>
    (t.updMacro m fun x => { x with absBytes := 0 }).setMac (8 * m) R.PRT_ABSOCC 0 16 0) s
  s.rstDrop n

/-- R442: TSU. Registers that the rule does not name are kept (R516); the ring's next pass writes PHASE 1.
[DEDUCED, log 83] -/
def State.resetTsu (s : State) : State :=
  let s := forAll (List.range 8) (fun n t => t.setRegB tsu4 (R.TSU_TOUTCFG + 32 * n) 2 false) s
  let s := (s.setRegB tsu4 R.TSU_SNAPCFG 0 false).setRegF tsu4 R.TSU_TXHEAD 0 20 0
  let s := { s with tsu := { s.tsu with tout := {}, pps := false, latches := {}, txPhase := true } }
  (s.squelch 0).squelch 1

/-- R458: KCE. Every request in the engine completes with ABORTED; an image under verification fails.
[DEDUCED, log 88] -/
def State.resetKce (s : State) : State :=
  let k := s.kce
  let inEngine := k.cores.ents.filterMap (·.2) ++ k.suspended.ents.filterMap (·.2) ++ k.urgent ++ k.checks ++ k.normal
    ++ k.waiting
  let s := { s with kce := { k with urgent := [], checks := [], normal := [], cores := {}, suspended := {}, waiting := [] } }
  let s := s.setReg kce4 R.KCE_QOCC 0
  let s := forAll inEngine (fun r t => match r.use with
    | .mac => t.finish r.cmd 11
    | .check _ _ => t.reject r.slot r.cmd 11
    | .image | .void => t) s
  match s.hif.load with
  | none => s
  | some l =>
    let s := forAll slices (fun sl t =>
      (t.setRegF (slInst .pup sl) R.PUP_LDSTAT 0 4 3).setRegB (slInst .pup sl) R.PUP_STAT 3 false) s
    { s with hif := { s.hif with load := none } }.finish l.cmd 23 [3]

/-- Whether a function has any state that its loss changes: the PF, an owner of rings, a function that holds commands, and
one whose KCC ring has been written. -/
def State.fnInUse (s : State) (owners : List Nat) (f : Nat) : Bool :=
  f = 0 || owners.contains f || decide (s.fn f ≠ {})
    || (List.range 8).any fun k => decide (s.ring (kccBlk f) k ≠ winReset hif4 1 f k)

/-- The owners of the punt and inject rings (R485). -/
def State.ringOwners (s : State) : List Nat :=
  ((List.range 64).flatMap fun r => [s.ringOwner true r, s.ringOwner false r]).dedup

/-- R516, R486: HIF. Every function is treated as for link loss; the link stays in L0. What that drops counts in FLT_RSTDROP too. -/
def State.resetHif (s : State) : State :=
  let owners := s.ringOwners
  forAll ((List.range 257).filter fun f => s.fnInUse owners f) (fun f t => (t.functionLoss f).rstDrop (t.lossDrops f)) s

/-- The effects of a block reset at its start (R516). -/
def State.resetEffect (s : State) (i : InstId) (group : Nat) : State :=
  let sl : Slice := Fin.ofNat 4 i.inst.val
  match i.block with
  | .pup => if group < 13 then s.resetGroup sl group else s.resetPup sl
  | .pcl => s.resetPcl sl
  | .rwr => s.resetRwr sl
  | .fwd => s.resetFwd sl
  | .asa => s.resetAsa sl
  | .swc => if i.inst.val = 4 then s.resetFabric else (s.resetSwc sl).holdWaiting sl
  | .bpm => s.resetBpm sl
  | .dtc => s.resetDtc sl
  | .tmg => (s.resetTmg sl).holdWaiting sl
  | .prt => s.resetPrt sl
  | .tsu => s.resetTsu
  | .kce => s.resetKce
  | .hif => s.resetHif
  | .egv | .knl | .flt => s

/-- R516: the instances that have a block reset. -/
def hasReset (i : InstId) : Bool :=
  i.present && match i.block with
    | .knl | .flt => false
    | .egv => i.inst.val < 4
    | _ => true

/-- A reset of the same target is in progress, or waits for its slice. -/
def State.resetRuns (s : State) (i : InstId) (group : Nat) : Bool :=
  (s.flt.resets ++ s.flt.waiting).any fun r => decide (r.target = instIndex i) && decide (r.group = group)

/-- Start a block reset. A second reset of the same target is not taken (R519); one of an instance of a sleeping slice
wakes the slice and begins when it is awake (R517). [DEDUCED, log 97] -/
def State.startReset (s : State) (i : InstId) (group : Nat) (asked : Bool := false) : State :=
  let r : BlockReset := ⟨instIndex i, group, asked⟩
  if !hasReset i || s.resetRuns i group then s
  else if i.inst.val < 4 && !s.awake (Fin.ofNat 4 i.inst.val) then
    { s with flt := { s.flt with waiting := s.flt.waiting ++ [r] } }.requestWake (Fin.ofNat 4 i.inst.val)
  else { s with flt := { s.flt with resets := s.flt.resets ++ [r] } }.resetEffect i group

/-! ### Chip reset (R533) -/

/-- The registers and windows that a chip reset keeps: those of FLT, of EGV instance 4 and of KNL, and the temperature
sensors and thermal model of the EGV slow side (R380, R382). -/
def keptReg (a : Nat) : Bool :=
  match instOfIndex (a / 4096) with
  | some ⟨.flt, _⟩ | some ⟨.knl, _⟩ => true
  | some ⟨.egv, n⟩ => n.val = 4 || a % 4096 = R.EGV_TSLICE || (decide (R.EGV_SENSOR ≤ a % 4096) && decide (a % 4096 < R.EGV_SENSOR + 24))
  | _ => false

def keptWin (k : Nat) : Bool :=
  match instOfIndex (k / 2 ^ 40) with
  | some ⟨.flt, _⟩ => true
  | some ⟨.egv, n⟩ => n.val = 4
  | some ⟨.knl, _⟩ => true
  | _ => false

/-- R480: the last accepted SEQ of each function is the Kennel mark of its slot. [DEDUCED, log 102] -/
def State.seqsFromMarks (s : State) : Tbl FnSt :=
  ((s.knl.store.ents.filter fun (k, _) => 0x1000 ≤ k && decide (k < 0x1800)).map fun (k, _) => (k - 0x1000) / 8).dedup.foldl
    (fun t f => t.set f { lastSeq := s.mark f }) {}

/-- R390: AVSFAIL of the slices, which a chip reset does not clear. -/
def State.keepAvsFail (s t : State) : State :=
  forAll (slices.filter fun sl => s.regB (slInst .egv sl) R.EGV_SSTAT 18) (fun sl u =>
    u.setRegB (slInst .egv sl) R.EGV_SSTAT 18 true) t

/-- R533: what a chip reset leaves of a state: FLT, EGV instance 4 and the slices' slow side, the Kennel, and what lies outside
the device; every other block is as after reset. -/
def State.aonOnly (s : State) : State :=
  s.keepAvsFail { State.reset with
    pending := s.pending, time := s.time, free := s.free
    regs := ⟨s.regs.ents.filter fun (k, _) => keptReg k⟩, win := ⟨s.win.ents.filter fun (k, _) => keptWin k⟩
    wst := ⟨s.wst.ents.filter fun (k, _) => keptWin (k * 2 ^ 40)⟩
    sigs := ⟨s.sigs.ents.filter fun (k, _) => keptReg (k * 4096)⟩
    gov := s.gov, knl := s.knl, flt := s.flt, boot := s.boot
    egvs := ⟨(s.egvs.ents.map fun (k, x) => (k, ({ th := x.th } : EgvSt))).filter fun (_, x) =>
      decide (x ≠ default)⟩
    hif := { fns := s.seqsFromMarks, mem := s.hif.mem, msi := s.hif.msi } }

/-- What the loss of VAON leaves: the Kennel, the levels of pins and rails, and what lies outside the device. -/
def State.kennelOnly (s : State) : State :=
  { State.reset with
    pending := s.pending, time := s.time, free := s.free, knl := s.knl, boot := s.boot
    hif := { State.reset.hif with mem := s.hif.mem, msi := s.hif.msi }
    }.setReg knl4 R.KNL_STAT (s.reg knl4 R.KNL_STAT)

/-- R535: the Kennel finishes the mark writes in progress, on VKEEP. [DEDUCED, log 127] -/
def State.finishMarks (s : State) : State :=
  if !s.boot.vkeep then s else
  forAll (s.kce.slots.ents.filterMap fun (k, x) => x.writing.map fun h => (k, h)) (fun (k, h) t => t.setMark k h) s

/-- A chip reset of cause `cause` (KNL_BOOT.RSTCAUSE). It replaces every block reset (R519). One that falls in another keeps the
accesses that wait for its end: the two are one reset (R535). [DEDUCED, log 100] -/
def State.chipReset (s : State) (cause : Nat) : State :=
  let t := s.finishMarks.aonOnly
  let t := { t with
    held := if s.ctlRuns then [] else s.held
    gov := { s.gov with shed := [], toShed := [], drain5 := false }
    flt := { s.flt with resets := [], waiting := [], chipPending := none, snapOut := false }
    boot := { s.boot with inReset := true, fullStart := !s.ctlRuns && s.boot.fullStart, avs := false } }
  let boot := setFld (s.reg knl4 R.KNL_BOOT &&& 0xF040) 8 4 cause
  (t.setReg knl4 R.KNL_BOOT boot).setRegB flt4 R.FLT_BRST 21 false

/-- R533, R534: in a chip reset every block but those on VAON is held: a command changes nothing else. Accesses wait
(log 109). [DEDUCED, log 127] -/
def State.heldFrom (t s : State) : State :=
  if !(s.boot.inReset && t.boot.inReset) then t
  else { (if t.boot.vaon then t.aonOnly else t.kennelOnly) with held := t.held }

/-- R501: a chip reset begins, once a snapshot copy in progress is complete. -/
def State.chipResetAfterCopy (s : State) (cause : Nat) (waits : Bool) : State :=
  if waits && s.flt.shadow.isSome then { s with flt := { s.flt with chipPending := some cause } } else s.chipReset cause

/-! ### Detection (R504-R512) -/

/-- R504, R506, R507, R510: latch a source, post its item, and send the vectors of INT and NMI. -/
def State.latch (s : State) (src : Nat) : State :=
  let cfg := s.srcCfg src
  let was := s.latched src
  let pending := s.regB flt4 R.FLT_NMI 0
  let s := if s.noneLatched && !s.regB flt4 R.FLT_FIRST 7 then
    s.setReg flt4 R.FLT_FIRST (BitVec.ofNat 32 (128 + src)) else s
  let s := s.setRegB flt4 (statOff src) (src % 32) true
  let s := s.setEnt flt4 5 src 0 (BitVec.ofNat 32 (satAdd (s.ent flt4 5 src 0).toNat 1 32))
  let s := if was then s else
    let item := [BitVec.ofNat 32 (src + fld cfg 0 3 * 128 + if s.flt.missed then 1024 else 0), BitVec.ofNat 32 s.tsu.ns]
    if (s.fifo 12).room item then { s with flt := { s.flt with missed := false } }.fifoEnter 12 item
    else { s with flt := { s.flt with missed := true } }
  let s := if bit cfg 4 && !was then s.sendMsi 0 0 else s
  if bit cfg 5 then
    let s := s.setRegB flt4 R.FLT_NMI 0 true
    if !was || !pending then s.sendMsi 0 63 else s
  else s

/-- R508: one detection of a source and its reactions. In chip reset, a Sealed hold too, only EGV and FLT detect (R519); nor does a
slice that failed self-test and is held in reset (R537). -/
def State.detect (s : State) (src group : Nat) : State :=
  if (s.boot.inReset && !(84 ≤ src && (src ≤ 89 || src = 95))) || (src < 84 && s.failed (Fin.ofNat 4 (src % 4))) then s else
  let cfg := s.srcCfg src
  let cls := fld cfg 0 3
  let snap := (2 ≤ cls && s.regB flt4 R.FLT_CTRL 1) || bit cfg 8
  let s := s.latch src
  let waits := snap && s.snapshotTaken
  let s := if snap then s.trigger 2 src else s
  let s := if bit cfg 6 then s.bark else s
  let s := if bit cfg 7 then s.muzzle else s
  let s := if 3 ≤ cls then s.record src cls (cls = 4) else s
  if cls = 2 then match resetTarget src with
    | some i => s.startReset i (if src / 4 = 1 && src < 84 then group else 15)
    | none => s
  else if cls = 3 then
    let t115 := src = 88
    let s := if t115 then { s with gov := { s.gov with t115Held := true } } else s
    s.chipResetAfterCopy (if t115 then 4 else 3) waits
  else if cls = 4 then
    let t := s.chipReset 3
    { t with flt := { t.flt with sealed := true, thermtrip := t.flt.thermtrip || src = 89 } }
  else s

/-- Collect the noted sources, in order, those that a reaction detects included. -/
def State.collect : Nat → State → State
  | 0, s => { s with flt := { s.flt with toRaise := [] } }
  | n + 1, s =>
    match s.flt.toRaise with
    | [] => s
    | f :: r => ({ s with flt := { s.flt with toRaise := r } }.detect (f % 128) (f / 128)).collect n

/-- The outcome of a command with effect `t` on state `s`: the noted sources are collected, blocks in reset are held there, and
the machine goes on. A command neither reads the queue nor takes time. The reactions detect few further sources, since no reset restarts within a command
(R519), so the bound of the collector is never reached. [DESIGN CHOICE, log 4; DEDUCED, log 95] -/
def State.goesOn (s t : State) : Out :=
  .next { (t.collect (t.flt.toRaise.length + 1000)).heldFrom s with pending := s.pending, time := s.time }

/-- The outcome of a command for which the manual's guarantee is needed (R5). [DEDUCED, log 18] -/
def State.done (s t : State) : Out := if s.boot.unrated then .fault .unratedTemperature else s.goesOn t

end Sys2Proof.Machine
end

