-- ==== Sys2Proof/Machine/Asa.lean ====
section
/-! DEFINITION. The associative search arrays: partitions, searches with their verification, rewrites and the scrubber
(R232-R244). -/

namespace Sys2Proof.Machine

abbrev asaI (sl : Slice) : InstId := slInst .asa sl

/-! ### Partitions (R234) -/

/-- Fields of a partition descriptor. -/
def partFirst (w : Word) : Nat := fld w 0 5
def partBanks (w : Word) : Nat := fld w 5 6
def partWidth (w : Word) : Nat := fld w 11 2
def partVersioned (w : Word) : Bool := bit w 13
def partL2 (w : Word) : Bool := bit w 14
def partValid (w : Word) : Bool := bit w 15

/-- Banks of a group. -/
def partGroup (w : Word) : Nat := 2 ^ partWidth w

/-- The descriptor of a partition. -/
def State.part (s : State) (sl : Slice) (p : Nat) : Word := s.ent (asaI sl) 1 p 0

/-- Two descriptors share a bank. -/
def partOverlap (v w : Word) : Bool :=
  partFirst v < partFirst w + partBanks w && partFirst w < partFirst v + partBanks v

/-- R234: a descriptor written with VALID = 1 is acceptable beside the other valid ones. -/
def partLegal (v : Word) (others : List Word) : Bool :=
  let g := partGroup v
  let step := if partVersioned v then 2 * g else g
  decide (partWidth v ≤ 2) && decide (partFirst v % g = 0) && decide (partBanks v % step = 0) &&
    decide (1 ≤ partBanks v) && decide (partFirst v + partBanks v ≤ 32) && others.all (fun w => !partOverlap v w) &&
    (!partL2 v || (decide (partWidth v = 0) && !partVersioned v && decide (partBanks v ≤ 16) &&
      others.all fun w => !partL2 w))

/-- The number of the L2 partition, if one is valid. -/
def State.l2Part (s : State) (sl : Slice) : Option Word :=
  ((List.range 32).map (s.part sl)).find? fun w => partValid w && partL2 w

/-- Rows of the L2 partition, and its first row. -/
def l2Rows (w : Word) : Nat := partBanks w * 2048
def l2First (w : Word) : Nat := partFirst w * 2048

/-- FWD_L2USE: the valid rows of the L2 partition. -/
def State.syncL2 (s : State) (sl : Slice) : State :=
  let n := match s.l2Part sl with
    | none => 0
    | some w => (s.asa sl).shadow.ents.countP fun (r, row) =>
      decide (l2First w ≤ r) && decide (r < l2First w + l2Rows w) && row.valid
  s.setRegF (slInst .fwd sl) R.FWD_L2USE 0 16 n

/-- A write of a partition descriptor. -/
def State.writePart (s : State) (sl : Slice) (p : Nat) (v : Word) : State :=
  let others := ((List.range 32).filter (· ≠ p)).map (s.part sl) |>.filter partValid
  let ok := if partValid (s.part sl p) then !partValid v else !partValid v || partLegal v others
  if ok then (s.setEnt (asaI sl) 1 p 0 (v &&& 0xFFFF)).syncL2 sl else s.event (asaI sl) 3

/-- R234: ASA_PARTITION_WRITE. -/
def execAsaPartitionWrite (inst : Fin 16) (part : Fin 32) (v : Word) (s : State) : Out :=
  s.done (s.accessSlices .asa inst { inst := ⟨.asa, inst⟩, store := some (1, part.val, [(0, v)]) } fun sl t => t.writePart sl part.val v)

/-! ### Rows -/

/-- A row as the bank stores it. [DESIGN CHOICE, log 47] -/
def AsaSt.row (a : AsaSt) (r : Nat) : AsaRow := (a.live.get r).getD (a.shadow.get r)

/-- Write a row and its shadow together (R232): the row is enabled again. -/
def State.writeRow (s : State) (sl : Slice) (r : Nat) (v : AsaRow) : State :=
  s.updAsa sl fun a => { a with
    shadow := a.shadow.set r v, live := a.live.set r none, disabled := a.disabled.set r false,
    rewriteQ := a.rewriteQ.filter (· ≠ r), shadowErr := a.shadowErr.set r .clean, lost := a.lost.set r false }

/-- R233: the segment of a row matches 160 key bits under a global mask. -/
def AsaRow.segMatch (row : AsaRow) (key mask : BitVec 160) : Bool :=
  row.care &&& ~~~mask &&& (row.value ^^^ key) = 0

/-- R233: a row is enabled for a pre-filter value. -/
def AsaRow.enabled (row : AsaRow) (pref : Byte) : Bool := row.valid && (pref ^^^ row.pf) &&& row.pfcare = 0

/-- Bits [160j + 159 : 160j] of a key or mask. -/
def segOf (v j : Nat) : BitVec 160 := BitVec.ofNat 160 (v / 2 ^ (160 * j))

/-- R236: the entry at first-bank row `r` of a group of `g` banks matches, with rows read by `get`. -/
def entryMatches (get : Nat → AsaRow) (g r key mask : Nat) (pref : Byte) : Bool :=
  (get r).enabled pref &&
    (List.range g).all fun j => (get (r + 2048 * j)).segMatch (segOf key j) (segOf mask j)

/-- R238, R239: the row is the first row of an entry of the partition's region for an epoch. -/
def inRegion (w : Word) (epoch : Bool) (r : Nat) : Bool :=
  let b := r / 2048
  let k := b - partFirst w
  decide (partFirst w ≤ b) && decide (k < partBanks w) && decide (k % partGroup w = 0) &&
    (!partVersioned w || (decide (partBanks w / 2 ≤ k) == epoch))

/-- The lowest number of a list. -/
def lowest : List Nat → Option Nat
  | [] => none
  | n :: r => some (r.foldl min n)

/-- R241: search the matching rows in order, at most `n` verifications: the verified row and those that failed. -/
def verify (good : Nat → Bool) : Nat → List Nat → List Nat → Option Nat × List Nat
  | 0, _, bad => (none, bad)
  | n + 1, cands, bad =>
    match lowest cands with
    | none => (none, bad)
    | some r => if good r then (some r, bad) else verify good n (cands.filter (· ≠ r)) (bad ++ [r])

/-- R233-R241: a search of a partition. A shadow with an error serves the verification as its contents stand: the scrub and a
read of the window find the error. [DESIGN CHOICE, log 144] -/
def State.asaSearch (s : State) (sl : Slice) (w : Word) (epoch : Bool) (key mask : Nat) (pref : Byte) :
    Option Nat × List Nat :=
  let a := s.asa sl
  let g := partGroup w
  let on := fun r => (List.range g).all fun j => !a.disabled.get (r + 2048 * j)
  let rows := (a.shadow.ents.map (·.1) ++ a.live.ents.map (·.1)).filter fun r =>
    inRegion w epoch r && on r && entryMatches a.row g r key mask pref
  verify (fun r => entryMatches a.shadow.get g r key mask pref) 3 rows []

/-- R237: a global mask register. -/
def State.asaMask (s : State) (sl : Slice) (g : Nat) : Nat :=
  ofLe ((s.entry (asaI sl) 3 g).flatMap fun w => leBytes 4 w.toNat)

/-- R235: the partition that a profile's map entry gives for a search of a width (0-2), where the entry is usable. -/
def State.profilePart (s : State) (sl : Slice) (tid : Byte) (p width : Nat) : Option Word :=
  let m := s.ent (asaI sl) 2 (tid.toNat * 16 + p) 0
  let w := s.part sl (fld m 0 5)
  if bit m 5 && partValid w && !partL2 w && decide (partWidth w = width) then some w else none

/-- R241: rows that failed their verification are disabled, queued for rewrite and counted; a row that an uncorrectable shadow
keeps disabled is not rewritten (R243). Of an entry in several banks the row of the first is the one. [DESIGN CHOICE, log 144]
-/
def State.falseHits (s : State) (sl : Slice) (rows : List Nat) (multi : Bool) : State :=
  let s := forAll rows (fun r t =>
    let t := t.updAsa sl fun a => { a with
      disabled := a.disabled.set r true,
      rewriteQ := if a.rewriteQ.contains r || a.lost.get r then a.rewriteQ else a.rewriteQ ++ [r] }
    (((t.count (asaI sl) R.ASA_FALSEHIT).setReg (asaI sl) R.ASA_LASTROW (BitVec.ofNat 32 r)).event (asaI sl) 0).noteFault
      (srcOf 6 sl)) s
  if multi then s.event (asaI sl) 1 else s

/-- The slice's arrays work: the slice is awake and they are not under reset. -/
def State.asaOn (s : State) (sl : Slice) : Bool := s.awake sl && !s.inBlockReset (asaI sl)

/-- R241: the oldest queued rewrite is made and enables its row again. -/
def execAsaRowRewrite (sl : Slice) (s : State) : Out :=
  s.done (if !s.asaOn sl then s else
    match (s.asa sl).rewriteQ with
    | [] => s
    | r :: rest => s.updAsa sl fun a => { a with
        rewriteQ := rest, live := a.live.set r none, disabled := a.disabled.set r false })

/-- R243: an uncorrectable shadow disables its row until the host writes it. -/
def State.shadowLost (s : State) (sl : Slice) (r : Nat) : State :=
  let s := s.updAsa sl fun a => { a with
    disabled := a.disabled.set r true, rewriteQ := a.rewriteQ.filter (· ≠ r), lost := a.lost.set r true }
  let s := (s.count (asaI sl) R.ASA_SHADOW 16 16).event (asaI sl) 2
  (s.fifoPost (4 + sl.val) [BitVec.ofNat 32 (11 + 32 * sl.val), BitVec.ofNat 32 r]).noteFault (srcOf 7 sl)

/-- R243: a read of a shadow found an error: a single one is corrected, a double one loses the row. -/
def State.shadowFound (s : State) (sl : Slice) (r : Nat) : Ecc → State
  | .clean => s
  | .corrected => (s.updAsa sl fun a => { a with shadowErr := a.shadowErr.set r .clean }).count (asaI sl) R.ASA_SHADOW 0 16
  | .uncorrectable => s.shadowLost sl r

/-- R243: a read of row `r`'s shadow, which holds an error or has just taken the error `e`. A row that is lost is not reported
again. -/
def State.shadowRead (s : State) (sl : Slice) (r : Nat) (e : Ecc) : State :=
  if (s.asa sl).lost.get r then s else s.shadowFound sl r (if e = .clean then (s.asa sl).shadowErr.get r else e)

/-- R242: a row that differs from its shadow is rewritten from it. -/
def State.scrubRow (s : State) (sl : Slice) (r : Nat) : State :=
  if (s.asa sl).lost.get r || (s.asa sl).row r = (s.asa sl).shadow.get r then s
  else (s.updAsa sl fun a => { a with live := a.live.set r none }).count (asaI sl) R.ASA_SCRUBFIX

/-- R242, R243: the scrubber compares a row with its shadow; `shadow`: an error that the shadow has just taken. -/
def execAsaScrubRow (sl : Slice) (row : Fin 65536) (shadow : Ecc) (s : State) : Out :=
  s.done (if !s.asaOn sl || !s.regB (asaI sl) R.ASA_CTRL 0 then s
    else (s.shadowRead sl row.val shadow).scrubRow sl row.val)

end Sys2Proof.Machine
end

