-- ==== Sys2Proof/Machine/Fwd.lean ====
section
/-! DEFINITION. The forwarding tables: direct tables, the LPM FIB, the L2 MAC table with learning and ageing, table parity
reports and the FWD operations (R207-R231). -/

namespace Sys2Proof.Machine

abbrev fwdI (sl : Slice) : InstId := slInst .fwd sl

/-! ### Table parity reports (R213-R215) -/

/-- Report the 64-bit word `addr` of a TABLE of R214 as damaged; multiples of 32 above it tell words apart that the item names
alike. -/
def State.tblParity (s : State) (sl : Slice) (table addr : Nat) : State :=
  let s := ((s.count (fwdI sl) R.FWD_PARCNT).event (fwdI sl) 3).noteFault (srcOf 5 sl)
  if (s.fwd sl).reported.contains (table, addr) then s else
  (s.updFwd sl fun f => { f with reported := ((table, addr) :: f.reported).take 32 }).fifoPost (4 + sl.val)
    [BitVec.ofNat 32 (table % 32 + 32 * sl.val), BitVec.ofNat 32 addr]

/-- A word that is written leaves the list of reported words. -/
def State.unreport (s : State) (sl : Slice) (table addr : Nat) : State :=
  s.updFwd sl fun f => { f with reported := f.reported.filter (· ≠ (table, addr)) }

/-! ### Direct tables (R207, R208, R210, R215) -/

/-- The window of tables 2-7, and the 64-bit words of an entry. -/
def tblWin (t : Nat) : Nat := t - 2
def tblWords (t : Nat) : Nat := if t = 3 || t = 4 then 2 else 1

/-- The 64-bit words `addr` to `addr + n - 1` of a table that are damaged. -/
def State.damagedWords (s : State) (sl : Slice) (t addr n : Nat) : List (Nat × Nat) :=
  ((List.range n).map (addr + ·)).filterMap fun a =>
    if s.badWord (fwdI sl) (tblWin t) (2 * a) || s.badWord (fwdI sl) (tblWin t) (2 * a + 1) then some (t, a) else none

/-- The 32-bit words of 64-bit words `addr` to `addr + n - 1`. -/
def State.rawWords (s : State) (sl : Slice) (t addr n : Nat) : List Word :=
  (List.range (2 * n)).map fun k => s.winWord (fwdI sl) (tblWin t) (2 * addr + k)

/-- R210: the miss result of a table, with HIT forced to 0. -/
def State.missResult (s : State) (sl : Slice) (t : Nat) : List Word :=
  let l := s.entry (fwdI sl) 6 t
  if t = 3 then l else l.modify (if t = 4 then 2 else 0) fun w => setBit w 31 false

/-- R208, R210: the entry of a direct table at an index: the result words and the damaged words met. -/
def State.directLookup (s : State) (sl : Slice) (t idx : Nat) : List Word × List (Nat × Nat) :=
  let n := tblWords t
  let l := s.rawWords sl t (idx * n) n
  let d := s.damagedWords sl t (idx * n) n
  let valid := t = 3 || bit (l[if t = 4 then 2 else 0]?.getD 0) 31
  (if d = [] && valid then l else s.missResult sl t, d)

/-! ### The LPM FIB (R209, R211, R218, R219) -/

/-- R218: route units of a prefix. -/
def routeUnits (r : Route) : Nat := if !r.v6 then 1 else if r.plen ≤ 64 then 2 else 4

/-- R218: route units of a slice. -/
abbrev lpmUnits : Nat := 3145728

/-- The top `plen` bits of an address of `n` bits. -/
def prefixOf (n plen a : Nat) : Nat := a / 2 ^ (n - plen)

def addrBits (v6 : Bool) : Nat := if v6 then 128 else 32

/-- A route covers an address of its family and instance. -/
def Route.covers (r : Route) (v6 : Bool) (inst a : Nat) : Bool :=
  r.v6 == v6 && decide (r.inst = inst) &&
    decide (prefixOf (addrBits v6) r.plen a = prefixOf (addrBits v6) r.plen r.addr.toNat)

/-- The longest of a list of routes. -/
def longest : List Route → Option Route
  | [] => none
  | r :: l => some (l.foldl (fun m q => if m.plen < q.plen then q else m) r)

/-- R212: the damaged words of trie nodes that a lookup of an address reads, as TABLE and ADDR of R214: the trie's layout is
open, and a node is read by the lookups of the addresses under its prefix. [DESIGN CHOICE, log 46] -/
def FwdSt.pathDamage (f : FwdSt) (v6 : Bool) (inst a : Nat) : List (Nat × Nat) :=
  (f.badNodes.filter fun n => n.1.covers v6 inst a).map fun n => (8, n.2)

/-- R209, R211, R212: an LPM lookup: its result words and the damaged words met. -/
def State.lpmLookup (s : State) (sl : Slice) (v6 : Bool) (tid : Byte) (a : Nat) : List Word × List (Nat × Nat) :=
  let inst := fld (s.ent (fwdI sl) 7 tid.toNat 0) (if v6 then 8 else 0) 8
  let miss := s.missResult sl (if v6 then 1 else 0)
  match (s.fwd sl).pathDamage v6 inst a, longest ((s.fwd sl).routes.filter fun r => r.covers v6 inst a) with
  | [], some r => ([BitVec.ofNat 32 (r.rdata.toNat + 2 ^ 31), BitVec.ofNat 32 r.plen], [])
  | d, _ => (miss, d)

/-- The same prefix. -/
def Route.same (r q : Route) : Bool :=
  r.v6 == q.v6 && decide (r.inst = q.inst) && decide (r.plen = q.plen) &&
    decide (prefixOf (addrBits q.v6) q.plen r.addr.toNat = prefixOf (addrBits q.v6) q.plen q.addr.toNat)

/-- FWD_LPMUSE. -/
def State.syncLpm (s : State) (sl : Slice) : State :=
  s.setRegF (fwdI sl) R.FWD_LPMUSE 0 22 ((s.fwd sl).routes.map routeUnits).sum

/-! ### The statuses of R229 -/

abbrev opOk : Nat := 0
abbrev opReplaced : Nat := 1
abbrev opNotFound : Nat := 2
abbrev opFull : Nat := 3
abbrev opBadArg : Nat := 4
abbrev opNotAged : Nat := 5
abbrev opNoPart : Nat := 6

/-- R213, R220: an operation on a route writes nodes on its path; whether it writes a damaged one is open.
[DESIGN CHOICE, log 46] -/
def State.rewriteNodes (s : State) (sl : Slice) (r : Route) : State :=
  forAll ((s.fwd sl).badNodes.filter fun n => decide (n.1.plen ≤ r.plen) && n.1.covers r.v6 r.inst r.addr.toNat) (fun n t =>
    let (v, t) := t.drawWord
    if bit v 0 then (t.updFwd sl fun f => { f with badNodes := f.badNodes.filter (· ≠ n) }).unreport sl 8 n.2 else t) s

/-- R219: add a route: its status. -/
def State.routeAdd (s : State) (sl : Slice) (r : Route) : Nat × State :=
  let l := (s.fwd sl).routes
  let rest := l.filter fun q => !q.same r
  if addrBits r.v6 < r.plen then (opBadArg, s)
  else if rest.length < l.length then
    (opReplaced, ((s.updFwd sl fun f => { f with routes := r :: rest, freeing := f.freeing + 1 }).syncLpm sl).rewriteNodes sl r)
  else if lpmUnits < (l.map routeUnits).sum + routeUnits r then (opFull, s)
  else (opOk, ((s.updFwd sl fun f => { f with routes := r :: l, freeing := f.freeing + 1 }).syncLpm sl).rewriteNodes sl r)

/-- R219: delete a route. -/
def State.routeDel (s : State) (sl : Slice) (r : Route) : Nat × State :=
  let l := (s.fwd sl).routes
  let rest := l.filter fun q => !q.same r
  if addrBits r.v6 < r.plen then (opBadArg, s)
  else if rest.length = l.length then (opNotFound, s)
  else (opOk, ((s.updFwd sl fun f => { f with routes := rest, freeing := f.freeing + 1 }).syncLpm sl).rewriteNodes sl r)

/-! ### The L2 MAC table (R222-R228) -/

/-- The age clock. -/
def State.ageNow (s : State) (sl : Slice) : Nat := s.regF (fwdI sl) R.FWD_AGENOW 0 16

/-- R244: the row of an L2 key: address in bits [47:0], BD in [61:48]. -/
def l2Row (key : BitVec 62) : AsaRow := { value := key.setWidth 160, care := BitVec.ofNat 160 (2 ^ 62 - 1), valid := true }

/-- R222: the lookup of a key in the L2 partition: the L2 row index, and what the search reports. -/
def State.l2Search (s : State) (sl : Slice) (key : BitVec 62) : Option Nat × List Nat :=
  match s.l2Part sl with
  | none => (none, [])
  | some w =>
    let (r, bad) := s.asaSearch sl w false key.toNat 0 0
    (r.map (· - l2First w), bad)

/-- R223: the data word of an L2 row as a result; a damaged word misses. -/
def State.l2Result (s : State) (sl : Slice) (row : Option Nat) : List Word × List (Nat × Nat) :=
  match row with
  | none => (s.missResult sl 7, [])
  | some r =>
    let d := s.damagedWords sl 7 r 1
    if d = [] then ((s.rawWords sl 7 r 1).modify 0 fun w => setBit w 31 true, []) else (s.missResult sl 7, d)

/-- Words 0 and 1 of a notice that hold the key. -/
def noticeKey (sl : Slice) (key : BitVec 62) : List Word :=
  let a := key.toNat % 2 ^ 48
  [BitVec.ofNat 32 (a / 2 ^ 16), BitVec.ofNat 32 (a % 2 ^ 16 + key.toNat / 2 ^ 48 * 2 ^ 16 + sl.val * 2 ^ 30)]

/-- R225, R230: post a notice of a TYPE: 0 NEW, 1 MOVE, 2 AGED, 3 STATIC_VIOL. -/
def State.postNotice (s : State) (sl : Slice) (key : BitVec 62) (ty lport inport row : Nat) : State :=
  let f := s.fwd sl
  if ty ≠ 2 && f.filter.contains key then s
  else if 4096 ≤ f.learnQ.length then (s.count (fwdI sl) R.FWD_LRNDROP).event (fwdI sl) 2
  else
    let item := noticeKey sl key ++ [BitVec.ofNat 32 (lport + inport * 256 + ty * 2 ^ 16),
      BitVec.ofNat 32 (row + s.ageNow sl * 2 ^ 16)]
    s.updFwd sl fun g => { g with
      learnQ := g.learnQ ++ [item]
      filter := if ty = 2 || 256 ≤ g.filter.length then g.filter else g.filter ++ [key] }

/-- R226: ask for a refresh of a row, unless it would change nothing or one is queued for the row. -/
def State.refresh (s : State) (sl : Slice) (row : Nat) : State :=
  let w := s.winWord (fwdI sl) 5 (2 * row + 1)
  let now := s.ageNow sl
  if fld w 0 16 = now && !bit w 16 then s
  else if (s.fwd sl).refreshQ.contains row then s
  else if 64 ≤ (s.fwd sl).refreshQ.length then s.count (fwdI sl) R.FWD_REFDROP
  else s.updFwd sl fun f => { f with refreshQ := f.refreshQ ++ [row] }

/-- R225, R199: what a source lookup makes the device do, by the row it hit, if any, and the data word of that row at issue. -/
def State.learn (s : State) (sl : Slice) (l : Learn) (row : Option Nat) (data : List Word) : State :=
  if !s.regB (fwdI sl) R.FWD_LRNCFG 12 then s else
  let lp := l.lport.toNat
  match row with
  | none => s.postNotice sl l.key 0 lp l.inport.toNat 0
  | some r =>
    let same := decide (fld (data[0]?.getD 0) 0 8 = lp)
    if bit (data[1]?.getD 0) 17 then (if same then s else s.postNotice sl l.key 3 lp l.inport.toNat r)
    else if same then s.refresh sl r else s.postNotice sl l.key 1 lp l.inport.toNat r

/-- R227: age-check a row that the ageing routine reads, as it reads it. -/
def State.ageCheck (s : State) (sl : Slice) (row : Nat) : State :=
  match s.l2Part sl with
  | none => s
  | some w =>
    let k := (s.asa sl).shadow.get (l2First w + row)
    let d := s.winWord (fwdI sl) 5 (2 * row + 1)
    let limit := max 1 (s.regF (fwdI sl) R.FWD_AGECFG 0 15)
    if k.valid && !bit d 17 && !bit d 16 && decide (limit ≤ (s.ageNow sl + 65536 - fld d 0 16) % 65536) then
      (s.setWinWord (fwdI sl) 5 (2 * row + 1) (setBit d 16 true)).postNotice sl (k.value.setWidth 62) 2 0 0 row
    else s

/-- The valid row that holds a key, as an L2 row index. -/
def State.l2Find (s : State) (sl : Slice) (w : Word) (key : BitVec 62) : Option Nat :=
  ((s.asa sl).shadow.ents.find? fun (r, row) => decide (l2First w ≤ r) && decide (r < l2First w + l2Rows w) && row.valid
    && decide (row.value = key.setWidth 160)).map fun (r, _) => r - l2First w

/-- A row that is not valid, as an L2 row index: which one FWD takes is left open. [DESIGN CHOICE, log 44] -/
def State.l2Free (s : State) (sl : Slice) (w : Word) : Option Nat × State :=
  let free := (List.range (l2Rows w)).filter fun r => !((s.asa sl).shadow.get (l2First w + r)).valid
  let (v, t) := s.drawWord
  match free[v.toNat % free.length]? with
  | none => (none, s)
  | some r => (some r, t)

/-- R229: L2_INSERT: status, row, state. Whatever it answers, its key leaves the pending filter (R225). -/
def State.l2Insert (s : State) (sl : Slice) (key : BitVec 62) (w0 w1 : Word) : Nat × Nat × State :=
  let drop := fun (t : State) => t.updFwd sl fun f => { f with filter := f.filter.filter (· ≠ key) }
  match s.l2Part sl with
  | none => (opNoPart, 0, drop s)
  | some w =>
    let d := [w0 &&& 0x03FFFFFF, BitVec.ofNat 32 (s.ageNow sl) ||| (w1 &&& 0xFFFE0000)]
    let put := fun (t : State) (r : Nat) => (t.setEntry (fwdI sl) 5 r 0 d).unreport sl 7 r
    match s.l2Find sl w key with
    | some r => (opReplaced, r, drop (put s r))
    | none => match s.l2Free sl w with
      | (some r, t) => (opOk, r, drop (((put t r).writeRow sl (l2First w + r) (l2Row key)).syncL2 sl))
      | (none, t) => (opFull, 0, drop ((t.count (fwdI sl) R.FWD_L2FULL).event (fwdI sl) 1))

/-- R244: an L2 row that is not valid: its key stays, and CARE, PF and PFCARE are those of every L2 row. -/
def AsaRow.cleared (x : AsaRow) : AsaRow := { l2Row (x.value.setWidth 62) with valid := false }

/-- Delete an L2 row: the row becomes invalid before its data is cleared. -/
def State.l2Clear (s : State) (sl : Slice) (w : Word) (r : Nat) : State :=
  let x := (s.asa sl).shadow.get (l2First w + r)
  (((s.writeRow sl (l2First w + r) x.cleared).setEntry (fwdI sl) 5 r 0 [0, 0]).unreport sl 7 r).syncL2 sl

/-- R229: L2_DELETE. -/
def State.l2Delete (s : State) (sl : Slice) (key : BitVec 62) : Nat × State :=
  match s.l2Part sl with
  | none => (opNoPart, s)
  | some w => match s.l2Find sl w key with
    | none => (opNotFound, s)
    | some r => (opOk, s.l2Clear sl w r)

/-- R224, R229: L2_AGEDEL. -/
def State.l2Agedel (s : State) (sl : Slice) (r : Nat) : Nat × State :=
  match s.l2Part sl with
  | none => (opBadArg, s)
  | some w =>
    if l2Rows w ≤ r then (opBadArg, s)
    else if !((s.asa sl).shadow.get (l2First w + r)).valid then (opNotFound, s)
    else if !bit (s.winWord (fwdI sl) 5 (2 * r + 1)) 16 then (opNotAged, s)
    else (opOk, s.l2Clear sl w r)

/-! ### Operations (R216, R220, R229) -/

/-- The key of L2 arguments 0 and 1. -/
def argKey (a0 a1 : Word) : BitVec 62 :=
  BitVec.ofNat 62 (a0.toNat * 2 ^ 16 + fld a1 0 16 + fld a1 16 14 * 2 ^ 48)

/-- The route of arguments: family, address, PLEN and INST word, RDATA. -/
def argRoute (v6 : Bool) (addr : Nat) (p rdata : Word) : Route :=
  ⟨v6, fld p 8 8, fld p 0 8, BitVec.ofNat 128 addr, rdata.setWidth 31⟩

/-- Perform an operation: status, row and state. -/
def State.fwdEffect (s : State) (sl : Slice) (o : FwdOp) : Nat × Nat × State :=
  let a := fun (k : Nat) => o.args[k]?.getD 0
  let v6 := ofLe ((o.args.take 4).flatMap fun w => leBytes 4 w.toNat)
  let wrap := fun (x : Nat × State) => (x.1, 0, x.2)
  match o.op with
  | 1 => wrap (s.routeAdd sl (argRoute false (a 0).toNat (a 1) (a 2)))
  | 2 => wrap (s.routeDel sl (argRoute false (a 0).toNat (a 1) 0))
  | 3 => wrap (s.routeAdd sl (argRoute true v6 (a 4) (a 5)))
  | 4 => wrap (s.routeDel sl (argRoute true v6 (a 4) 0))
  | 5 => s.l2Insert sl (argKey (a 0) (a 1)) (a 2) (a 3)
  | 6 => wrap (s.l2Delete sl (argKey (a 0) (a 1)))
  | 7 => wrap (s.l2Agedel sl (a 0).toNat)
  | _ => (opBadArg, 0, s)

/-- Start an operation: its effect is made in one step, and it runs until FWD_OP_COMPLETE. [DEDUCED, log 42] -/
def State.fwdStart (s : State) (sl : Slice) (o : FwdOp) : State :=
  let (st, row, t) := s.fwdEffect sl o
  (t.updFwd sl fun f => { f with run := some o, res := (st, row) }).setRegB (fwdI sl) R.FWD_OPCTL 12 true

/-- An operation reaches FWD: they run one at a time, in order. -/
def State.fwdRequest (s : State) (sl : Slice) (o : FwdOp) : State :=
  if (s.fwd sl).run.isSome || (s.fwd sl).queue ≠ [] || !s.awake sl || s.inBlockReset (fwdI sl) then
    (s.updFwd sl fun f => { f with queue := f.queue ++ [o] }).requestWake sl
  else s.fwdStart sl o

/-- Start the next queued operation. -/
def State.fwdNext (s : State) (sl : Slice) : State :=
  if (s.fwd sl).run.isSome || !s.awake sl || s.inBlockReset (fwdI sl) then s else
  match (s.fwd sl).queue with
  | [] => s
  | o :: r => (s.updFwd sl fun f => { f with queue := r }).fwdStart sl o

/-- R229: ROUTE_ADD4. -/
def execRouteAdd4 (sl : Slice) (a0 a1 a2 : Word) (s : State) : Out := s.done (s.fwdRequest sl ⟨1, [a0, a1, a2]⟩)

/-- R229: ROUTE_DEL4. -/
def execRouteDel4 (sl : Slice) (a0 a1 : Word) (s : State) : Out := s.done (s.fwdRequest sl ⟨2, [a0, a1]⟩)

/-- R229: ROUTE_ADD6. -/
def execRouteAdd6 (sl : Slice) (a0 a1 a2 a3 a4 a5 : Word) (s : State) : Out :=
  s.done (s.fwdRequest sl ⟨3, [a0, a1, a2, a3, a4, a5]⟩)

/-- R229: ROUTE_DEL6. -/
def execRouteDel6 (sl : Slice) (a0 a1 a2 a3 a4 : Word) (s : State) : Out :=
  s.done (s.fwdRequest sl ⟨4, [a0, a1, a2, a3, a4]⟩)

/-- R229: L2_INSERT. -/
def execL2Insert (sl : Slice) (a0 a1 a2 a3 : Word) (s : State) : Out := s.done (s.fwdRequest sl ⟨5, [a0, a1, a2, a3]⟩)

/-- R229: L2_DELETE. -/
def execL2Delete (sl : Slice) (a0 a1 : Word) (s : State) : Out := s.done (s.fwdRequest sl ⟨6, [a0, a1]⟩)

/-- R229: L2_AGEDEL. -/
def execL2Agedel (sl : Slice) (a0 : Word) (s : State) : Out := s.done (s.fwdRequest sl ⟨7, [a0]⟩)

/-- R229, R246: the running operation completes. -/
def State.fwdComplete (s : State) (sl : Slice) : State :=
  match (s.fwd sl).run with
  | none => s
  | some o =>
    let (st, row) := (s.fwd sl).res
    let s := (s.updFwd sl fun f => { f with run := none }).setReg (fwdI sl) R.FWD_OPCTL (setFld 0 8 4 st)
    let s := if o.op = 5 && st ≤ 1 then s.setRegF (fwdI sl) R.FWD_OPRES 0 15 row else s
    s.event (fwdI sl) 0

/-- R229: FWD_OP_COMPLETE. -/
def execFwdOpComplete (sl : Slice) (s : State) : Out := s.done ((s.fwdComplete sl).fwdNext sl)

/-- R220: the nodes that an operation replaced are freed. -/
def execTrieNodeFree (sl : Slice) (s : State) : Out := s.done (s.updFwd sl fun f => { f with freeing := f.freeing - 1 })

/-- R226: the oldest queued refresh is written, with the current age clock, to whatever entry its row then holds; FWD is
clocked only while its slice is awake (R392). A refresh of a damaged entry is dropped, and nothing counts it. [DESIGN CHOICE,
log 144] -/
def execL2RefreshWrite (sl : Slice) (s : State) : Out :=
  s.done (match (s.fwd sl).refreshQ with
    | [] => s
    | row :: rest =>
      if !s.awake sl then s.requestWake sl else
      let s := s.updFwd sl fun f => { f with refreshQ := rest }
      if s.badEntry (fwdI sl) 5 row then s else
      let d := s.winWord (fwdI sl) 5 (2 * row + 1)
      s.setWinWord (fwdI sl) 5 (2 * row + 1) (setBit (setFld d 0 16 (s.ageNow sl)) 16 false))

/-- R225: the hold of the oldest key in the pending filter ends. -/
def execPendingFilterExpiry (sl : Slice) (s : State) : Out :=
  s.done (s.updFwd sl fun f => { f with filter := f.filter.drop 1 })

/-- R225: the oldest queued notice enters the learn FIFO when there is room for it. -/
def execLearnQueueToFifo (sl : Slice) (s : State) : Out :=
  s.done (match (s.fwd sl).learnQ with
    | [] => s
    | n :: rest =>
      if !s.awake sl then s.requestWake sl
      else if (s.fifo sl.val).waiting = [] && (s.fifo sl.val).room n then
        (s.updFwd sl fun f => { f with learnQ := rest }).fifoEnter sl.val n
      else s)

/-- R369: an E1 hold is in force in a slice. -/
def State.e1Hold (s : State) (sl : Slice) : Bool := s.regB (slInst .tmg sl) R.TMG_ESTAT 0

/-- R398: a task of the governor that it may not start or must pause now. -/
def State.withheld (s : State) (sl : Slice) (task : Nat) : Bool :=
  bit (s.ent (slInst .egv sl) 1 task 1) 16 && (decide (1 ≤ s.stage) || s.e1Hold sl)

/-- R398: a fixed task runs, and ends; it acts while its slice is awake and it is not withheld. -/
def State.taskRuns (s : State) (sl : Slice) (task : Nat) : Bool := (s.egv sl).tasks.any fun t => t.1 = task
def State.taskActs (s : State) (sl : Slice) (task : Nat) : Bool :=
  s.taskRuns sl task && s.awake sl && !s.withheld sl task
def State.endTask (s : State) (sl : Slice) (task : Nat) : State :=
  s.updEgv sl fun e => { e with tasks := e.tasks.filter fun t => t.1 ≠ task }

/-- R227: the age clock steps, unless it is stopped. -/
def execAgeClockTick (sl : Slice) (s : State) : Out :=
  let ager := s.regF (fwdI sl) R.FWD_LRNCFG 8 4
  s.done (if s.regB (fwdI sl) R.FWD_AGECFG 15 && s.withheld sl ager then s
    else s.setRegF (fwdI sl) R.FWD_AGENOW 0 16 (s.ageNow sl + 1))

end Sys2Proof.Machine
end

