-- ==== Sys2Proof/Machine/Dtc.lean ====
section
/-! DEFINITION. The deep tier: the description and training of channels, their states, refresh, Heel, error correction,
repair and the power of ranks (R305-R339). -/

namespace Sys2Proof.Machine

/-- Set a bit of a channel's DTC_EVENT. -/
def State.chEvent (s : State) (c k : Nat) : State := s.event (chInst c) k (c % 4 * 1024)

/-- Note a fault source of kind `k` of the channel's instance. -/
def State.chFault (s : State) (c k : Nat) : State := s.noteFault (srcOf k (chSlice c))

/-- R315: the state of a channel; each change is a DTC_EVENT. -/
def State.chState (s : State) (c : Nat) : Nat := s.chF c R.DTC_CSTAT 0 3
def State.setChState (s : State) (c v : Nat) : State := (s.setChF c R.DTC_CSTAT 0 3 v).chEvent c 0

/-- R338: RWS fields are writable in OFF, READY and FAILED. -/
def State.chOpen (s : State) (c : Nat) : Bool := [0, 2, 4].contains (s.chState c)

/-! ### Descriptions (R305-R307) -/

/-- The DIMM words of a channel that are PRESENT. -/
def State.dimms (s : State) (c : Nat) : List Word :=
  [s.chReg c R.DTC_DIMM, s.chReg c (R.DTC_DIMM + 4)].filter fun w => bit w 0

/-- Densities in Gbit. -/
def density : Nat → Nat
  | 0 => 16
  | 1 => 24
  | 2 => 32
  | _ => 64

/-- R307: capacity of a DIMM in GiB. -/
def dimmGib (w : Word) : Nat :=
  density (fld w 6 2) / 8 * (if bit w 8 then 8 else 16) * 2 ^ fld w 2 2 * 2 ^ fld w 4 2

/-- R307: one DIMM's description is refused; PRANKS = 3 is (R338). -/
def dimmBad (w : Word) : Bool :=
  1024 < dimmGib w || (!bit w 1 && fld w 4 2 ≠ 0) || fld w 2 2 = 3

/-- R306, R307, R338: the channel's description is refused. [DEDUCED, log 63] -/
def State.badCfg (s : State) (c : Nat) : Bool :=
  let l := s.dimms c
  let rate := s.chF c R.DTC_CCFG 4 3
  l.any dimmBad || (match l with
    | [a, b] => decide (a ≠ b) || decide (2 < rate)
    | _ => decide (5 < rate))

/-- R307: DTC_SIZE follows the description; a refused one has no capacity. -/
def State.syncSize (s : State) (c : Nat) : State :=
  if s.badCfg c then (s.setChF c R.DTC_SIZE 31 1 1).setChF c R.DTC_SIZE 0 26 0
  else (s.setChF c R.DTC_SIZE 31 1 0).setChF c R.DTC_SIZE 0 26 (((s.dimms c).map dimmGib).sum * 16384)

/-- A write of DTC_DIMMd. -/
def State.writeDimm (s : State) (c d : Nat) (v : Word) : State :=
  if s.chOpen c then (s.plainWrite (chInst c) (chOff c (R.DTC_DIMM + 4 * d)) v).syncSize c else s

/-- R307: DIMM_DESCRIBE. -/
def execDimmDescribe (ch : Reg) (d : Fin 2) (v : Word) (s : State) : Out :=
  s.done (s.access { inst := chInst ch.val, off := chOff ch.val (R.DTC_DIMM + 4 * d.val), value := some v } fun t => t.writeDimm ch.val d.val v)

/-! ### Where a byte lives (R308-R311) -/

/-- A buffer of `n` bytes at a slice address has a block in channel `c`. -/
def State.touches (s : State) (sl : Slice) (a n c : Nat) : Bool :=
  (List.range (cdiv n 256)).any fun k => s.blockChannel sl (a / 256 + k) = some c

/-- R287: bytes of a copy in its buffer. -/
def Copy.deepBytes (c : Copy) : Nat := c.len + 64

/-- R307: the description that the fitted DIMMs of a channel share. -/
def State.dimmWord (s : State) (c : Nat) : Word := s.chReg c (R.DTC_DIMM + if s.dimm0 c then 0 else 4)

/-- R310: the bytes of a row, and the rows of a bank: 4 banks in each of 8 bank groups. -/
def dimmRowBytes (w : Word) : Nat := if bit w 8 then 8192 else 16384
def dimmRows (w : Word) : Nat := dimmGib w * 2 ^ 30 / (2 ^ fld w 2 2 * 2 ^ fld w 4 2 * 32 * dimmRowBytes w)

/-- R310: a channel address in mixed radix: bank, bank group, row, logical rank, physical rank, DIMM. -/
def State.chLoc (s : State) (c addr page : Nat) (dev : BitVec 5) : DeepLoc :=
  let w := s.dimmWord c
  let n := addr / dimmRowBytes w
  let r := n / 32 / dimmRows w
  { dev := dev, page := BitVec.ofNat 27 page
    prank := BitVec.ofNat 3 (s.rankNo c (r / 2 ^ fld w 4 2)), lrank := BitVec.ofNat 3 (r % 2 ^ fld w 4 2)
    bg := BitVec.ofNat 3 (n / 4 % 8), bank := BitVec.ofNat 2 (n % 4), row := BitVec.ofNat 18 (n / 32 % dimmRows w) }

/-- R309, R310: where block `k` of a slice lies in its channel. -/
def State.blockLoc (s : State) (sl : Slice) (c k : Nat) (dev : BitVec 5) : DeepLoc :=
  s.chLoc c (k / (s.members sl).length * 256) (k / 256) dev

/-- R310: the page of a row, from the row's place in its channel. -/
def State.rowPage (s : State) (c : Nat) (row : DeepLoc) : Nat :=
  let w := s.dimmWord c
  let r := s.rankIndex c row.prank.toNat * 2 ^ fld w 4 2 + row.lrank.toNat
  let n := ((r * dimmRows w + row.row.toNat) * 8 + row.bg.toNat) * 4 + row.bank.toNat
  n * dimmRowBytes w * (s.members (chSlice c)).length / 65536

/-! ### Requester ports (R314, R326) -/

/-- R310, R313: the 128-byte bursts of a request of `n` bytes at a slice address that channel `c` moves. -/
def State.chBursts (s : State) (sl : Slice) (a n c : Nat) : Nat :=
  (List.range (cdiv (a + n) 128 - a / 128)).countP fun k => decide (s.blockChannel sl ((a / 128 + k) / 2) = some c)

/-- DTC_REGp of a channel. -/
def State.portReg (s : State) (c p : Nat) : Word := s.chReg c (R.DTC_REG0 + 4 * p)

/-- A port of a channel is throttled. -/
def State.portThrottled (s : State) (c p : Nat) : Bool := (s.chan c).throttled.contains p

/-- R314, R326: what a port's bucket gains in a nanosecond, in 1/160 byte: RATE × 0.1 GB/s, by THROT ÷ 16 while throttled. -/
def State.reqRate (s : State) (c p : Nat) : Nat :=
  fld (s.portReg c p) 0 10 * if s.portThrottled c p then s.chF c R.DTC_HEELCFG 16 4 else 16

/-- R314: BURST, in 1/160 byte. -/
def State.portCap (s : State) (c p : Nat) : Nat := max 1 (fld (s.portReg c p) 10 10) * 256 * 160

/-- What a port's bucket lacks to BURST now. It is full at reset, and keeps what it lacks when BURST is written.
[DESIGN CHOICE, log 123] -/
def State.portShort (s : State) (c p : Nat) : Nat :=
  (s.chan c).short.get p - s.reqRate c p * (s.time - (s.chan c).filledAt.get p)

/-- Bring a port's bucket up to date, before its rate changes or it is debited. -/
def State.settlePort (s : State) (c p : Nat) : State :=
  s.updChan c fun x => { x with short := x.short.set p (s.portShort c p), filledAt := x.filledAt.set p s.time }

/-- R314: the bucket of a port is not negative. -/
def State.eligible (s : State) (c p : Nat) : Bool := s.portShort c p ≤ s.portCap c p

/-- R314, R326: WORKCONS is 1 and the port is not throttled. -/
def State.workCons (s : State) (c p : Nat) : Bool := bit (s.portReg c p) 20 && !s.portThrottled c p

/-- A write of a register that sets a port's rate. -/
def State.writePortRate (s : State) (c off : Nat) (v : Word) : State :=
  (forAll (List.range 4) (fun p t => t.settlePort c p) s).plainWrite (chInst c) (chOff c off) v

/-- Training or a chip reset discards a channel's contents. -/
def State.discardChannel (s : State) (c : Nat) : State := s.forgetDeep fun k => k / 2 ^ 44 = c

/-! ### Training (R316, R317) -/

/-- A START is refused in ONLINE, and while another channel trains once any is ONLINE (R315, R317). -/
def State.trainRefused (s : State) (c : Nat) : Bool :=
  s.chState c = 3 || ((List.range 16).any s.chOnline
    && (List.range 16).any fun d => decide (d ≠ c) && decide (s.chState d = 1))

/-- A write of DTC_TRNCTL. -/
def State.writeTrnctl (s : State) (c : Nat) (v : Word) : State :=
  let s := if s.chOpen c then s.plainWrite (chInst c) (chOff c R.DTC_TRNCTL) v else s
  if !bit v 0 || s.chState c = 1 then s
  else if s.trainRefused c then s.setChF c R.DTC_TRNSTAT 0 3 4
  else if s.badCfg c || s.dimms c = [] then s.setChF c R.DTC_TRNSTAT 0 3 3
  else
    let s := (s.discardChannel c).setChState c 1
    forAll (List.range 8) (fun r t => t.setRankPwr c r (if (s.ranksOf c).contains r then 0 else 3)) s

/-- A host write of a channel's register. -/
def State.hostCh (s : State) (c off : Nat) (v : Word) (f : State → State) : State :=
  s.access { inst := chInst c, off := chOff c off, value := some v } f

/-- R316: TRAINING_START. -/
def execTrainingStart (ch : Reg) (v : Word) (s : State) : Out :=
  s.done (s.hostCh ch.val R.DTC_TRNCTL v fun t => t.writeTrnctl ch.val v)

/-- The eye of a lane is at least `n` steps wide, for reads and writes. -/
def eyeOk (n : Nat) (w : Word) : Bool := n ≤ fld w 16 8 && n ≤ fld w 24 8

/-- R317: a delay lies within 4 steps of the saved one. -/
def near4 (a b : Nat) : Bool := a ≤ b + 4 && b ≤ a + 4
def delayNear (w saved : Word) : Bool := near4 (fld w 0 8) (fld saved 0 8) && near4 (fld w 8 8) (fld saved 8 8)

/-- The lane words of the ranks that are fitted, as (10 × rank + lane, word). -/
def State.fittedLanes (s : State) (c : Nat) (lanes : List Word) : List (Nat × Word) :=
  (lanes.zipIdx.map fun (w, k) => (k, w)).filter fun (k, _) => (s.ranksOf c).contains (k / 10)

/-- Training ends with the delays and eyes of `lanes`, after a full sweep where `fullRun`, MODE = 0, or an eye failed the test
of R317: too far from its saved delay, or narrower than MINEYE. [DEDUCED, log 64] -/
def State.endTraining (s : State) (c ms : Nat) (fullRun : Bool) (lanes : List Word) : State :=
  let l := s.fittedLanes c lanes
  let eye := s.chF c R.DTC_TRNCTL 4 6
  let full := fullRun || s.chF c R.DTC_TRNCTL 1 1 = 0
    || l.any fun (k, w) => !delayNear w (s.chReg c (R.DTC_TSAV + 4 * k)) || !eyeOk eye w
  let s := forAll l (fun (k, w) t => t.setReg (chInst c) (chOff c (R.DTC_TRN + 4 * k)) w) s
  let s := (s.setChF c R.DTC_TRNSTAT 16 16 ms).setChF c R.DTC_TRNSTAT 3 1 (if full then 1 else 0)
  let s := match l.find? fun (_, w) => !eyeOk eye w with
    | none => (s.setChF c R.DTC_TRNSTAT 0 3 1).setChState c 2
    | some (k, _) =>
      let s := (s.setChF c R.DTC_TRNSTAT 8 3 (k / 10)).setChF c R.DTC_TRNSTAT 4 4 (k % 10)
      ((s.setChF c R.DTC_TRNSTAT 0 3 2).setChF c R.DTC_CSTAT 8 4 4).setChState c 4
  (s.restRanks c).chEvent c 1

/-- R316: DDR_TRAINING_COMPLETE. The DTC of a slice that failed self-test is held in reset (R537), here and in the commands below. -/
def execDdrTrainingComplete (ch : Reg) (ms : BitVec 16) (fullRun : Bool) (lanes : List (BitVec 32)) (s : State) : Out :=
  s.done (if s.chState ch.val = 1 && !s.failed (chSlice ch.val) then s.endTraining ch.val ms.toNat fullRun lanes else s)

/-! ### Online, offline, membership (R309, R318, R320, R321) -/

/-- R318: a channel leaves ONLINE: the copies whose spill write has a block in it are dropped under DEEPUNC. -/
def State.leaveOnline (s : State) (c : Nat) : State :=
  let sl := chSlice c
  let s := s.restRanks c
  forAll (s.swc sl).spilling (fun (q, cid) t => match t.findCopy sl q cid with
    | none => t
    | some cp => match cp.deep with
      | none => t
      | some a =>
        if t.touches sl a cp.deepBytes c then
          ((t.updSwc sl fun x => { x with spilling := x.spilling.filter (· ≠ (q, cid)) }).removeCopy sl q cid).dropCopy 10 cp
        else t) s

/-- R321: an ONLINE channel fails under a cause. -/
def State.failChannel (s : State) (c cause : Nat) : State :=
  if s.chOnline c then
    (((s.setChF c R.DTC_CSTAT 8 4 cause).setChState c 4).leaveOnline c).chFault c 15
  else s

/-- Every BPM_BUFUSEn of a slice is 0. -/
def State.buffersFree (s : State) (sl : Slice) : Bool :=
  (List.range 4).all fun p => s.reg (slInst .bpm sl) (R.BPM_BUFUSE + 4 * p) = 0

/-- R309: a change of MEMBER. -/
def State.writeMember (s : State) (c : Nat) (m : Bool) : State :=
  if bit (s.chReg c R.DTC_CCFG) 1 = m then s
  else if !s.regB (slInst .bpm (chSlice c)) R.BPM_CTRL 0 && s.buffersFree (chSlice c) then
    s.setChF c R.DTC_CCFG 1 1 (if m then 1 else 0)
  else s.setChF c R.DTC_CSTAT 6 1 1

/-- R315, R320: a write of EN. -/
def State.writeChEn (s : State) (c : Nat) (en : Bool) : State :=
  let was := bit (s.chReg c R.DTC_CCFG) 0
  let t := s.setChF c R.DTC_CCFG 0 1 (if en then 1 else 0)
  if en && !was && s.chState c = 2 then
    if s.buffersFree (chSlice c) then t.setChState c 3 else s.setChF c R.DTC_CSTAT 7 1 1
  else if !en && s.chState c = 3 then ((t.setChF c R.DTC_CSTAT 8 4 1).setChState c 2).leaveOnline c
  else t

/-- A write of DTC_CCFG. -/
def State.writeCcfg (s : State) (c : Nat) (v : Word) : State :=
  let s := s.writeMember c (bit v 1)
  let s := if s.chOpen c then (s.setChF c R.DTC_CCFG 4 3 (fld v 4 3)).syncSize c else s
  s.writeChEn c (bit v 0)

/-- R320: CHANNEL_ENABLE. -/
def execChannelEnable (ch : Reg) (v : Word) (s : State) : Out := 
  s.done (s.hostCh ch.val R.DTC_CCFG v fun t => t.writeCcfg ch.val v)

/-- R315: CHANNEL_DISABLE. -/
def execChannelDisable (ch : Reg) (v : Word) (s : State) : Out := 
  s.done (s.hostCh ch.val R.DTC_CCFG v fun t => t.writeCcfg ch.val v)

/-- R309: MEMBER_WRITE. -/
def execMemberWrite (ch : Reg) (v : Word) (s : State) : Out := 
  s.done (s.hostCh ch.val R.DTC_CCFG v fun t => t.writeCcfg ch.val v)

/-- R309: a write of BPM_CTRL. -/
def State.writeBpmCtrl (s : State) (sl : Slice) (v : Word) : State :=
  if bit v 0 && (s.members sl).length = 3 then s.setChF (4 * sl.val) R.DTC_CSTAT 6 1 1
  else s.plainWrite (slInst .bpm sl) R.BPM_CTRL v

/-- R309: BPM_ENABLE. -/
def execBpmEnable (inst : Fin 16) (v : Word) (s : State) : Out :=
  s.done (s.accessSlices .bpm inst { inst := ⟨.bpm, inst⟩, off := R.BPM_CTRL, value := some v } fun sl t => t.writeBpmCtrl sl v)

/-- R321: CA_PARITY_ALERT. -/
def execCaParityAlert (ch : Reg) (persists : Bool) (s : State) : Out :=
  s.done (if persists && !s.failed (chSlice ch.val) then s.failChannel ch.val 2 else s)

/-! ### Refresh and activations (R323-R326) -/

/-- R323: MR4_POLL. -/
def execMr4Poll (ch : Reg) (rank : Fin 8) (above85 hot : Bool) (s : State) : Out :=
  let c := ch.val
  let r := rank.val
  s.done (if s.rankPwr c r ≠ 0 || s.failed (chSlice c) then s else
    let cool := (s.chan c).coolReads.get r + 1
    let s := s.updChan c fun x => { x with coolReads := x.coolReads.set r (if above85 then 0 else cool) }
    let s := if above85 then s.setChF c R.DTC_REFSTAT r 1 1
      else if 2 ≤ cool then s.setChF c R.DTC_REFSTAT r 1 0 else s
    let s := s.setChF c R.DTC_REFSTAT (8 + r) 1 (if hot then 1 else 0)
    if hot then (s.chEvent c 4).chFault c 19 else s)

/-- R324: the refresh management threshold of a rank, in activations. [PRESUMED, log 65] -/
def State.raaimt (s : State) (c r : Nat) : Nat := fld (s.chReg c (R.DTC_DIMM + 4 * (r / 4))) 16 8 * 8

/-- A bank of a channel: its rank's number times 256, then logical rank, bank group and bank. -/
def bankKey (prank lrank bg bank : Nat) : Nat := ((prank * 8 + lrank) * 8 + bg) * 4 + bank

/-- A refresh of a rank: the activation counts of its banks fall by the threshold. -/
def execRefreshIssue (ch : Reg) (rank : Fin 8) (s : State) : Out :=
  let n := s.raaimt ch.val rank.val
  s.done (if s.rankPwr ch.val rank.val ≠ 0 || s.failed (chSlice ch.val) then s else
    s.updChan ch.val fun x => { x with
      refreshes := x.refreshes.upd rank.val (· + 1)
      raa := ⟨(x.raa.ents.map fun (k, v) => (k, if k / 256 = rank.val then v - n else v)).filter fun (_, v) => v ≠ 0⟩ })

/-- R324: count an activation of a bank; at the threshold a refresh management command is issued. -/
def ChanSt.activate (x : ChanSt) (bank n : Nat) : ChanSt :=
  let v := x.raa.get bank + 1
  if n ≠ 0 && n ≤ v then { x with raa := x.raa.set bank (v - n), rfms := x.rfms + 1 }
  else { x with raa := x.raa.set bank v }

/-- The position of the lowest count, the first of equal ones. -/
def lowestRow (l : List HeelRow) : Nat :=
  ((l.zipIdx.foldl (fun (m : Nat × Nat) (h, k) => if h.count < m.2 then (k, h.count) else m)
    (0, (l.head?.map (·.count)).getD 0))).1

/-- R325: count an activation of a row in a bank's tracker. -/
def heelCount (l : List HeelRow) (row : Nat) : List HeelRow :=
  if l.any fun h => h.row = row then l.map fun h => if h.row = row then { h with count := h.count + 1 } else h
  else if l.length < 8 then l ++ [⟨row, 1⟩]
  else l.set (lowestRow l) ⟨row, ((l[lowestRow l]?.map (·.count)).getD 0) + 1⟩

/-- R326: the row's count has reached TH. -/
def State.heelTrigger (s : State) (c port bank row : Nat) (w : Word) : State :=
  let s := (s.settlePort c port).updChan c fun x => { x with
    rfms := x.rfms + 1, throttled := port :: x.throttled.filter (· ≠ port)
    heel := x.heel.upd bank fun l => l.map fun h => if h.row = row then { h with count := 0 } else h }
  let s := s.count (chInst c) (chOff c R.DTC_HEELSTAT) 0 16
  let s := (s.setChF c R.DTC_HEELSTAT 16 2 port).setReg (chInst c) (chOff c R.DTC_HEELROW) w
  (s.chEvent c 3).chFault c 18

/-- DTC_ECCROW's layout of a row. -/
def rowWord (prank lrank bg bank row : Nat) : Word :=
  setFld (setFld (setFld (setFld (setFld 0 26 3 prank) 23 3 lrank) 20 3 bg) 18 2 bank) 0 18 row

/-- R325: DRAM_ACTIVATE. [DEDUCED, log 66] -/
def execDramActivate (ch : Reg) (port : Fin 4) (prank lrank : Fin 8) (bg : Fin 8) (bank : Fin 4) (row : BitVec 18)
    (s : State) : Out :=
  let c := ch.val
  let k := bankKey prank.val lrank.val bg.val bank.val
  let t := s.updChan c fun x => { x.activate k (s.raaimt c prank.val) with
    heel := x.heel.set k (heelCount (x.heel.get k) row.toNat) }
  let th := max 1 (s.chF c R.DTC_HEELCFG 0 16)
  let n := (((t.chan c).heel.get k).find? fun h => h.row = row.toNat).map (·.count)
  s.done (if s.failed (chSlice c) then s
    else if th ≤ n.getD 0 then
      t.heelTrigger c port.val k row.toNat (rowWord prank.val lrank.val bg.val bank.val row.toNat)
    else t)

/-- R326: HEEL_HOLD_EXPIRY. -/
def execHeelHoldExpiry (ch : Reg) (port : Fin 4) (s : State) : Out :=
  s.done (if s.failed (chSlice ch.val) then s else
    (s.settlePort ch.val port.val).updChan ch.val fun x => { x with throttled := x.throttled.filter (· ≠ port.val) })

/-- R325: HEEL_WINDOW_CLEAR. -/
def execHeelWindowClear (ch : Reg) (rank : Fin 8) (s : State) : Out :=
  s.done (if s.failed (chSlice ch.val) then s else
    s.updChan ch.val fun x => { x with heel := ⟨x.heel.ents.filter fun (k, _) => k / 256 ≠ rank.val⟩ })

/-- R326, R288: a requester port of the slice is throttled. -/
def State.throttled (s : State) (sl : Slice) (port : Nat) : Bool :=
  (s.members sl).any fun c => (s.chan c).throttled.contains port

/-! ### Service of requests (R333, R336) -/

/-- R483: the slice, slice address and length of a deep-tier memory command. -/
def Cmd.deepSlice (c : Cmd) : Slice := Fin.ofNat 4 (c.pay 0 1)
def Cmd.deepAddr (c : Cmd) : Nat := c.pay 4 4 * 65536 + c.pay 8 4
def Cmd.deepLen (c : Cmd) : Nat := c.pay 12 4

/-- The slice address and bytes of the first of a list of copies that is still queued with a buffer. -/
def State.firstDeep (s : State) (sl : Slice) (l : List (Nat × Nat)) : Option (Nat × Nat) :=
  l.findSome? fun (q, cid) => (s.findCopy sl q cid).bind fun x => x.deep.map fun a => (a, x.deepBytes)

/-- R483: the oldest command of a function is a DEEP_READ or a DEEP_WRITE of the slice that may be taken up. -/
def State.hostDeep (s : State) (sl : Slice) : Option (Nat × Nat) :=
  if s.inBlockReset hif4 then none else
  s.hif.fns.ents.findSome? fun (f, x) => x.accepted.head?.bind fun c =>
    if (c.opcode = 0x060 || c.opcode = 0x061) && decide (c.deepSlice = sl) && decide (c.seq < s.mark f) then
      some (c.deepAddr, c.deepLen) else none

/-- The page that a slice address lies in is allocated, and every channel with a block of the `n` bytes there is ONLINE. -/
def State.hkReaches (s : State) (sl : Slice) (a n : Nat) : Bool :=
  (s.bpm sl).pageOwner.get (a / 65536) ≠ 0 && (s.members sl).all fun c => s.chBursts sl a n c = 0 || s.chOnline c

/-- R314: the request of the housekeeping port that waits: its write, or the read of a task that acts. [DESIGN CHOICE, log 123] -/
def State.hkHead (s : State) (sl : Slice) : Option (Nat × Nat) :=
  match (s.bpm sl).hkWrite with
  | some w => some (w.addr, w.bytes)
  | none => if s.taskActs sl 17 || s.taskActs sl 18 then (s.bpm sl).hkRead.filter fun (a, n) => s.hkReaches sl a n else none

/-- R314: the oldest request that waits on a port, as slice address and bytes: a spill write on 0, a drain read on 1, a host's
command on 3. [DESIGN CHOICE, log 123] -/
def State.portHead (s : State) (sl : Slice) (p : Nat) : Option (Nat × Nat) :=
  match p with
  | 0 => s.firstDeep sl (s.swc sl).spilling
  | 1 => s.firstDeep sl (s.swc sl).draining
  | 2 => s.hkHead sl
  | _ => s.hostDeep sl

/-- The oldest request of a port touches channel `c`. -/
def State.portWaits (s : State) (c p : Nat) : Bool :=
  (s.portHead (chSlice c) p).any fun (a, n) => decide (s.chBursts (chSlice c) a n c ≠ 0)

/-- R314: a channel serves a request of port `p` now: it is eligible, or WORKCONS is 1 and no request of another port that
waits is eligible. -/
def State.channelServes (s : State) (c p : Nat) : Bool :=
  s.eligible c p || (s.workCons c p && (List.range 4).all fun q => q = p || !s.portWaits c q || !s.eligible c q)

/-- Every channel that a request of `n` bytes at a slice address touches may serve its port. -/
def State.portCould (s : State) (sl : Slice) (p a n : Nat) : Bool :=
  (s.members sl).all fun c => s.chBursts sl a n c = 0 || s.channelServes c p

/-- R314: how far off the turn of a port is in a channel, from the port served last. -/
def State.turnOf (s : State) (c p : Nat) : Nat := (p + 3 - (s.chan c).served) % 4

/-- R314: the request that waits on port `q` could be served, and in every channel that it shares with a request of port `p` its
turn comes first. -/
def State.turnBefore (s : State) (sl : Slice) (q p a n : Nat) : Bool :=
  q ≠ p && (s.portHead sl q).any fun (b, m) => s.portCould sl q b m &&
    let both := (s.members sl).filter fun c => decide (s.chBursts sl a n c ≠ 0 ∧ s.chBursts sl b m c ≠ 0)
    both ≠ [] && both.all fun c => decide (s.turnOf c q < s.turnOf c p)

def State.outOfTurn (s : State) (sl : Slice) (p a n : Nat) : Bool := (List.range 4).any fun q => s.turnBefore sl q p a n

/-- R314: a request is served now: its channels may serve its port, and it is its turn. Where the turns of several channels hold
up every request that waits, the order of the commands decides. [DESIGN CHOICE, log 123] -/
def State.deepServes (s : State) (sl : Slice) (p a n : Nat) : Bool :=
  s.portCould sl p a n && (!s.outOfTurn sl p a n || (List.range 4).all fun q =>
    (s.portHead sl q).all fun (b, m) => !s.portCould sl q b m || s.outOfTurn sl q b m)

/-- Serve a request: its ranks wake, its bytes are taken from the port's buckets, the turn passes on, and its bursts are counted
(R314, R333, R416). -/
def State.serveDeep (s : State) (sl : Slice) (p a n : Nat) : State :=
  forAll (s.members sl) (fun c t =>
    let k := t.chBursts sl a n c
    if k = 0 then t else
      let t := (t.settlePort c p).wakeRank c (t.rankNo c (t.pageRank c (a / 65536)))
      (t.updChan c fun x => { x with short := x.short.upd p (· + 128 * 160 * k), served := p }).noteAct sl 10 k) s

/-! ### Errors (R321, R328, R331) -/

/-- Two locations lie in one row. -/
def sameRow (a b : DeepLoc) : Bool :=
  a.prank = b.prank && a.lrank = b.lrank && a.bg = b.bg && a.bank = b.bank && a.row = b.row

/-- R331: make a row a repair candidate, and quarantine its page. -/
def State.candidate (s : State) (c : Nat) (loc : DeepLoc) (unc : Bool) : State :=
  let s := s.updChan c fun x => if x.candidates.any fun (l, _) => sameRow l loc then x else
    { x with candidates := x.candidates ++ [(loc, unc)] }
  s.updBpm (chSlice c) fun b => if b.quarantined.contains loc.page.toNat || b.retired.contains loc.page.toNat then b
    else { b with quarantined := loc.page.toNat :: b.quarantined }

/-- The row a word with DTC_ECCROW's layout names. -/
def rowLoc (w : Word) (dev page : Nat) : DeepLoc :=
  { dev := BitVec.ofNat 5 dev, page := BitVec.ofNat 27 page, prank := BitVec.ofNat 3 (fld w 26 3)
    lrank := BitVec.ofNat 3 (fld w 23 3), bg := BitVec.ofNat 3 (fld w 20 3), bank := BitVec.ofNat 2 (fld w 18 2)
    row := BitVec.ofNat 18 (fld w 0 18) }

/-- R331: count a correctable error of a row in the 16-entry table; its count after. -/
def ceCount (l : List (DeepLoc × Nat)) (loc : DeepLoc) : List (DeepLoc × Nat) × Nat :=
  match l.find? fun (x, _) => sameRow x loc with
  | some (_, n) => (l.map fun (y, m) => if sameRow y loc then (y, m + 1) else (y, m), n + 1)
  | none => (((loc, 1) :: l).take 16, 1)

/-- DTC_ECCPAGE and DTC_ECCROW of a location. -/
def locPage (l : DeepLoc) : Word := setFld (setFld 0 27 5 l.dev.toNat) 0 27 l.page.toNat
def locRow (l : DeepLoc) : Word := rowWord l.prank.toNat l.lrank.toNat l.bg.toNat l.bank.toNat l.row.toNat

/-- R328: a deep-tier read of channel `c` found an error. [DEDUCED, log 67] -/
def State.deepError (s : State) (c : Nat) (ecc : Ecc) (loc : DeepLoc) : State :=
  let note := fun (t : State) (unc : Bool) =>
    (t.setReg (chInst c) (chOff c R.DTC_ECCPAGE) (locPage loc)).setReg (chInst c) (chOff c R.DTC_ECCROW)
      (setBit (locRow loc) 29 unc)
  match ecc with
  | .clean => s
  | .corrected =>
    let s := ((note s false).count (chInst c) (chOff c R.DTC_ECCCNT) 0 16).chFault c 16
    let (l, n) := ceCount (s.chan c).ceRows loc
    let s := s.updChan c fun x => { x with ceRows := l }
    if max 1 (s.chF c R.DTC_ECCCFG 0 8) ≤ n then s.candidate c loc false else s
  | .uncorrectable =>
    let s := ((note s true).count (chInst c) (chOff c R.DTC_ECCCNT) 16 16).chFault c 17
    let s := (s.chEvent c 2).candidate c loc true
    let l := s.time :: (s.chan c).ues.filter fun t => s.time - t < 1000000000
    let s := s.updChan c fun x => { x with ues := l }
    let off := s.chF c R.DTC_ECCCFG 8 8
    if off ≠ 0 && off ≤ l.length then s.failChannel c 3 else s

/-- R328: what a read of block `k` of a slice found. -/
def State.blockError (s : State) (sl : Slice) (k : Nat) (ecc : Ecc) (dev : BitVec 5) : State :=
  match s.blockChannel sl k with
  | none => s
  | some c => s.deepError c ecc (s.blockLoc sl c k dev)

/-! ### The housekeeping port (R314, R329, R335) -/

/-- The allocated buffer at the highest address that has one reference. -/
def State.topSingle (s : State) (sl : Slice) : Option Nat :=
  ((s.bpm sl).refs.ents.reverse.find? fun (_, n) => n = 1).map (·.1)

/-- R335: a move has its copy still, whose drain read has not begun; any write has its page and its channels. -/
def State.writeStands (s : State) (sl : Slice) (w : HkWrite) : Bool :=
  s.hkReaches sl w.addr w.bytes && w.move.all fun (a, q, cid) =>
    (s.findCopy sl q cid).any (fun c => c.deep = some a) && !(s.swc sl).draining.contains (q, cid)

/-- R335: the write has been served: of a move, the queue's reference is replaced and the old buffer freed. -/
def State.endWrite (s : State) (sl : Slice) (w : HkWrite) : State :=
  match w.move with
  | none => s
  | some (a, q, cid) => (s.updCopy sl q cid fun c => { c with deep := some w.addr }).bpmFree sl a

/-- The waiting write is served or abandoned now, or goes on waiting. -/
def State.flushHk (s : State) (sl : Slice) : State :=
  match (s.bpm sl).hkWrite with
  | none => s
  | some w =>
    let t := s.updBpm sl fun b => { b with hkWrite := none }
    if !s.writeStands sl w then t.dropWrite sl w
    else if s.deepServes sl 2 w.addr w.bytes then (t.serveDeep sl 2 w.addr w.bytes).endWrite sl w
    else s

/-- The waiting write of a slice as time passes; in a slice that sleeps, it wakes it (R336). -/
def State.hkTick (s : State) (sl : Slice) : State :=
  if (s.bpm sl).hkWrite.isNone then s else if s.awake sl then s.flushHk sl else s.requestWake sl

/-- The read that waits on the port, if any. -/
def State.setHkRead (s : State) (sl : Slice) (r : Option (Nat × Nat)) : State := s.updBpm sl fun b => { b with hkRead := r }

/-- R314: the port serves a read now, which waits on it as any request does: no write of it waits, and the channels serve it. -/
def State.readServes (s : State) (sl : Slice) (a n : Nat) : Bool :=
  (s.bpm sl).hkWrite.isNone && (s.setHkRead sl (some (a, n))).deepServes sl 2 a n

/-- R329: the scrub of a slice's block. It skips a page that is not allocated, a channel whose scrub is off or that is not
ONLINE, and a rank in MPSM; what it corrects it writes back, which is a request of its own. A read that is not served waits. -/
def State.scrubBlock (s : State) (sl : Slice) (c k : Nat) (ecc : Ecc) (dev : BitVec 5) : State :=
  if s.chF c R.DTC_ECCCFG 16 1 = 1 && s.chOnline c && (s.bpm sl).pageOwner.get (k / 256) ≠ 0
      && s.rankPwr c (s.rankNo c (s.pageRank c (k / 256))) ≤ 1 then
    if !s.readServes sl (k * 256) 256 then s.setHkRead sl (some (k * 256, 256)) else
    let t := (s.serveDeep sl 2 (k * 256) 256).blockError sl k ecc dev
    if ecc = .corrected then (t.updBpm sl fun b => { b with hkWrite := some { addr := k * 256, bytes := 256 } }).flushHk sl else t
  else s

/-- R398: a fixed task ends with the `last` command of its run, once the read of that command has been served. -/
def State.hkEnd (s : State) (sl : Slice) (task : Nat) (last : Bool) : State :=
  if last && (s.bpm sl).hkRead.isNone then s.endTask sl task else s

/-- R329, R398: scrub reads block `block` of a channel while its task may act. -/
def execDeepScrubBlock (ch : Reg) (ecc : Ecc) (block : BitVec 33) (dev : BitVec 5) (last : Bool) (s : State) : Out :=
  let c := ch.val
  let sl := chSlice c
  let m := s.members sl
  s.done (if !s.taskActs sl 17 || s.inBlockReset (slInst .dtc sl) then s else
    let t := (s.flushHk sl).setHkRead sl none
    (if m.contains c then t.scrubBlock sl c (block.toNat * m.length + m.idxOf c) ecc dev else t).hkEnd sl 17 last)

/-! ### Repair (R330-R332) -/

/-- A write of DTC_RPRCTL. In ONLINE the request is refused, and its row becomes a candidate for the DTC (R331). -/
def State.writeRprctl (s : State) (c : Nat) (v : Word) : State :=
  let s := if s.chOpen c then s.plainWrite (chInst c) (chOff c R.DTC_RPRCTL) v else s
  if !bit v 5 || (s.chan c).repairing then s
  else if s.chState c = 2 then
    (s.updChan c fun x => { x with repairing := true }).setChF c R.DTC_RPRSTAT 0 4 4
  else
    let s := s.setChF c R.DTC_RPRSTAT 0 4 3
    if s.chOnline c then
      let w := s.chReg c R.DTC_RPRROW
      let dev := s.chF c R.DTC_RPRCTL 0 5
      s.candidate c (rowLoc w dev (s.rowPage c (rowLoc w dev 0))) false
    else s

/-- R330: HPPR_REQUEST. -/
def execHpprRequest (ch : Reg) (v : Word) (s : State) : Out := 
  s.done (s.hostCh ch.val R.DTC_RPRCTL v fun t => t.writeRprctl ch.val v)

/-- R330: HPPR_COMPLETE. -/
def execHpprComplete (ch : Reg) (spare : Bool) (s : State) : Out :=
  let c := ch.val
  s.done (if !(s.chan c).repairing || s.failed (chSlice c) then s else
    let s := (s.updChan c fun x => { x with repairing := false }).setChF c R.DTC_RPRSTAT 0 4 (if spare then 1 else 2)
    if spare then s.count (chInst c) (chOff c R.DTC_RPRSTAT) 8 8 else s)

/-- R332: enter a repair or a retirement in the log. -/
def State.repairLog (s : State) (c : Nat) (loc : DeepLoc) (unc retired : Bool) : State :=
  let k := s.chF c R.DTC_RPRSTAT 24 8
  let w := setBit (setBit (setBit (locRow loc) 29 unc) 30 retired) 31 true
  let s := s.setReg (chInst c) (chOff c (R.DTC_RPRLOG + 8 * (k % 8))) w
  let s := s.setReg (chInst c) (chOff c (R.DTC_RPRLOG + 8 * (k % 8) + 4)) (locPage loc)
  (s.setChF c R.DTC_RPRSTAT 24 8 (k + 1)).chEvent c 5

/-- A page of the slice is some channel's candidate. -/
def State.pageWaits (s : State) (sl : Slice) (page : Nat) : Bool :=
  (List.range 4).any fun j => (s.chan (4 * sl.val + j)).candidates.any fun (l, _) => l.page.toNat = page

/-- R297: retire an empty page. -/
def State.retirePage (s : State) (sl : Slice) (page : Nat) : State :=
  let s := s.updBpm sl fun b => { b with
    retired := if b.retired.contains page then b.retired else page :: b.retired
    quarantined := b.quarantined.filter (· ≠ page) }
  (s.setRegF (slInst .bpm sl) R.BPM_RETIRED 0 28 (s.bpm sl).retired.length).event (slInst .bpm sl) 2

/-- The clocks of a slice's channels run: not in Nap or Deep (R336, R394), nor in reset (R322, R537). -/
def State.dfiRuns (s : State) (sl : Slice) : Bool :=
  decide (s.sleep sl < 2) && !s.failed sl && !s.inBlockReset (slInst .dtc sl)

/-- R331: the oldest candidate whose page holds no buffer is repaired, or its page retired. In Nap or Deep the repair wakes the slice
first (R336). -/
def execSpprApply (ch : Reg) (spare : Bool) (s : State) : Out :=
  let c := ch.val
  let sl := chSlice c
  s.done (match (s.chan c).candidates.find? fun (l, _) => (s.bpm sl).pageOwner.get l.page.toNat = 0 with
    | none => s
    | some (loc, unc) =>
      if !s.dfiRuns sl then (if 2 ≤ s.sleep sl then s.requestWake sl else s) else
      let s := s.updChan c fun x => { x with candidates := x.candidates.filter fun (l, _) => !sameRow l loc }
      let s := s.repairLog c loc unc (!spare)
      if !spare then s.retirePage sl loc.page.toNat
      else
        let s := s.count (chInst c) (chOff c R.DTC_RPRSTAT) 16 8
        if s.pageWaits sl loc.page.toNat then s else
          s.updBpm sl fun b => { b with quarantined := b.quarantined.filter (· ≠ loc.page.toNat) })

/-! ### Rank power (R333, R334) -/

/-- R333: RANK_SELF_REFRESH_ENTRY. -/
def execRankSelfRefreshEntry (ch : Reg) (rank : Fin 8) (s : State) : Out :=
  s.done (if s.dfiRuns (chSlice ch.val) && s.rankPwr ch.val rank.val = 0 && s.chState ch.val ≠ 1 && s.chF ch.val R.DTC_PWRCFG 0 10 ≠ 0 then
    s.setRankPwr ch.val rank.val 1 else s)

/-- R334: the rank below `j` is the highest in use of member `c` and holds allocations in its last 25 % of pages. -/
def State.preWakeHolds (s : State) (c j : Nat) : Bool :=
  let rp := s.rankPages c
  let b := s.bpm (chSlice c)
  1 ≤ j && s.pageRank c b.topPage = j - 1 && decide (3 * rp ≤ 4 * (b.topPage - (j - 1) * rp)) && b.pageOwner.ents ≠ []

/-- R333: RANK_MPSM_ENTRY. A rank in MPSM holds no data. -/
def execRankMpsmEntry (ch : Reg) (rank : Fin 8) (s : State) : Out :=
  let c := ch.val
  let r := rank.val
  s.done (if !s.inBlockReset (chInst c) && !s.failed (chSlice c) && s.rankPwr c r ≤ 1 && 2 ≤ s.chState c && s.chF c R.DTC_PWRCFG 10 1 = 1 && s.rankEmpty c r
      && !((s.chan c).prewoken.contains r && s.preWakeHolds c (s.rankIndex c r)) then
    ((s.forgetDeep fun k => k / 2 ^ 44 = c && s.keyRank k = s.rankIndex c r).setRankPwr c r 2).updChan c fun x =>
      { x with prewoken := x.prewoken.filter (· ≠ r) }
  else s)

/-- R333: RANK_WAKE. -/
def execRankWake (ch : Reg) (rank : Fin 8) (s : State) : Out :=
  s.done (if s.chOnline ch.val && s.dfiRuns (chSlice ch.val) then s.wakeRank ch.val rank.val else s)

/-! ### Compaction (R335) -/

/-- The queued copy in a buffer. -/
def State.copyAt (s : State) (sl : Slice) (a : Nat) : Option (Nat × Copy) :=
  (s.tmg sl).queues.ents.findSome? fun (q, l) => (l.find? fun c => c.deep = some a).map fun c => (q, c)

/-- The move of a buffer of `n` bytes to a lower one of its pool: the lower one is allocated, and its write waits. -/
def State.startMove (s : State) (sl : Slice) (pool a b n q cid : Nat) : State :=
  let s := s.updBpm sl fun x => { x with refs := x.refs.set b 1, hkWrite := some ⟨b, n, some (a, q, cid)⟩ }
  s.setRegF (slInst .bpm sl) (R.BPM_BUFUSE + 4 * pool) 0 32
    (s.regF (slInst .bpm sl) (R.BPM_BUFUSE + 4 * pool) 0 32 + 1)

/-- R335: COMPACT of the slice's lowest-numbered member. -/
def State.mayCompact (s : State) (sl : Slice) : Bool := (s.members sl).head?.any fun c => s.chF c R.DTC_PWRCFG 11 1 = 1

/-- A buffer lies in a lower physical rank than another, in some member. -/
def State.lowerRank (s : State) (sl : Slice) (b a : Nat) : Bool :=
  (s.members sl).any fun c => s.pageRank c (b / 65536) < s.pageRank c (a / 65536)

/-- R335: compaction moves the highest single-reference buffer, unless a drain read of it begins meanwhile or it cannot be
read. `block`: which of its blocks the error, if any, lies in. -/
def State.compact (s : State) (sl : Slice) (ecc : Ecc) (block : Nat) (dev : BitVec 5) (drained : Bool) : State :=
  match s.topSingle sl with
  | none => s
  | some a =>
    let pool := (s.bpm sl).pageOwner.get (a / 65536) - 1
    match (s.bpm sl).freeBuffer pool, s.copyAt sl a with
    | some b, some (q, c) =>
      let n := c.deepBytes
      if !s.lowerRank sl b a || (s.swc sl).spilling.contains (q, c.cid) || (s.swc sl).draining.contains (q, c.cid) then s else
      if !s.readServes sl a n then s.setHkRead sl (some (a, n)) else
      let s := (s.serveDeep sl 2 a n).blockError sl (a / 256 + block % cdiv n 256) ecc dev
      if drained || ecc = .uncorrectable then s else (s.startMove sl pool a b n q c.cid).flushHk sl
    | _, _ => s

/-- R335, R398: COMPACTION_MOVE, while the task may act. -/
def execCompactionMove (sl : Slice) (ecc : Ecc) (block : Fin 256) (dev : BitVec 5) (drained last : Bool) (s : State) : Out :=
  s.done (if !s.taskActs sl 18 || s.inBlockReset (slInst .dtc sl) then s else
    let t := (s.flushHk sl).setHkRead sl none
    (if t.mayCompact sl && t.bpmServes sl then t.compact sl ecc block.val dev drained else t).hkEnd sl 18 last)

end Sys2Proof.Machine
end

