-- ==== Sys2Proof/Machine/Operands.lean ====
section
/-! DEFINITION. Microwords, nanowords and their operands: the formats F0-F4, the fields of a nanoword, its legality, and
the extractor (R89, R90, R93-R95, R98, R142, R152-R156). -/

namespace Sys2Proof.Machine

/-- The fields of a nanoword (R94), with the defaults of R146. -/
structure Nano where
  opf : Nat := 0
  priv : Bool := false
  ctxok : Nat := 3
  tailok : Bool := false
  dslotok : Bool := true
  aluop : Nat := 0
  asel : Nat := 0
  bsel : Nat := 0
  immsh : Nat := 0
  klane : Nat := 0
  flagmask : Nat := 0
  dstsel : Nat := 0
  width : Nat := 0
  xoff : Nat := 0
  xoffsrc : Nat := 0
  xbit : Nat := 0
  xwid : Nat := 0
  xsh : Nat := 0
  xsign : Bool := false
  xdir : Bool := false
  xsrc : Nat := 0
  xmasken : Bool := false
  cmpop : Nat := 0
  cmpdst : Nat := 0
  cmpbit : Nat := 0
  rcsel : Nat := 0
  lken : Bool := false
  lktable : Nat := 0
  lkkey : Nat := 0
  lktag : Nat := 0
  lktagmw : Bool := false
  lkwidth : Nat := 0
  lkres : Nat := 0
  lkmask : Nat := 0
  lkpref : Nat := 0
  brcond : Nat := 0
  loopctl : Nat := 0
  loopcntsrc : Bool := false
  waitmw : Bool := false
  waitmask : Nat := 0
  modeen : Bool := false
  modetidreg : Bool := false
  commit : Bool := false
  fin : Bool := false
  safe : Bool := false
  yield : Bool := false
  drop : Bool := false
  const : Word := 0
  rdoff : Nat := 0
  rdsize : Nat := 0
  rdwe : Bool := false
  rdoffmw : Bool := false
  mdfield : Nat := 0
  mdwe : Bool := false
  /-- a reserved bit is 1 (R98) -/
  reserved : Bool := false
  deriving DecidableEq, Repr, Inhabited

/-- Read a nanoword from its eight words, NW[31:0] first. -/
def nanoOf (l : List Word) : Nano :=
  let w := fun (k : Nat) => (l[k]?.getD 0)
  let f := fun (bitNo width : Nat) => fld (w (bitNo / 32)) (bitNo % 32) width
  let b := fun (bitNo : Nat) => bit (w (bitNo / 32)) (bitNo % 32)
  { opf := f 0 3, priv := b 6, ctxok := f 7 2, tailok := b 9, dslotok := b 10, aluop := f 12 4, asel := f 16 2,
    bsel := f 18 2, immsh := f 20 2, klane := f 22 2, flagmask := f 24 4, dstsel := f 28 2, width := f 30 2,
    xoff := f 32 8, xoffsrc := f 40 2, xbit := f 42 3, xwid := f 45 5, xsh := f 50 5, xsign := b 55, xdir := b 56,
    xsrc := f 57 2, xmasken := b 59, cmpop := f 64 4, cmpdst := f 68 2, cmpbit := f 70 7, rcsel := f 77 6,
    lken := b 96, lktable := f 97 5, lkkey := f 102 2, lktag := f 104 2, lktagmw := b 106, lkwidth := f 107 3,
    lkres := f 110 2, lkmask := f 112 4, lkpref := f 120 8, brcond := f 128 4, loopctl := f 132 2, loopcntsrc := b 134,
    waitmw := b 135, waitmask := f 136 4, modeen := b 140, modetidreg := b 141, commit := b 142, fin := b 143,
    safe := b 144, yield := b 145, drop := b 146, const := w 5, rdoff := f 192 6, rdsize := f 198 2, rdwe := b 200,
    rdoffmw := b 201, mdfield := f 202 4, mdwe := b 206
    reserved := b 11 || f 60 4 ≠ 0 || f 83 13 ≠ 0 || f 116 4 ≠ 0 || f 147 13 ≠ 0 || f 207 17 ≠ 0 || w 7 ≠ 0 }

/-- R98: the nanoword passes its legality checks in a packet (`hk` false) or a housekeeping context. -/
def Nano.legal (n : Nano) (hk : Bool) : Bool :=
  !n.reserved && !(n.priv && !hk) && (n.ctxok / (if hk then 2 else 1) % 2 = 1)
    && decide (n.opf ≤ 4) && decide (n.width ≤ 2) && decide (n.xsrc ≤ 2) && decide (n.cmpop ≤ 13)
    && decide (n.cmpdst ≤ 2) && decide (n.brcond ≤ 14) && decide (n.lktable ≤ 26) && decide (n.lkwidth ≤ 5)
    && decide (n.lkres ≤ 2) && decide (n.loopctl ≤ 1) && decide (n.mdfield ≤ 6)
    && !(n.lkwidth = 4 && n.lkkey % 2 = 1) && !(n.lkwidth = 5 && n.lkkey ≠ 0)
    && !(n.lken && !n.priv && n.lktable = 7 && n.lkwidth ≠ 1 && n.lkwidth ≠ 2)
    && !(n.xdir && (n.asel = 2 || n.bsel = 3)) && !(n.xdir && n.xsrc ≠ 0)

/-! ### Microwords (R93) -/

/-- A microword of nanoword `idx` in formats F0-F4. -/
def mwF0 (idx d a b imm : Nat) : Word := BitVec.ofNat 32 (idx * 2 ^ 20 + d * 2 ^ 16 + a * 2 ^ 12 + b * 2 ^ 8 + imm)
def mwF1 (idx d a imm : Nat) : Word := BitVec.ofNat 32 (idx * 2 ^ 20 + d * 2 ^ 16 + a * 2 ^ 12 + imm)
def mwF2 (idx d off aux : Nat) : Word := BitVec.ofNat 32 (idx * 2 ^ 20 + d * 2 ^ 16 + off * 2 ^ 8 + aux)
def mwF3 (idx aux tgt : Nat) : Word := BitVec.ofNat 32 (idx * 2 ^ 20 + aux * 2 ^ 14 + tgt)
def mwF4 (idx d imm : Nat) : Word := BitVec.ofNat 32 (idx * 2 ^ 20 + d * 2 ^ 16 + imm)

/-- The operand fields of a microword; one that the format does not hold reads 0. -/
def mwD (opf : Nat) (w : Word) : Nat := if opf = 3 then 0 else fld w 16 4
def mwA (opf : Nat) (w : Word) : Nat := if opf ≤ 1 then fld w 12 4 else 0
def mwB (opf : Nat) (w : Word) : Nat := if opf = 0 then fld w 8 4 else 0
def mwOff (opf : Nat) (w : Word) : Nat := if opf = 2 then fld w 8 8 else 0
def mwAux (opf : Nat) (w : Word) : Nat := if opf = 3 then fld w 14 6 else 0
def mwTgt (opf : Nat) (w : Word) : Nat := if opf = 3 then fld w 0 14 else 0
def mwImm12 (opf : Nat) (w : Word) : Nat := if opf = 1 then fld w 0 12 else 0

/-- R142: the width of the immediate operand. -/
def immWidth (opf : Nat) : Nat :=
  match opf with
  | 0 | 2 => 8
  | 1 => 12
  | 3 => 14
  | _ => 16

/-- R142: the immediate operand, sign-extended or not, and shifted by IMMSH. -/
def immOf (n : Nano) (w : Word) (signed : Bool) : Word :=
  let v := fld w 0 (immWidth n.opf)
  (if signed then BitVec.ofInt 32 (sext v (immWidth n.opf)) else BitVec.ofNat 32 v) <<< (8 * n.immsh)

/-- A `w` register; numbers go modulo 16 (R161). -/
def Ctx.reg (c : Ctx) (k : Nat) : Word := c.w[k % 16]!

/-- Write a `w` register. -/
def Ctx.setReg (c : Ctx) (k : Nat) (v : Word) : Ctx := { c with w := c.w.set! (k % 16) v }

/-- A key register, and a lane of it, lane 0 least significant. -/
def Ctx.key (c : Ctx) (k : Nat) : BitVec 128 := c.k[k % 4]!
def Ctx.lane (c : Ctx) (k l : Nat) : Word := (c.key k).extractLsb' (32 * l) 32

/-- Write `width` bits of a key register from bit `lo` on. -/
def Ctx.setKeyBits (c : Ctx) (k lo width v : Nat) : Ctx :=
  let old := (c.key k).toNat
  let new := old - old / 2 ^ lo % 2 ^ width * 2 ^ lo + v % 2 ^ width * 2 ^ lo
  { c with k := c.k.set! (k % 4) (BitVec.ofNat 128 new) }

/-! ### The extractor (R89, R94, R155) -/

/-- The byte offset of the extractor's range in its source, before hp. -/
def xOffset (n : Nano) (w : Word) (c : Ctx) : Nat :=
  match n.xoffsrc with
  | 1 => mwOff n.opf w
  | 2 => n.xoff
  | _ => fld (c.reg (mwA n.opf w)) 0 8

/-- First byte of the range, and the number of bytes. -/
def xRange (n : Nano) (w : Word) (c : Ctx) : Nat × Nat :=
  (xOffset n w c + (if n.xsrc = 0 then c.hp.toNat else 0), cdiv (n.xbit + n.xwid + 1) 8)

/-- Bytes of a source: the header window 256, MD 64, a key register 16. -/
def xSize (n : Nano) : Nat := match n.xsrc with
  | 0 => 256
  | 1 => 64
  | _ => 16

/-- R89, R155: the range passes the end of its source. -/
def xOverrun (n : Nano) (w : Word) (c : Ctx) : Bool :=
  n.xoffsrc ≠ 0 && xSize n < (xRange n w c).1 + (xRange n w c).2

/-- A byte of the current view, of MD, or of key register LKKEY (byte 0 most significant). -/
def xByte (n : Nano) (c : Ctx) (k : Nat) : Byte :=
  match n.xsrc with
  | 0 => if c.view then c.scratch.get k else c.frameView.get k
  | 1 => c.md.get k
  | _ => (c.key n.lkkey).extractLsb' (8 * (15 - k)) 8

/-- R155: the bytes read include one of the header window with a parity error. -/
def xParity (n : Nano) (w : Word) (c : Ctx) : Bool :=
  let (o, m) := xRange n w c
  n.xoffsrc ≠ 0 && !n.xdir && n.xsrc = 0 &&
    (List.range m).any fun k => c.hwBad.get ((if c.view then 256 else 0) + o + k)

/-- The field the extractor delivers: taken most significant bit first, sign-extended, shifted by XSH and then, with XMASKEN,
masked: R94 does not say whether the mask comes before the shift or after it. An idle extractor delivers a value that is left
open. [DESIGN CHOICE, log 139] -/
def extracted (n : Nano) (w : Word) (c : Ctx) : Word :=
  if n.xoffsrc = 0 then Config.idleField w else
  let (o, m) := xRange n w c
  let v := ofBe ((List.range m).map fun k => xByte n c (o + k)) / 2 ^ (8 * m - n.xbit - (n.xwid + 1)) % 2 ^ (n.xwid + 1)
  let v := if n.xsign then BitVec.ofInt 32 (sext v (n.xwid + 1)) else BitVec.ofNat 32 v
  let v := v <<< n.xsh
  if n.xmasken then v &&& n.const else v

/-- R90, R156: deposit the low bits of a value into the view selected by VIEW. A damaged byte that a deposit writes, in whole or
in part, is stored with good parity, and its old bits are taken as they stand. [DESIGN CHOICE, log 132] -/
def deposit (n : Nano) (w : Word) (c : Ctx) (v : Word) : Ctx :=
  let (o, m) := xRange n w c
  let sh := 8 * m - n.xbit - (n.xwid + 1)
  let old := ofBe ((List.range m).map fun k => xByte n c (o + k))
  let new := old - old / 2 ^ sh % 2 ^ (n.xwid + 1) * 2 ^ sh + v.toNat % 2 ^ (n.xwid + 1) * 2 ^ sh
  let bytes := (beBytes m new).zipIdx
  let put := fun (t : Tbl Byte) => bytes.foldl (fun t (b, k) => t.set (o + k) b) t
  let bad := bytes.foldl (fun t (_, k) => t.set ((if c.view then 256 else 0) + o + k) false) c.hwBad
  if c.view then { c with scratch := put c.scratch, hwBad := bad }
  else { c with frameView := put c.frameView, hwBad := bad }

end Sys2Proof.Machine
end

