-- ==== Sys2Proof/Machine/Flags.lean ====
section
/-! DEFINITION. The arithmetic and logic unit, the flags and the compares (R95-R97, R185). -/

namespace Sys2Proof.Machine

/-- WIDTH: 32, 16 or 8 bits. -/
def aluBits (width : Nat) : Nat := match width with
  | 0 => 32
  | 1 => 16
  | _ => 8

/-- What the ALU delivers: the result at its width, zero-extended; carry or borrow; signed overflow. -/
structure AluOut where
  res : Nat
  c : Bool := false
  v : Bool := false
  deriving DecidableEq, Repr

/-- A signed result does not fit in `wd` bits. -/
def overflows (wd : Nat) (r : Int) : Bool := r < -(2 ^ (wd - 1) : Nat) || ((2 ^ (wd - 1) : Nat) : Int) ≤ r

/-- The shift amount of ALUOP 7-10. -/
def shAmt (b : Nat) : Nat := b % 32

/-- R95, R96: ALU operation `op` on operands of `wd` bits. -/
def alu (op wd a b : Nat) (cin : Bool) : AluOut :=
  let ci := if cin then 1 else 0
  let m := 2 ^ wd
  let n := shAmt b
  match op with
  | 0 => ⟨a, false, false⟩
  | 1 => ⟨(a + b) % m, m ≤ a + b, overflows wd (sext a wd + sext b wd)⟩
  | 2 => ⟨(a + m - b) % m, a < b, overflows wd (sext a wd - sext b wd)⟩
  | 3 => ⟨a &&& b, false, false⟩
  | 4 => ⟨a ||| b, false, false⟩
  | 5 => ⟨a ^^^ b, false, false⟩
  | 6 => ⟨a &&& (m - 1 - b), false, false⟩
  | 7 => ⟨a * 2 ^ n % m, n ≠ 0 && n ≤ wd && (a / 2 ^ (wd - n) % 2 = 1), false⟩
  | 8 => ⟨a / 2 ^ n, n ≠ 0 && (a / 2 ^ (n - 1) % 2 = 1), false⟩
  | 9 => ⟨(sext a wd / (2 ^ n : Nat) % (m : Nat)).toNat, n ≠ 0 && (sext a wd / (2 ^ (n - 1) : Nat) % 2 = 1), false⟩
  | 10 => ⟨(a * 2 ^ (n % wd) + a / 2 ^ (wd - n % wd)) % m, false, false⟩
  | 11 => ⟨min a b, false, false⟩
  | 12 => ⟨max a b, false, false⟩
  | 13 => ⟨(a + b + ci) % m, m ≤ a + b + ci, overflows wd (sext a wd + sext b wd + (ci : Nat))⟩
  | 14 => ⟨(a + m + m - b - ci) % m, a < b + ci, overflows wd (sext a wd - sext b wd - (ci : Nat))⟩
  | _ => ⟨b, false, false⟩

/-- R185: a value lies within a range pair. -/
def inPair (lo hi : Word) (v : Nat) : Bool := lo.toNat ≤ v && v ≤ hi.toNat

/-- R95, R96: compare operation `op` on operands of `wd` bits; `lo`, `hi` is the range pair. -/
def compare (op wd a b : Nat) (lo hi : Word) : Bool :=
  match op with
  | 1 => a = b
  | 2 => a ≠ b
  | 3 => a < b
  | 4 => a ≤ b
  | 5 => b < a
  | 6 => b ≤ a
  | 7 => sext a wd < sext b wd
  | 8 => sext a wd ≤ sext b wd
  | 9 => sext b wd < sext a wd
  | 10 => sext b wd ≤ sext a wd
  | 11 => (a &&& b) ≠ 0
  | 12 => (a &&& b) = b
  | _ => inPair lo hi a

/-- R96: the flags that FLAGMASK enables, from an ALU result at its width. -/
def setFlags (c : Ctx) (mask wd : Nat) (cmpZ : Bool) (o : AluOut) : Ctx :=
  { c with
    z := if mask % 2 = 1 && !cmpZ then o.res = 0 else c.z
    c := if mask / 2 % 2 = 1 then o.c else c.c
    n := if mask / 4 % 2 = 1 then o.res / 2 ^ (wd - 1) % 2 = 1 else c.n
    v := if mask / 8 % 2 = 1 then o.v else c.v }

/-- R95: a branch condition, on the flags as they stand (R143). -/
def branchTaken (cond : Nat) (c : Ctx) : Bool :=
  match cond with
  | 1 | 14 => true
  | 2 => c.z
  | 3 => !c.z
  | 4 => c.c
  | 5 => !c.c
  | 6 => c.n
  | 7 => !c.n
  | 8 => c.v
  | 9 => !c.v
  | 10 => c.n != c.v
  | 11 => c.n == c.v
  | 12 => !c.c && !c.z
  | 13 => c.c || c.z
  | _ => false

end Sys2Proof.Machine
end

