-- ==== Sys2Proof/Machine/Tmg.lean ====
section
/-! DEFINITION. The traffic manager: hierarchy, gates, energy gate, dequeue, counters and queue observation (R340-R378). -/

namespace Sys2Proof.Machine

abbrev tmgI (sl : Slice) : InstId := slInst .tmg sl

/-! ### Parity (R375) -/

/-- An error found on a read of a TMG window. -/
def State.tmgPar (s : State) (sl : Slice) : State :=
  ((s.count (tmgI sl) R.TMG_PARCNT).event (tmgI sl) 0).noteFault (srcOf 20 sl)

/-- Report the error of a damaged entry that is read. -/
def State.tmgRead (s : State) (sl : Slice) (w e : Nat) : State := if s.badEntry (tmgI sl) w e then s.tmgPar sl else s

/-! ### The hierarchy (R340-R345) -/

/-- The service node of a subscriber node. -/
def State.service (s : State) (sl : Slice) (n : Nat) : Nat := fld (s.nodeW sl n 0) 0 12

/-- A node, or its service node, is damaged and acts as VALID = 0. -/
def State.nodeBad (s : State) (sl : Slice) (n : Nat) : Bool :=
  s.badEntry (tmgI sl) 0 n || s.badEntry (tmgI sl) 1 (s.service sl n)

/-- R343: the local port of a subscriber node. -/
def State.nodePort (s : State) (sl : Slice) (n : Nat) : Option Nat :=
  if bit (s.nodeW sl n 0) 31 && bit (s.svcW sl (s.service sl n) 0) 31 && !s.nodeBad sl n then
    some (fld (s.svcW sl (s.service sl n) 0) 0 6)
  else none

/-- R345: the energy class of traffic class `tc` of a node on port `p`. -/
def State.energyClass (s : State) (sl : Slice) (n tc p : Nat) : Nat :=
  if bit (s.laneReg p R.PRT_PCFG) 11 then 0
  else s.regF (tmgI sl) (R.TMG_ECMAP + 4 * fld (s.nodeW sl n 0) 16 3) (2 * (tc % 8)) 2

/-- The queues of a slice that hold copies. -/
def State.queued (s : State) (sl : Slice) : List (Nat × List Copy) := (s.tmg sl).queues.ents

/-- R344: a node's queues are empty; no copy is queued under a service node. -/
def State.nodeEmpty (s : State) (sl : Slice) (n : Nat) : Bool := (s.queued sl).all fun (q, _) => q / 8 ≠ n
def State.svcEmpty (s : State) (sl : Slice) (v : Nat) : Bool := (s.queued sl).all fun (q, _) => s.service sl (q / 8) ≠ v

/-! ### Node, meter and partition writes (R341-R344, R353) -/

/-- The stored fields of the words of a window entry. -/
def maskEntry (i : InstId) (w e : Nat) (l : List Word) : List Word := l.zipIdx.map fun (v, k) => v &&& winMaskAt i w e k

/-- Fill the buckets whose fields a store of a node's words changed. -/
def changed (old new : List Word) (k : Nat) : Bool := decide (old[k]? ≠ new[k]?)

/-- The low 24 bits of a word: the burst field beside MON (R341). -/
def burstChanged (old new : List Word) (k : Nat) : Bool := decide (fld (old[k]?.getD 0) 0 24 ≠ fld (new[k]?.getD 0) 0 24)

/-- A store to a subscriber node. -/
def State.writeNode (s : State) (sl : Slice) (n : Nat) (l : List Word) : State :=
  let old := s.entry (tmgI sl) 0 n
  let new := maskEntry (tmgI sl) 0 n l
  if fld (new[0]?.getD 0) 0 12 ≠ s.service sl n ∧ (bit (s.nodeW sl n 0) 31 ∨ s.nodeEmpty sl n = false) then
    s.event (tmgI sl) 1
  else
    ((s.refillNode sl n).setEntry (tmgI sl) 0 n 0 new).updTmg sl fun t => { t with
      nodeC := if changed old new 1 || burstChanged old new 2 then t.nodeC.set n 0 else t.nodeC
      nodeP := if changed old new 3 || changed old new 4 then t.nodeP.set n 0 else t.nodeP }

/-- A store to a service node. -/
def State.writeSvc (s : State) (sl : Slice) (v : Nat) (l : List Word) : State :=
  let old := s.entry (tmgI sl) 1 v
  let new := maskEntry (tmgI sl) 1 v l
  if fld (new[0]?.getD 0) 0 6 ≠ fld (s.svcW sl v 0) 0 6 ∧ (bit (s.svcW sl v 0) 31 ∨ s.svcEmpty sl v = false) then
    s.event (tmgI sl) 1
  else
    ((s.refillSvc sl v).setEntry (tmgI sl) 1 v 0 new).updTmg sl fun t => { t with
      svcC := if changed old new 1 || changed old new 2 then t.svcC.set v 0 else t.svcC
      svcP := if changed old new 3 || changed old new 4 then t.svcP.set v 0 else t.svcP }

/-- A store to a meter. -/
def State.writeMeter (s : State) (sl : Slice) (m : Nat) (l : List Word) : State :=
  let old := s.entry (tmgI sl) 5 m
  let new := maskEntry (tmgI sl) 5 m l
  let all := decide (fld (old[0]?.getD 0) 0 2 ≠ fld (new[0]?.getD 0) 0 2) ||
    decide (bit (old[0]?.getD 0) 9 ≠ bit (new[0]?.getD 0) 9)
  let srTcm := decide (fld (new[0]?.getD 0) 0 2 = 0)
  ((s.refillMeter sl m).setEntry (tmgI sl) 5 m 0 new).updTmg sl fun t => { t with
    mtrC := if all || changed old new 1 || changed old new 2 then t.mtrC.set m 0 else t.mtrC
    mtrE := if all || (changed old new 3 && !srTcm) || changed old new 4 then t.mtrE.set m 0 else t.mtrE }

/-! ### Gates (R361-R365) -/

/-- TSU time in nanoseconds. -/
def State.tsuNs (s : State) : Nat := s.tsu.sec.toNat * 1000000000 + s.tsu.ns

/-- The list of a local port: gate states and intervals. [DEDUCED, log 68] -/
def State.gateList (s : State) (sl : Slice) (lp : Nat) : List (Nat × Nat) :=
  (List.range (fld (s.portW sl lp 2) 1 8 + 1)).map fun e =>
    (fld (s.ent (tmgI sl) 4 (lp * 256 + e) 0) 0 8, (s.ent (tmgI sl) 4 (lp * 256 + e) 1).toNat)

/-- R363: the runs of one cycle, each with its gate states and its length, from position `pos` on. -/
def gateRuns (pos cycle : Nat) (last : Nat) : List (Nat × Nat) → List (Nat × Nat)
  | [] => if pos < cycle then [(last, cycle - pos)] else []
  | (g, n) :: r =>
    if n = 0 then gateRuns pos cycle last r
    else if cycle ≤ pos + n then [(g, cycle - pos)]
    else (g, n) :: gateRuns (pos + n) cycle g r

def State.gateCycle (s : State) (sl : Slice) (lp : Nat) : List (Nat × Nat) :=
  gateRuns 0 (fld (s.portW sl lp 3) 0 30) 255 (s.gateList sl lp)

/-- Gate `t` is open in gate states `g`. -/
def gateOpen (g t : Nat) : Bool := g.testBit t

/-- The longest of the runs for which a gate stays open, over the given sequence. -/
def longestRun (t : Nat) : Nat → Nat → List (Nat × Nat) → Nat
  | cur, best, [] => max cur best
  | cur, best, (g, n) :: r => if gateOpen g t then longestRun t (cur + n) best r else longestRun t 0 (max cur best) r

/-- R365: the longest windows of the eight classes; none where the gate never closes. -/
def longestWindows (runs : List (Nat × Nat)) : List (Option Nat) :=
  (List.range 8).map fun t =>
    if runs.all fun (g, _) => gateOpen g t then none else some (longestRun t 0 0 (runs ++ runs))

/-- The run in force at an offset into the cycle: its index, and how far into it. -/
def locateRun (off : Nat) : Nat → List (Nat × Nat) → Option (Nat × Nat)
  | _, [] => none
  | k, (_, n) :: r => if off < n then some (k, off) else locateRun (off - n) (k + 1) r

/-- R363: the gate state of a port whose schedule starts at `base`, at TSU time `now`. -/
def GateSt.at (g : GateSt) (runs : List (Nat × Nat)) (cycle now : Nat) : GateSt :=
  if now < g.base || cycle = 0 then { g with entry := none, started := now, ends := g.base }
  else match locateRun ((now - g.base) % cycle) 0 runs with
    | none => { g with entry := none }
    | some (k, o) => { g with entry := some k, started := now - o, ends := now - o + (runs[k]?.getD (0, 0)).2 }

/-- R363: every running schedule is recomputed from the TSU time. -/
def State.relocateGates (s : State) : State :=
  forAll slices (fun sl t => forAll (List.range 64) (fun lp u =>
    let g := (u.tmg sl).gates.get lp
    if g.running then
      u.updTmg sl fun x => { x with
        gates := x.gates.set lp (g.at (u.gateCycle sl lp) (fld (u.portW sl lp 3) 0 30) u.tsuNs) }
    else u) t) s

/-- The gates of a port act: GATE_EN is 1 and no word of its entry or list is damaged (R375). -/
def State.gatesAct (s : State) (sl : Slice) (lp : Nat) : Bool :=
  bit (s.portW sl lp 2) 0 && !s.badEntry (tmgI sl) 2 lp &&
    (List.range (fld (s.portW sl lp 2) 1 8 + 1)).all fun e => !s.badEntry (tmgI sl) 4 (lp * 256 + e)

/-- The time at which gate `t` next closes, over a sequence of runs from time `at`. -/
def nextClose (t : Nat) : Nat → List (Nat × Nat) → Option Nat
  | _, [] => none
  | a, (g, n) :: r => if gateOpen g t then nextClose t (a + n) r else some a

/-- R364: whether gate `t` of a port is open, and when it next closes. -/
def State.gateNow (s : State) (sl : Slice) (lp t : Nat) : Bool × Option Nat :=
  if !s.gatesAct sl lp then (true, none) else
  let g := (s.tmg sl).gates.get lp
  let runs := s.gateCycle sl lp
  match g.entry with
  | none => (true, nextClose t g.base (runs ++ runs))
  | some k => (gateOpen (runs[k]?.getD (255, 0)).1 t, nextClose t g.ends (runs.drop (k + 1) ++ runs ++ runs))

/-- R50: the rate of a port in Gbit/s, from the configuration in force. -/
def speedGbit : Nat → Nat
  | 0 => 10
  | 1 => 25
  | 2 => 50
  | 3 => 100
  | 4 => 200
  | 5 => 400
  | _ => 800
def State.portRate (s : State) (p : Nat) : Nat := speedGbit (fld (s.port p).cfg 3 3)

/-- R388, R402: the P clock of a slice in MHz. -/
def levelMhz : Nat → Nat
  | 0 => 700
  | 1 => 910
  | 2 => 1120
  | 3 => 1330
  | 4 => 1540
  | _ => 1750
def State.pMhz (s : State) (sl : Slice) : Nat :=
  levelMhz (s.regF (slInst .egv sl) R.EGV_SSTAT 0 3) / if (s.egv sl).droop then 2 else 1

/-- R364: the bits on the wire that the fit test counts. -/
def State.fitBits (s : State) (sl : Slice) (lp len : Nat) : Int :=
  (len + sext (fld (s.portW sl lp 2) 10 8) 8 + 20) * 8

/-- R364: a frame of `len` bytes fits before the next close of its gate. -/
def State.fits (s : State) (sl : Slice) (lp t len : Nat) : Bool :=
  match (s.gateNow sl lp t).2 with
  | none => true
  | some c =>
    let f : Int := s.pMhz sl
    decide (s.fitBits sl lp len * f ≤ s.portRate (64 * sl.val + lp) * (((c : Int) - s.tsuNs - 160) * f - 70000))

/-- R365: the frame is longer than its class's longest window. -/
def State.overlong (s : State) (sl : Slice) (lp t len : Nat) : Bool :=
  s.gatesAct sl lp && match (((s.tmg sl).gates.get lp).longest[t]?).join with
    | none => false
    | some w => decide ((w : Int) * s.portRate (64 * sl.val + lp) < s.fitBits sl lp len)

/-- The queues that hold copies for a port, by the port their copies were admitted for. -/
def State.portQueues (s : State) (p : Nat) : List (Nat × List Copy) :=
  (s.queued (portSlice p)).filter fun (_, l) => l.any fun c => decide (c.port = p)

/-- R365: the transmission time of a copy of queue `q` exceeds its class's longest window. A frame whose length is not final yet is
not judged. -/
def State.exceedsWindow (s : State) (sl : Slice) (lp q : Nat) (c : Copy) : Bool :=
  (s.frame c.fid).final && s.overlong sl lp (q % 8) c.len

/-- R365: drop the head of queue `q`, `r` being the rest. -/
def State.gateDrop (s : State) (sl : Slice) (q : Nat) (c : Copy) (r : List Copy) : State :=
  (((s.setQueue sl q r).freeCopy c).count (tmgI sl) R.TMG_GATEDROP).event (tmgI sl) 3

/-- R365: the copies that are too long are dropped as they reach the head of queue `q`. -/
def State.dropTooLong (s : State) (sl : Slice) (lp q : Nat) : Nat → State
  | 0 => s
  | n + 1 =>
    match s.queue sl q with
    | [] => s
    | c :: r => if !c.gone && s.exceedsWindow sl lp q c then (s.gateDrop sl q c r).dropTooLong sl lp q n else s

/-- R365, R371: the heads of a port's queues are judged. [DEDUCED, log 141] -/
def State.judgeHeads (s : State) (p : Nat) : State :=
  let sl := portSlice p
  if !s.gatesAct sl (p % 64) || !s.portUp p || !s.awake sl || s.inBlockReset (tmgI sl) then s else
  forAll ((s.portQueues p).map (·.1)) (fun q t => t.dropTooLong sl (p % 64) q (t.queue sl q).length) s

/-- R363: start a port's schedule at the first cycle not earlier than now. -/
def State.startGates (s : State) (sl : Slice) (lp : Nat) : State :=
  let w := s.portW sl lp
  let cycle := fld (w 3) 0 30
  let base := ((w 5).toNat + fld (w 6) 0 16 * 2 ^ 32) * 1000000000 + fld (w 4) 0 30
  let now := s.tsuNs
  let start := if now ≤ base then base else base + cdiv (now - base) cycle * cycle
  let runs := s.gateCycle sl lp
  let g : GateSt :=
    { running := true, entry := none, started := now, ends := start, base := start, longest := longestWindows runs
      overruns := ((s.tmg sl).gates.get lp).overruns }
  s.updTmg sl fun t => { t with gates := t.gates.set lp g }

/-- R362, R363, R353: a store to a port's entry of window 2. -/
def State.writePort (s : State) (sl : Slice) (lp : Nat) (l : List Word) : State :=
  let old := s.entry (tmgI sl) 2 lp
  let new := maskEntry (tmgI sl) 2 lp l
  let was := bit (s.portW sl lp 2) 0
  let w2 := new[2]?.getD 0
  let cycle := fld (new[3]?.getD 0) 0 30
  if (was && (decide (setBit (old[2]?.getD 0) 0 false ≠ setBit w2 0 false) || (old.drop 3 ≠ new.drop 3))) ||
      (bit w2 0 && (cycle < 1000 || 1000000000 < cycle)) then s.event (tmgI sl) 2
  else
    let t := ((s.refillPort sl lp).setEntry (tmgI sl) 2 lp 0 new).updTmg sl fun t => { t with
      portB := if changed old new 0 || changed old new 1 then t.portB.set lp 0 else t.portB }
    if bit w2 0 && !was then (t.startGates sl lp).judgeHeads (64 * sl.val + lp)
    else if was && !bit w2 0 then t.updTmg sl fun t => { t with
      gates := t.gates.upd lp fun g => { overruns := g.overruns } }
    else t

/-- R363: a store to an entry of a port's list. -/
def State.writeGate (s : State) (sl : Slice) (e : Nat) (l : List Word) : State :=
  if bit (s.portW sl (e / 256) 2) 0 then s.event (tmgI sl) 2
  else s.setEntry (tmgI sl) 4 e 0 (maskEntry (tmgI sl) 4 e l)

/-! ### Ports out of UP (R371) -/

/-- A copy whose cells or buffer a block reset took is dropped when it is reached (R516); one in the deep tier is also a drop
under DEEPUNC. -/
def State.dropGone (s : State) (c : Copy) : State :=
  (if c.deep.isSome then s.countDrop (Fin.ofNat 4 c.eslice) 10 else s).rstDrop 1

/-- Discard a queued copy and count it in TMG_FLUSH. -/
def State.flushCopy (s : State) (sl : Slice) (c : Copy) : State :=
  if c.gone then s.dropGone c else (s.freeCopy c).count (tmgI sl) R.TMG_FLUSH

/-- Discard every copy queued for a port. -/
def State.flushPort (s : State) (p : Nat) : State :=
  let sl := portSlice p
  forAll (s.portQueues p) (fun (q, l) t => forAll l (fun c u => u.flushCopy sl c) (t.setQueue sl q [])) s

/-- The port flushes its queues while it is out of UP. -/
def State.downFlush (s : State) (p : Nat) : State :=
  if bit (s.portW (portSlice p) (p % 64) 2) 9 then s.flushPort p else s

/-! ### Deficit round robin (R348) -/

/-- A child of a chooser: its number, the counted length of the copy it would send, its quantum. -/
structure Kid where
  id : Nat
  len : Int
  quantum : Nat
  deriving DecidableEq, Repr

/-- Visit the children in turn, adding each one's quantum, until one's deficit covers its copy. -/
def drrGo (all : List Kid) : Nat → List Kid → Tbl Int → Option (Nat × Tbl Int)
  | 0, _, _ => none
  | n + 1, [], d => drrGo all n all d
  | n + 1, k :: r, d =>
    let v := d.get k.id + k.quantum
    if k.len ≤ v then some (k.id, d.set k.id (v - k.len)) else drrGo all n r (d.set k.id v)

/-- One selection among eligible children, ascending. `turn` is one more than the child whose turn it is, whose quantum
has been added. A round adds 256 bytes or more to each deficit, and no copy counts above 16,446, so 66 rounds suffice.
[DEDUCED, log 70] -/
def drr (kids : List Kid) (turn : Nat) (d : Tbl Int) : Option (Nat × Tbl Int) :=
  match kids.find? fun k => k.id + 1 = turn && decide (k.len ≤ d.get k.id) with
  | some k => some (k.id, d.set k.id (d.get k.id - k.len))
  | none =>
    let rot := kids.filter (fun k => turn ≤ k.id) ++ kids.filter fun k => k.id < turn
    drrGo rot (67 * (kids.length + 1)) rot d

/-- Lose the deficits of the children that `f` names. -/
def clearDef (d : Tbl Int) (f : Nat → Bool) : Tbl Int := ⟨d.ents.filter fun (k, _) => !f k⟩

/-! ### Eligibility (R346, R347) -/

/-- 0 ineligible, 1 committed-eligible, 2 excess-eligible. -/
def nodeMode (cir pir : Nat) (c p : Int) : Nat :=
  if p < 0 then 0
  else if 0 < cir ∧ 0 ≤ c then 1
  else if cir < pir ∧ (c < 0 ∨ cir = 0) then 2
  else 0

def State.subMode (s : State) (sl : Slice) (n : Nat) : Nat :=
  nodeMode (fld (s.nodeW sl n 1) 0 27) (fld (s.nodeW sl n 3) 0 27)
    (bucketLevel (fld (s.nodeW sl n 2) 0 24) ((s.tmg sl).nodeC.get n))
    (bucketLevel (fld (s.nodeW sl n 4) 0 24) ((s.tmg sl).nodeP.get n))
def State.svcMode (s : State) (sl : Slice) (v : Nat) : Nat :=
  nodeMode (fld (s.svcW sl v 1) 0 27) (fld (s.svcW sl v 3) 0 27)
    (bucketLevel (fld (s.svcW sl v 2) 0 24) ((s.tmg sl).svcC.get v))
    (bucketLevel (fld (s.svcW sl v 4) 0 24) ((s.tmg sl).svcP.get v))

/-- R353, R375: the port's bucket is not negative; a damaged port is unshaped. -/
def State.portShaped (s : State) (sl : Slice) (lp : Nat) : Bool :=
  s.badEntry (tmgI sl) 2 lp || decide (0 ≤ bucketLevel (fld (s.portW sl lp 1) 0 24) ((s.tmg sl).portB.get lp))

/-- The cells of a frame lie in slice `sl`: none of them waits on or crosses the link from its ingress slice. -/
def State.cellsHere (s : State) (fid : Nat) (sl : Slice) : Bool :=
  let i := s.ingSlice fid
  i = sl || let l := s.links.get (4 * i.val + sl.val)
    !l.waiting.contains fid && !l.flying.contains fid

/-- R283, R347: the copy lies in SRAM, a spill write of it in progress or not, and may be dequeued as far as its frame is
concerned. -/
def State.copyReady (s : State) (c : Copy) : Bool :=
  !c.inDeep && s.cellsHere c.fid (Fin.ofNat 4 c.eslice) && ((s.frame c.fid).final || c.cutThrough)

/-- R347: the queue whose head is `c` is eligible, gates aside. -/
def State.queueReady (s : State) (sl : Slice) (q : Nat) (c : Copy) : Bool :=
  s.copyReady c && !(s.tmg sl).refusedQ.contains q && (c.eclass = 0 || !s.inBlockReset (slInst .egv sl))

/-- R347: the queue's gate is open and its head fits. -/
def State.queueGate (s : State) (sl : Slice) (lp q : Nat) (c : Copy) : Bool :=
  (s.gateNow sl lp (q % 8)).1 && s.fits sl lp (q % 8) c.len

/-- A choice: the queue, its head, and the traffic manager after the choosers' rounds. -/
structure Choice where
  q : Nat
  copy : Copy
  after : TmgSt
  nodeCommitted : Bool := false
  svcCommitted : Bool := false

/-- R348, R375: the choice of a subscriber node among its eligible queues. -/
def State.chooseQueue (s : State) (sl : Slice) (n : Nat) (el : List (Nat × Copy)) : Option Choice :=
  let prof := fld (s.nodeW sl n 0) 12 4
  let bad := s.badEntry (tmgI sl) 3 prof
  let nsp := if bad then 0 else fld (s.ent (tmgI sl) 3 prof 0) 0 3
  let qw := fun t => if bad then 1 else max 1 (fld (s.ent (tmgI sl) 3 prof (1 + t / 4)) (8 * (t % 4)) 8)
  let t := s.tmg sl
  match el.reverse.find? fun (q, _) => 8 - nsp ≤ q % 8 with
  | some (q, c) => some { q := q, copy := c, after := t }
  | none =>
    match drr (el.map fun (q, c) => ⟨q, s.countedLen sl c.len c.ovhd, 256 * qw (q % 8)⟩) (t.rrNode.get n) t.defQueue with
    | none => none
    | some (q, d) => (el.find? fun (r, _) => r = q).map fun (_, c) =>
      { q := q, copy := c, after := { t with defQueue := d, rrNode := t.rrNode.set n (q + 1) } }

/-- R348: the choice of a service node among its eligible subscriber nodes. -/
def State.chooseNode (s : State) (sl : Slice) (v : Nat) (el : List (Nat × Copy)) : Option Choice :=
  let nodes := (el.map fun (q, _) => q / 8).dedup.filter fun n => s.subMode sl n ≠ 0
  let com := nodes.filter fun n => s.subMode sl n = 1
  let pool := if com = [] then nodes else com
  let kids := pool.filterMap fun n => (s.chooseQueue sl n (el.filter fun (q, _) => q / 8 = n)).map fun (c : Choice) =>
    (⟨n, s.countedLen sl c.copy.len c.copy.ovhd, if com = [] then 1024 * max 1 (fld (s.nodeW sl n 0) 19 8) else 2048⟩ : Kid)
  let t := s.tmg sl
  let pick := if com = [] then drr kids (t.rrSvcX.get v) t.defNodeX else drr kids (t.rrSvcC.get v) t.defNodeC
  match pick with
  | none => none
  | some (n, d) =>
    (s.chooseQueue sl n (el.filter fun (q, _) => q / 8 = n)).map fun (c : Choice) =>
      { c with
        nodeCommitted := com ≠ []
        after := if com = [] then { c.after with defNodeX := d, rrSvcX := t.rrSvcX.set v (n + 1) }
          else { c.after with defNodeC := d, rrSvcC := t.rrSvcC.set v (n + 1) } }

/-- Put a number into an ascending list that holds each once. -/
def putUp (n : Nat) : List Nat → List Nat
  | [] => [n]
  | k :: r => if n < k then n :: k :: r else if n = k then k :: r else k :: putUp n r

/-- R348: the choice of a port among its eligible service nodes, ascending. [DEDUCED, log 71] -/
def State.choosePort (s : State) (sl : Slice) (lp : Nat) (el : List (Nat × Copy)) : Option Choice :=
  let under := fun v => el.filter fun (q, _) => s.service sl (q / 8) = v
  let svcs := ((el.map fun (q, _) => s.service sl (q / 8)).foldr putUp []).filter fun v =>
    s.svcMode sl v ≠ 0 && (under v).any fun (q, _) => s.subMode sl (q / 8) ≠ 0
  let com := svcs.filter fun v => s.svcMode sl v = 1
  let pool := if com = [] then svcs else com
  let kids := pool.filterMap fun v => (s.chooseNode sl v (under v)).map fun (c : Choice) =>
    (⟨v, s.countedLen sl c.copy.len c.copy.ovhd, if com = [] then 1024 * max 1 (fld (s.svcW sl v 0) 6 8) else 2048⟩ : Kid)
  let t := s.tmg sl
  let pick := if com = [] then drr kids (t.rrPortX.get lp) t.defSvcX else drr kids (t.rrPortC.get lp) t.defSvcC
  match pick with
  | none => none
  | some (v, d) =>
    (s.chooseNode sl v (under v)).map fun (c : Choice) =>
      { c with
        svcCommitted := com ≠ []
        after := if com = [] then { c.after with defSvcX := d, rrPortX := t.rrPortX.set lp (v + 1) }
          else { c.after with defSvcC := d, rrPortC := t.rrPortC.set lp (v + 1) } }

/-- R348: the children of a chooser that finds none of them eligible lose their deficits. -/
def State.loseDeficits (s : State) (sl : Slice) (lp : Nat) (el : List (Nat × Copy)) : State :=
  let mine := fun (v : Nat) => decide (fld (s.svcW sl v 0) 0 6 = lp)
  let okNode := fun (n : Nat) => s.subMode sl n ≠ 0 && el.any fun (q, _) => q / 8 = n
  let okSvc := fun (v : Nat) => s.svcMode sl v ≠ 0 && el.any fun (q, _) => s.service sl (q / 8) = v && s.subMode sl (q / 8) ≠ 0
  let nodes := (s.tmg sl).defNodeC.ents.map (·.1) ++ (s.tmg sl).defNodeX.ents.map (·.1)
  let lone := fun (n : Nat) => mine (s.service sl n) &&
    !(nodes ++ el.map fun (e : Nat × Copy) => e.1 / 8).any fun m => s.service sl m = s.service sl n && okNode m
  let anySvc := (el.map fun (q, _) => s.service sl (q / 8)).any fun v => okSvc v
  s.updTmg sl fun t => { t with
    defQueue := clearDef t.defQueue fun q => mine (s.service sl (q / 8)) && !el.any fun (r, _) => r / 8 = q / 8
    defNodeC := clearDef t.defNodeC lone, defNodeX := clearDef t.defNodeX lone
    defSvcC := clearDef t.defSvcC fun v => mine v && !anySvc
    defSvcX := clearDef t.defSvcX fun v => mine v && !anySvc }

/-! ### The energy gate (R366-R369, R387) -/

/-- R366: the cost of a copy in 1/1,024 token. -/
def State.energyCost (s : State) (sl : Slice) (c : Copy) : Nat :=
  let lo := if c.wasDeep then 16 else 0
  s.regF (tmgI sl) (R.TMG_EBASE + 4 * c.eclass) lo 16 * 64 + c.len * s.regF (tmgI sl) R.TMG_EBYTE lo 16

/-- R367: the reserve below which class `e` is not paid, in 1/1,024 token. -/
def State.energyFloor (s : State) (sl : Slice) (e : Nat) : Nat :=
  ((List.range (min e 3)).map fun k => s.regF (tmgI sl) (R.TMG_ERES0 + 4 * k) 0 24).sum * 1024

/-- EGV_BUCKET shows B in whole tokens (R414). -/
def State.setBucket (s : State) (sl : Slice) (b : Int) : State :=
  (s.updEgv sl fun x => { x with bucket := b }).setReg (slInst .egv sl) R.EGV_BUCKET (BitVec.ofInt 32 (b / 1024))

/-- R367: the gate pays a copy now. [DEDUCED, log 72] -/
def State.gatePays (s : State) (sl : Slice) (c : Copy) : Bool :=
  let cost := s.energyCost sl c
  c.eclass = 0 || (decide (((s.energyFloor sl c.eclass : Nat) : Int) ≤ (s.egv sl).bucket - cost) &&
    (c.eclass = 1 || (!s.regB (tmgI sl) R.TMG_ESTAT 0 && match (s.tmg sl).allot with
      | none => true
      | some l => l.any fun (t, n) => t = c.tid && decide (cost ≤ n))))

/-- Pay a dequeue. -/
def State.payEnergy (s : State) (sl : Slice) (c : Copy) : State :=
  let cost := s.energyCost sl c
  (s.setBucket sl ((s.egv sl).bucket - cost)).updTmg sl fun t => { t with
    paid01 := if c.eclass ≤ 1 then t.paid01 + cost else t.paid01
    allot := if c.eclass ≤ 1 then t.allot else t.allot.map fun l =>
      l.map fun (k, n) => if k = c.tid then (k, n - cost) else (k, n) }

/-- R369, R387: an E1 hold begins. -/
def State.beginHold (s : State) (sl : Slice) : State :=
  let s := (s.setRegB (tmgI sl) R.TMG_ESTAT 0 true).event (tmgI sl) 4
  let s := (s.setRegF egv4 R.EGV_BBC 0 2 sl.val).count egv4 R.EGV_BBC 8 24
  (s.event egv4 0).noteFault 86

/-- R283: a queued cut-through copy falls back to store-and-forward; one whose frame has ended bad is discarded. -/
def State.fallBack (s : State) (sl : Slice) (q : Nat) (c : Copy) : State :=
  let f := s.frame c.fid
  let s := s.count (slInst .swc sl) R.SWC_CTFALL
  if f.bad then (s.removeCopy sl q c.cid).freeCopy c
  else s.updCopy sl q c.cid fun x => { x with cutThrough := false }

/-- R368, R369: a refusal; a cut-through copy falls back (R283). -/
def State.refuseEnergy (s : State) (sl : Slice) (q : Nat) (c : Copy) : State :=
  let s := s.count (tmgI sl) R.TMG_EREFUSE
  let s := s.updTmg sl fun t => { t with
    refusedQ := q :: t.refusedQ, e1Refused := t.e1Refused || c.eclass = 1, e23Refused := t.e23Refused || 2 ≤ c.eclass
    refusedCost := t.refusedCost + s.energyCost sl c }
  let s := if c.cutThrough then s.fallBack sl q c else s
  if c.eclass = 1 && !s.regB (tmgI sl) R.TMG_ESTAT 0 then s.beginHold sl else s

/-! ### Dequeue (R349, R350, R365) -/

/-- R349: debit the buckets of a dequeued copy. -/
def State.debitBuckets (s : State) (sl : Slice) (lp : Nat) (ch : Choice) : State :=
  let n := s.countedLen sl ch.copy.len ch.copy.ovhd * byteUnit
  let node := ch.q / 8
  let v := s.service sl node
  s.updTmg sl fun t => { t with
    nodeP := t.nodeP.set node (t.nodeP.get node + n), svcP := t.svcP.set v (t.svcP.get v + n)
    portB := t.portB.set lp (t.portB.get lp + n)
    nodeC := if ch.nodeCommitted then t.nodeC.set node (t.nodeC.get node + n) else t.nodeC
    svcC := if ch.svcCommitted then t.svcC.set v (t.svcC.get v + n) else t.svcC }

/-- The copy at the head of queue `q` is one that the scheduler drops when it reaches it: its cells are gone, its node is
damaged, or it is longer than its longest window. -/
def State.dropHead (s : State) (sl : Slice) (lp q : Nat) : Nat → State
  | 0 => s
  | n + 1 =>
    match s.queue sl q with
    | [] => s
    | c :: r =>
      if c.gone then ((s.setQueue sl q r).dropGone c).dropHead sl lp q n
      else if s.nodeBad sl (q / 8) then ((s.setQueue sl q r).flushCopy sl c).dropHead sl lp q n
      else if s.exceedsWindow sl lp q c then (s.gateDrop sl q c r).dropHead sl lp q n
      else s

/-- R364: a ready head whose gate is open and that does not fit waits, and counts once. -/
def State.countGateWait (s : State) (sl : Slice) (lp q : Nat) : State :=
  match s.queue sl q with
  | c :: _ =>
    if s.queueReady sl q c && (s.gateNow sl lp (q % 8)).1 && !s.fits sl lp (q % 8) c.len && !c.gateWaited then
      (s.updCopy sl q c.cid fun x => { x with gateWaited := true }).count (tmgI sl) R.TMG_GATEWAIT
    else s
  | [] => s

/-- The damaged words that the selection of a port reads are reported. -/
def State.selectReads (s : State) (sl : Slice) (lp : Nat) (qs : List Nat) : State :=
  let s := (s.tmgRead sl 2 lp)
  let s := if bit (s.portW sl lp 2) 0 && !s.badEntry (tmgI sl) 2 lp && !s.gatesAct sl lp then s.tmgPar sl else s
  let s := forAll (qs.map (· / 8)).dedup (fun n t => (t.tmgRead sl 0 n).tmgRead sl 3 (fld (t.nodeW sl n 0) 12 4)) s
  forAll (qs.map fun q => s.service sl (q / 8)).dedup (fun v t => t.tmgRead sl 1 v) s

/-- Bring the buckets above a port's queues up to date. -/
def State.refillPath (s : State) (sl : Slice) (lp : Nat) (qs : List Nat) : State :=
  let s := forAll (qs.map (· / 8)).dedup (fun n t => t.refillNode sl n) s
  let s := forAll (qs.map fun q => s.service sl (q / 8)).dedup (fun v t => t.refillSvc sl v) s
  s.refillPort sl lp

/-- R350: the frames of a port's egress that wait for the wire, in rewrite or at the MAC. -/
def State.egressWaiting (s : State) (p : Nat) : Nat :=
  ((s.swc (portSlice p)).rewriteQ.countP fun c => c.port = p) + (s.port p).mac.length

/-- R350: the port's egress takes a copy now. -/
def State.egressFree (s : State) (sl : Slice) (p : Nat) : Bool :=
  s.portUp p && !bit (s.laneReg p R.PRT_PSTAT) 4 && s.awake sl && s.egressWaiting p = 0 &&
    !s.inBlockReset (slInst .prt sl) && !s.inBlockReset (tmgI sl) && !s.inBlockReset (slInst .rwr sl) && !s.inBlockReset (slInst .swc sl)

/-- Take the chosen copy out of its queue and hand it to rewrite. -/
def State.sendChoice (s : State) (sl : Slice) (lp : Nat) (ch : Choice) : State :=
  let s := (s.updTmg sl fun _ => ch.after).payEnergy sl ch.copy
  let s := (s.debitBuckets sl lp ch).removeCopy sl ch.q ch.copy.cid
  let n := (s.countedLen sl ch.copy.len ch.copy.ovhd).toNat
  let s := (s.updTmg sl fun t => { t with sampled := t.sampled.set ch.q (t.sampled.get ch.q + n) }).noteAct sl 8 1 |>.noteAct
    sl 14 1
  s.updSwc sl fun x => { x with rewriteQ := x.rewriteQ ++ [ch.copy] }

/-- R347: what precedes a selection for a port, and the heads that are eligible for it. -/
def State.offered (s : State) (p : Nat) : State × List (Nat × Copy) :=
  let sl := portSlice p
  let lp := p % 64
  let qs := (s.portQueues p).map (·.1)
  let s := s.selectReads sl lp qs
  let s := forAll qs (fun q t => t.dropHead sl lp q (t.queue sl q).length) s
  let s := forAll qs (fun q t => t.countGateWait sl lp q) (s.refillPath sl lp qs)
  let el := (qs.filterMap fun q => (s.queue sl q).head?.map fun c => (q, c)).filter fun (q, c) =>
    s.queueReady sl q c && s.queueGate sl lp q c
  (s.loseDeficits sl lp el, el)

/-- R348, R353: the selection of a port among its eligible heads. -/
def State.selects (s : State) (sl : Slice) (lp : Nat) (el : List (Nat × Copy)) : Option Choice :=
  if s.portShaped sl lp then s.choosePort sl lp el else none

/-- R348: one selection for a port in UP whose egress is free. -/
def State.dequeue (s : State) (p : Nat) : State :=
  let sl := portSlice p
  let (s, el) := s.offered p
  match s.selects sl (p % 64) el with
  | none => s
  | some ch => if s.gatePays sl ch.copy then s.sendChoice sl (p % 64) ch else s.refuseEnergy sl ch.q ch.copy

/-- R346-R350, R365, R371: TMG serves a port: out of UP its queues are flushed under DOWNFLUSH; in UP one selection is made where its
egress is free, and the heads of its queues are judged. -/
def execCopyDequeue (p : Port) (s : State) : Out :=
  s.done (if !s.portUp p.val then s.downFlush p.val
    else (if s.egressFree (portSlice p.val) p.val then s.dequeue p.val else s).judgeHeads p.val)

/-! ### Configuration commands -/

/-- A host store to an entry of a TMG window. -/
def State.hostTmg (s : State) (inst : Fin 16) (win e : Nat) (l : List (Nat × Word)) (f : Slice → State → State) : State :=
  s.accessSlices .tmg inst { inst := ⟨.tmg, inst⟩, store := some (win, e, l) } f

/-- R344: a write to a subscriber node. -/
def execSubscriberNodeWrite (inst : Fin 16) (node : Fin 65536) (w : List Word) (s : State) : Out :=
  s.done (s.hostTmg inst 0 node.val (numbered w) fun sl t => t.writeNode sl node.val w)

/-- R344: a write to a service node. -/
def execServiceNodeWrite (inst : Fin 16) (node : Fin 4096) (w : List Word) (s : State) : Out :=
  s.done (s.hostTmg inst 1 node.val (numbered w) fun sl t => t.writeSvc sl node.val w)

/-- R353: a write to a meter. -/
def execMeterConfigWrite (inst : Fin 16) (m : Fin 131072) (w : List Word) (s : State) : Out :=
  s.done (s.hostTmg inst 5 m.val (numbered w) fun sl t => t.writeMeter sl m.val w)

/-- R363: a write to an entry of a port's gate list, or to its configuration. -/
def execGateConfigWrite (inst : Fin 16) (lp : Fin 64) (entry : Option (Fin 256)) (w : List Word) (s : State) : Out :=
  s.done (match entry with
    | some e => s.hostTmg inst 4 (lp.val * 256 + e.val) (numbered w) fun sl t => t.writeGate sl (lp.val * 256 + e.val) w
    | none => s.hostTmg inst 2 lp.val (numbered w) fun sl t => t.writePort sl lp.val w)

/-- R363, R365: a write of word 2 of a port's configuration with GATE_EN = 1, its other words unchanged. -/
def execGateEnable (inst : Fin 16) (lp : Fin 64) (w2 : Word) (s : State) : Out :=
  s.done (s.hostTmg inst 2 lp.val [(2, w2)] fun sl t => t.writePort sl lp.val ((t.entry (tmgI sl) 2 lp.val).set 2 w2))

/-- R363, R361: the next entry of a running schedule takes effect. A frame on the wire whose gate closes counts as a
transmission overrun, as IEEE 802.1Q says; no register shows the count. [PRESUMED, log 122] -/
def execGateEntryChange (p : Port) (s : State) : Out :=
  let sl := portSlice p.val
  let lp := p.val % 64
  let g := (s.tmg sl).gates.get lp
  let runs := s.gateCycle sl lp
  let k := match g.entry with
    | none => 0
    | some k => if runs.length ≤ k + 1 then 0 else k + 1
  let now := fun (j : Option Nat) (t : Nat) => match j with
    | none => true
    | some e => gateOpen (runs[e]?.getD (255, 0)).1 t
  let cut := (s.port p.val).tx.any fun x => now g.entry (x.copy.queue % 8) && !now (some k) (x.copy.queue % 8)
  s.done (if !g.running then s else s.updTmg sl fun t => { t with
    gates := t.gates.set lp { g with entry := some k, started := g.ends, ends := g.ends + (runs[k]?.getD (0, 0)).2
                                     overruns := if cut then g.overruns + 1 else g.overruns } })

/-! ### Packet counters (R359, R360) -/

/-- The counter a request names, none where it is out of its partition. -/
def State.counterOf (s : State) (sl : Slice) (r : CountReq) : Option Nat :=
  let base := fld (s.ent (tmgI sl) 7 r.tid 0) 0 20
  let size := fld (s.ent (tmgI sl) 7 r.tid 1) 0 21
  if r.index < size && base + r.index ≤ 1048575 then some (base + r.index) else none

/-- Discard a counter request. -/
def State.dropCount (s : State) (sl : Slice) : State := (s.count (tmgI sl) R.TMG_CNTDROP).event (tmgI sl) 5

/-- Add to the 64-bit count at word `k` of a counter, modulo 2^64. -/
def State.addCounter (s : State) (sl : Slice) (c k n : Nat) : State :=
  let v := (s.ent (tmgI sl) 6 c k).toNat + (s.ent (tmgI sl) 6 c (k + 1)).toNat * 2 ^ 32 + n
  s.setEntry (tmgI sl) 6 c k [BitVec.ofNat 32 v, BitVec.ofNat 32 (v / 2 ^ 32)]

/-- R375: a damaged counter is written to 0 first. -/
def State.mendCounter (s : State) (sl : Slice) (c : Nat) : State :=
  if s.badEntry (tmgI sl) 6 c then (s.tmgPar sl).setEntry (tmgI sl) 6 c 0 [0, 0, 0, 0] else s

/-- R359: the oldest queued counter request is applied. Bytes of a frame whose length is not final wait for its end. -/
def execCountRequestApply (sl : Slice) (s : State) : Out :=
  s.done (match (s.tmg sl).countQ with
    | [] => s
    | r :: rest =>
      if !s.awake sl then s.requestWake sl else
      let s := s.updTmg sl fun t => { t with countQ := rest }
      if s.badEntry (tmgI sl) 7 r.tid then (s.tmgPar sl).dropCount sl
      else match s.counterOf sl r with
        | none => s.dropCount sl
        | some c =>
          let s := ((s.mendCounter sl c).addCounter sl c 0 1)
          match r.fid with
          | none => s.addCounter sl c 2 r.len
          | some f =>
            if (s.frame f).final then s.addCounter sl c 2 (s.frame f).bytes.length
            else s.updTmg sl fun t => { t with pendBytes := t.pendBytes ++ [(c, f)] })

/-! ### Queue observation (R373, R374) -/

/-- The next index of a ring of 2^LOG2N records. -/
def ringNext (i log2 : Nat) : Nat := (i + 1) % 2 ^ log2

/-- The sampled queues of a slice: those whose MON bit is set. -/
def State.monitored (s : State) (sl : Slice) : List Nat :=
  (s.win.ents.filter fun (k, _) => winKey (tmgI sl) 0 0 ≤ k && decide (k < winKey (tmgI sl) 0 (65536 * 5))).flatMap
    fun (k, v) => if (k - winKey (tmgI sl) 0 0) % 5 = 2 then
      (List.range 8).filterMap fun t =>
        if bit v (24 + t) then some ((k - winKey (tmgI sl) 0 0) / 5 * 8 + t) else none
    else []

/-- A bucket above a queue is below 0. -/
def State.bucketsBelow (s : State) (sl : Slice) (lp q : Nat) : Bool :=
  let t := s.tmg sl
  let n := q / 8
  let v := s.service sl n
  !s.portShaped sl lp || decide (bucketLevel (fld (s.nodeW sl n 2) 0 24) (t.nodeC.get n) < 0) ||
    decide (bucketLevel (fld (s.nodeW sl n 4) 0 24) (t.nodeP.get n) < 0) ||
    decide (bucketLevel (fld (s.svcW sl v 2) 0 24) (t.svcC.get v) < 0) ||
    decide (bucketLevel (fld (s.svcW sl v 4) 0 24) (t.svcP.get v) < 0)

/-- R374: the record of a queue. [DEDUCED, log 73] -/
def State.queueRecord (s : State) (sl : Slice) (q : Nat) : List Byte :=
  let l := s.queue sl q
  let lp := fld (s.svcW sl (s.service sl (q / 8)) 0) 0 6
  let gated := match l with
    | [] => false
    | c :: _ => !s.queueGate sl lp q c
  let soj := match l with
    | [] => 0
    | c :: _ => (s.time - c.admitted) / 16 * 16
  leBytes 4 s.tsu.sec.toNat ++ leBytes 4 s.tsu.ns
    ++ leBytes 4 (q + sl.val * 2 ^ 19 + if (s.tmg sl).srPhase then 2 ^ 31 else 0)
    ++ leBytes 4 (sramCells l % 2 ^ 19) ++ leBytes 4 (min (deepUnits l) (2 ^ 32 - 1))
    ++ leBytes 4 (min soj 0xFFFFFFF0) ++ leBytes 4 (min ((s.tmg sl).sampled.get q) (2 ^ 32 - 1))
    ++ leBytes 4 ((if (s.tmg sl).refusedQ.contains q then 1 else 0) + (if gated then 2 else 0)
        + if s.bucketsBelow sl lp q then 4 else 0)

/-- Write one record, or discard it where the ring is full. -/
def State.writeQueueRecord (s : State) (sl : Slice) (q : Nat) : State :=
  let i := tmgI sl
  let log := log2n (s.regF i R.TMG_SRCFG 0 5) 6 20
  let head := s.regF i R.TMG_SRHEAD 0 20
  let lp := fld (s.svcW sl (s.service sl (q / 8)) 0) 0 6
  let s := ((s.refillNode sl (q / 8)).refillSvc sl (s.service sl (q / 8))).refillPort sl lp
  if ringNext head log = s.regF i R.TMG_SRTAIL 0 20 then (s.count i R.TMG_SRDROP).event i 6
  else
    let base := (s.reg i R.TMG_SRBASE_LO &&& 0xFFFFFFE0).toNat + (s.reg i R.TMG_SRBASE_HI).toNat * 2 ^ 32
    let s := s.dma (base + 32 * head) (s.queueRecord sl q)
    (s.setRegF i R.TMG_SRHEAD 0 20 (ringNext head log)).updTmg sl fun t => { t with
      sampled := t.sampled.set q 0, srPhase := if ringNext head log = 0 then !t.srPhase else t.srPhase }

/-- R373: a period's records are written; `late` tells that the previous period overran. -/
def execQueueSampleRecord (sl : Slice) (late : Bool) (s : State) : Out :=
  s.done (if !s.regB (tmgI sl) R.TMG_SRCFG 8 || 1 ≤ s.stage then s
    else if !s.awake sl then s.requestWake sl else
    let s := if late then s.count (tmgI sl) R.TMG_SRLATE else s
    forAll (s.monitored sl) (fun q t => t.writeQueueRecord sl q) s)

/-- R376: a write of TMG_SRCFG; writing EN 1 sets SRHEAD to 0 and starts the first pass of PHASE (R293). -/
def State.writeSrcfg (s : State) (sl : Slice) (v : Word) : State :=
  let t := s.plainWrite (tmgI sl) R.TMG_SRCFG v
  if bit v 8 then (t.setRegF (tmgI sl) R.TMG_SRHEAD 0 20 0).updTmg sl fun x => { x with srPhase := true } else t

/-- R376: queue sampling is enabled. -/
def execSamplerEnable (inst : Fin 16) (v : Word) (s : State) : Out :=
  s.done (s.accessSlices .tmg inst { inst := ⟨.tmg, inst⟩, off := R.TMG_SRCFG, value := some v } fun sl t => t.writeSrcfg sl v)

end Sys2Proof.Machine
end

