-- ==== Sys2Proof/Machine/Lookup.lean ====
section
/-! DEFINITION. Lookups as a microword issues them: keys, tables, rule actions, meters, counter and sample requests, raw
table accesses, and what a returning result makes visible (R109-R112, R160-R164, R170, R171, R187-R191, R199, R235, R236,
R355-R359). -/

namespace Sys2Proof.Machine

abbrev pupI (sl : Slice) : InstId := slInst .pup sl
abbrev pclI (sl : Slice) : InstId := slInst .pcl sl

/-- R91: the INPORT, LEN and LEN_FINAL, and COLOUR fields of MD. -/
def Ctx.inport (c : Ctx) : Byte := c.md.get 0
def Ctx.mdLen (c : Ctx) : Nat := (c.md.get 2).toNat + 256 * (c.md.get 3).toNat
def Ctx.lenFinal (c : Ctx) : Bool := (c.md.get 4).getLsbD 0
def Ctx.colour (c : Ctx) : Nat := (c.md.get 25).toNat % 4

/-- R94, R160: the tag of a lookup. -/
def lkTag (n : Nano) (w : Word) : Nat := if n.lktagmw then fld w 18 2 else n.lktag

/-- R94, R236: the key, low word first. A key of fewer bits than its table compares (R98 lets a nanoword ask for one) has
zeros above. [DESIGN CHOICE, log 144] -/
def lkKey (n : Nano) (w : Word) (c : Ctx) : Nat :=
  let r := fun (k : Nat) => (c.reg (mwA n.opf w + k)).toNat
  let q := fun (k : Nat) => (c.key (n.lkkey + k)).toNat
  match n.lkwidth with
  | 0 => r 0
  | 1 => r 0 + r 1 * 2 ^ 32
  | 2 => q 0
  | 3 => q 0 + r 0 * 2 ^ 128
  | 4 => q 0 + q 1 * 2 ^ 128 + r 0 * 2 ^ 256 + r 1 * 2 ^ 288
  | _ => q 0 + q 1 * 2 ^ 128 + q 2 * 2 ^ 256 + q 3 * 2 ^ 384 + r 0 * 2 ^ 512 + r 1 * 2 ^ 544 + r 2 * 2 ^ 576
      + r 3 * 2 ^ 608

/-- The `w` registers that a key of LKWIDTH takes. -/
def lkKeyRegs (n : Nano) (w : Word) : List Nat :=
  let r := fun (k : Nat) => (mwA n.opf w + k) % 16
  match n.lkwidth with
  | 0 | 3 => [r 0]
  | 1 | 4 => [r 0, r 1]
  | 2 => []
  | _ => [r 0, r 1, r 2, r 3]

/-- R161: the first result register, and how many there are. -/
def lkDest (n : Nano) (w : Word) : Nat × Nat :=
  let d := mwD n.opf w
  match n.lkres with
  | 0 => (d / 2 * 2, 2)
  | 1 => (d / 4 * 4, 4)
  | _ => (0, 0)

/-- R222: the L2 key of a table 7 lookup: address in [47:0], BD in [61:48]. -/
def lkMac (n : Nano) (key : Nat) : BitVec 62 :=
  let hi := key % 2 ^ 32
  let lo := key / 2 ^ 32 % 2 ^ 16
  let bd := key / 2 ^ 48 % 2 ^ 14
  BitVec.ofNat 62 (if n.lkwidth = 0 then hi else hi * 2 ^ 16 + lo + bd * 2 ^ 48)

/-! ### Rule actions (R187-R191) -/

/-- The default action of a profile: its window. -/
def State.defaultWin (s : State) (sl : Slice) (tid : Byte) (p width : Nat) (epoch : Bool) : Nat :=
  match s.profilePart sl tid p width with
  | some w => if partVersioned w then (if epoch then 4 else 3) else 7
  | none => 7

/-- TABLE of R214 for the words of a PCL window: action entries, and the default actions of windows 3, 4 and 7, told apart by a
multiple of 32. -/
def pclTable : Nat → Nat
  | 5 => 9
  | 4 => 10 + 32
  | 7 => 10 + 64
  | _ => 10

/-- The 64-bit words of a four-word PCL entry that are damaged, with the address that the parity item gives them. R215 numbers the
words of FWD tables only: a PCL word has twice its entry's number plus its half, whichever of windows 3, 4, 5 and 7 it lies in.
[DESIGN CHOICE, log 140] -/
def State.pclDamaged (s : State) (sl : Slice) (win e : Nat) : List (Nat × Nat) :=
  [0, 1].filterMap fun h =>
    if s.badWord (pclI sl) win (4 * e + 2 * h) || s.badWord (pclI sl) win (4 * e + 2 * h + 1) then
      some (pclTable win, 2 * e + h)
    else none

/-- Words that the spec leaves open. [DESIGN CHOICE, log 17] -/
def State.drawWords : Nat → State → List Word × State
  | 0, s => ([], s)
  | n + 1, s =>
    let (v, t) := s.drawWord
    let (l, u) := State.drawWords n t
    (v :: l, u)

/-- R189, R191: the default action that a profile returns, HIT 0, with the damaged words met. -/
def State.defaultAction (s : State) (sl : Slice) (win p : Nat) : (List Word × List (Nat × Nat)) × State :=
  let d := s.pclDamaged sl win p
  let (l, t) := if d = [] then (s.entry (pclI sl) win p, s) else s.drawWords 4
  ((l.modify 0 (fun w => setBit w 31 false), d), t)

/-- A search of profile `p` (R187, R235, R239, R241). -/
def State.searchLookup (s : State) (sl : Slice) (n : Nano) (p key : Nat) (tid : Byte) (epoch : Bool) : Lookup × State :=
  let width := if 3 ≤ n.lkwidth then n.lkwidth - 3 else 3
  let win := s.defaultWin sl tid p width epoch
  match s.profilePart sl tid p width with
  | none =>
    let ((l, d), t) := s.defaultAction sl win p
    ({ words := l, damaged := d, mapErr := true }, t)
  | some w =>
    let (hit, bad) := s.asaSearch sl w epoch key (s.asaMask sl n.lkmask) (BitVec.ofNat 8 n.lkpref)
    let base : Lookup := { falseRows := bad, multi := bad.length = 3 }
    match hit with
    | none =>
      let ((l, d), t) := s.defaultAction sl win p
      ({ base with words := l, damaged := d }, t)
    | some r =>
      let d := s.pclDamaged sl 5 r
      if d = [] then
        let l := s.entry (pclI sl) 5 r
        ({ base with
          words := l.modify 0 (fun v => setBit v 31 true)
          countRow := if bit (l[0]?.getD 0) 30 then some r else none }, s)
      else
        let ((l, d'), t) := s.defaultAction sl win p
        ({ base with words := l, damaged := d ++ d' }, t)

/-- A table 7 lookup (R222, R223, R225). -/
def State.macLookup (s : State) (sl : Slice) (n : Nano) (key : Nat) (c : Ctx) : Lookup :=
  let k := lkMac n key
  let (row, bad) := s.l2Search sl k
  let (l, d) := s.l2Result sl row
  { words := l, damaged := d, falseRows := bad, multi := bad.length = 3
    l2row := if d = [] then row else none, l2data := l
    learn := if n.lkwidth = 2 then some ⟨k, BitVec.ofNat 8 (key / 2 ^ 64), c.inport⟩ else none }

/-! ### Meters (R355-R358, R375) -/

/-- R356: the colour, and whether the first and second bucket are debited, from their levels. -/
def meterColour (mode inp : Nat) (n l1 l2 : Int) : Nat × Bool × Bool :=
  if mode = 3 then (2, false, false)
  else if mode = 1 then
    if inp = 2 || l2 < n then (2, false, false)
    else if inp = 1 || l1 < n then (1, false, true)
    else (0, true, true)
  else if inp = 0 && n ≤ l1 then (0, true, false)
  else if inp ≠ 2 && n ≤ l2 then (1, false, true)
  else (2, false, false)

/-- A METER request: its result words, and the state with its charge. -/
def State.meterLookup (s : State) (x : CtxId) (m : Nat) : List Word × State :=
  let sl := x.slice
  let c := s.ctx x
  let w0 := s.mtrW sl m 0
  let ovhd := fld w0 3 6
  let n := s.countedLen sl c.mdLen ovhd
  let pend : Word := if c.lenFinal then 0 else 1
  if s.badEntry (tmgI sl) 5 m then
    ([BitVec.ofNat 32 (min 2 (s.regF (tmgI sl) R.TMG_CTRL 0 2)), pend], s.tmgPar sl)
  else
  let inp := if bit w0 2 then c.colour else 0
  if !bit w0 9 then ([BitVec.ofNat 32 inp, pend], s) else
  let s := s.refillMeter sl m
  let t := s.tmg sl
  let l1 := bucketLevel (fld (s.mtrW sl m 2) 0 24) (t.mtrC.get m)
  let l2 := bucketLevel (fld (s.mtrW sl m 4) 0 24) (t.mtrE.get m)
  let (col, d1, d2) := meterColour (fld w0 0 2) inp (n * byteUnit) l1 l2
  let charge : Charge := ⟨m, n, d1, d2, !c.lenFinal, ovhd⟩
  let s := s.updTmg sl fun t => { t with
    mtrC := if d1 then t.mtrC.set m (t.mtrC.get m + n * byteUnit) else t.mtrC
    mtrE := if d2 then t.mtrE.set m (t.mtrE.get m + n * byteUnit) else t.mtrE
    pendMtr := if (d1 || d2) && !c.lenFinal then t.pendMtr ++ [(c.fid, charge)] else t.pendMtr }
  let s := if d1 || d2 then s.updCtx x fun c => { c with charges := c.charges ++ [charge] } else s
  ([BitVec.ofNat 32 col, pend], s)

/-! ### Counter and sample requests (R119, R290, R359, R360) -/

/-- R360: requests that the counters' queue has room for enter it. -/
def State.pushCounts (s : State) (sl : Slice) (l : List CountReq) : List CountReq × State :=
  let room := 512 - (s.tmg sl).countQ.length
  (l.drop room, s.updTmg sl fun t => { t with countQ := t.countQ ++ l.take room })

/-- The request of COUNT. -/
def countReq (x : CtxId) (c : Ctx) (w : Nat) : CountReq :=
  ⟨w % 2 ^ 20, c.tid.toNat, c.mdLen, if isHk x || c.lenFinal then none else some c.fid⟩

/-- Issue a counter request. -/
def State.issueCount (s : State) (x : CtxId) (w : Nat) : State :=
  let c := s.ctx x
  let (left, t) := s.pushCounts x.slice [countReq x c w]
  t.updCtx x fun c => { c with tailReqs := c.tailReqs ++ left }

/-! ### Raw accesses (R170, R171, R215) -/

/-- 64-bit words of a table: node memory, entries, or the rows of the L2 partition. -/
def State.rawSize (s : State) (sl : Slice) (t : Nat) : Nat :=
  match t with
  | 0 | 1 => 6291456
  | 2 | 5 => 1048576
  | 3 | 4 => 524288
  | 6 => 16384
  | _ => ((s.l2Part sl).map l2Rows).getD 0

/-- 64-bit words that a raw access touches. R170 names a write's words for LKWIDTH 0 and 2; with any other LKWIDTH lanes 0 and 1
are written, as with 0. [DESIGN CHOICE, log 132] -/
def rawCount (n : Nano) : Nat := if n.lkres = 1 || (n.lkres = 2 && n.lkwidth = 2) then 2 else 1

/-- The exception a raw access raises, if any: the lowest of those of R170 and R171 (R123). -/
def State.rawExc (s : State) (sl : Slice) (n : Nano) (addr : Nat) : Option Nat :=
  if 8 ≤ n.lktable then some 6
  else if s.rawSize sl n.lktable < addr + rawCount n then some 4
  else if n.lkres = 2 && n.lktable ≤ 1 then some 6
  else none

/-- The damaged words of LPM node memory among `n` words from an address on, as TABLE and ADDR of R214. -/
def FwdSt.nodeDamage (f : FwdSt) (addr n : Nat) : List (Nat × Nat) :=
  ((List.range n).map (addr + ·)).filterMap fun a => if f.badNodes.any fun x => x.2 = a then some (8, a) else none

/-- The words of a raw read, two for each 64-bit word: a damaged one reads as ones. -/
def rawValue (damaged : List (Nat × Nat)) (table addr : Nat) (l : List Word) : List Word :=
  l.zipIdx.map fun (v, k) => if damaged.contains (table, addr + k / 2) then 0xFFFFFFFF else v

/-- R171: a raw read. Node memory holds a trie whose words are left open. A read of table 7 by the ageing routine age-checks
each word it reads, and returns it as it stood before the mark (R227); a word with a parity error has no age to check. [DESIGN
CHOICE, log 144] -/
def State.rawRead (s : State) (x : CtxId) (n : Nano) (addr : Nat) : Lookup × State :=
  let sl := x.slice
  let m := rawCount n
  if n.lktable ≤ 1 then
    let (l, t) := s.drawWords (2 * m)
    let d := (s.fwd sl).nodeDamage addr m
    ({ words := rawValue d 8 addr l, damaged := d }, t)
  else
    let d := s.damagedWords sl n.lktable addr m
    let words := rawValue d n.lktable addr (s.rawWords sl n.lktable addr m)
    let ager := n.lktable = 7 && s.regB (fwdI sl) R.FWD_AGECFG 15
      && (s.ctx x).entry = 240 + s.regF (fwdI sl) R.FWD_LRNCFG 8 4
    ({ words := words, damaged := d },
      if ager then forAll ((List.range m).map (addr + ·)) (fun r t => if d.contains (7, r) then t else t.ageCheck sl r) s else s)

/-- A raw write of 64-bit words from a key register's lanes. -/
def State.rawWrite (s : State) (sl : Slice) (n : Nano) (addr : Nat) (key : BitVec 128) : State :=
  let win := tblWin n.lktable
  forAll (List.range (rawCount n)) (fun k t =>
    let e := (addr + k) / tblWords n.lktable
    let h := (addr + k) % tblWords n.lktable * 2
    let lane := fun (j : Nat) => key.extractLsb' (32 * (2 * k + j)) 32
    let m := fun (j : Nat) => if n.lktable = 7 then (if j = 0 then 0x03FFFFFF else 0xFFFFFFFF)
      else winMask .fwd win e (h + j)
    ((t.setWinWord (fwdI sl) win (2 * (addr + k)) (lane 0 &&& m 0)).setWinWord (fwdI sl) win (2 * (addr + k) + 1)
      (lane 1 &&& m 1)).unreport sl n.lktable (addr + k)) s

/-! ### Issue (R111, R199) -/

/-- R97, R111: the epoch a context's lookups and range compares use: the packet's. A housekeeping context has no packet, and
the spec names no epoch for it: the current one. [DESIGN CHOICE, log 117] -/
def State.epochOf (s : State) (x : CtxId) : Bool := if isHk x then s.epoch else (s.ctx x).epoch

/-- The result of a lookup as its table stands: `c` is the context before its microword. A raw write changes its word when it
issues, and stands from then on: R172 says so of a complete one, and nothing of one whose routine is abandoned before its WAIT.
[DESIGN CHOICE, log 132] -/
def State.lookUp (s : State) (x : CtxId) (n : Nano) (w : Word) (c : Ctx) : Lookup × State :=
  let sl := x.slice
  let key := lkKey n w c
  if n.priv then
    let addr := (c.reg (mwA n.opf w)).toNat
    if n.lkres = 2 then ({}, s.rawWrite sl n addr (c.key n.lkkey)) else s.rawRead x n addr
  else
  let lpm := fun (v6 : Bool) (bits : Nat) =>
    let (l, d) := s.lpmLookup sl v6 c.tid (key % 2 ^ bits)
    (({ words := l, damaged := d } : Lookup), s)
  let direct := fun (t bits : Nat) =>
    let (l, d) := s.directLookup sl t (key % 2 ^ bits)
    (({ words := l, damaged := d } : Lookup), s)
  match n.lktable with
  | 0 => lpm false 32
  | 1 => lpm true 128
  | 2 => direct 2 20
  | 3 => direct 3 18
  | 4 => direct 4 18
  | 5 => direct 5 20
  | 6 => direct 6 14
  | 7 => (s.macLookup sl n key c, s)
  | 24 =>
    let (l, t) := s.meterLookup x (key % 2 ^ 17)
    ({ words := l }, t)
  | 25 => ({}, s.issueCount x key)
  | 26 => ({}, s.updCtx x fun c => { c with samples := c.samples ++ [(key % 16, decide (key / 16 % 2 = 1))] })
  | t => s.searchLookup sl n (t - 8) key c.tid (s.epochOf x)

/-- The first `m` words of a result; words a table does not give are left open. -/
def State.fitWords (s : State) (l : List Word) (m : Nat) : List Word × State :=
  let (extra, t) := s.drawWords (m - l.length)
  (l.take m ++ extra, t)

/-- R240, R241: the bank slots that a search takes: one in every bank of its partition, and again for each row that failed its
verification, at most three times in all. -/
def searchSlots (w : Option Word) (l : Lookup) : Nat :=
  match w with
  | none => 0
  | some v => partBanks v * min 3 (l.falseRows.length + 1)

/-- R416: count what a lookup does: the lookup, its bank searches, and a table read of FWD. [DESIGN CHOICE, log 124] -/
def State.countLookup (s : State) (x : CtxId) (n : Nano) (tid : Byte) (l : Lookup) : State :=
  let width := if 3 ≤ n.lkwidth then n.lkwidth - 3 else 3
  let part := if n.priv || n.lktable < 7 || 24 ≤ n.lktable then none
    else if n.lktable = 7 then s.l2Part x.slice else s.profilePart x.slice tid (n.lktable - 8) width
  ((s.noteAct x.slice 1 1).noteAct x.slice 2 (searchSlots part l)).noteAct x.slice 3 (if n.lktable ≤ 7 then 1 else 0)

/-- Issue a lookup under its tag. -/
def State.issueLookup (s : State) (x : CtxId) (n : Nano) (w : Word) (c : Ctx) : State :=
  let (l, s) := s.lookUp x n w c
  let s := s.countLookup x n c.tid l
  let (rd, m) := lkDest n w
  let (words, s) := s.fitWords l.words m
  s.updCtx x fun c => { c with
    look := c.look.set! (lkTag n w) (some { l with table := n.lktable, rd := rd, nres := m, words := words }) }

/-! ### Results (R109, R190, R213, R225, R241) -/

/-- R190: add 1 to the hit counter of a row. -/
def State.countHit (s : State) (sl : Slice) (r : Nat) : State :=
  let v := (s.ent (pclI sl) 6 r 0).toNat + (s.ent (pclI sl) 6 r 1).toNat * 2 ^ 32 + 1
  s.setEntry (pclI sl) 6 r 0 [BitVec.ofNat 32 v, BitVec.ofNat 32 (v / 2 ^ 32)]

/-- What the return of a lookup makes visible outside its context. -/
def State.lookupSeen (s : State) (sl : Slice) (l : Lookup) : State :=
  let s := s.falseHits sl l.falseRows l.multi
  let s := if l.mapErr then s.count (asaI sl) R.ASA_MAPERR else s
  let s := match l.countRow with
    | some r => s.countHit sl r
    | none => s
  let s := forAll l.damaged (fun (t, a) u => u.tblParity sl t a) s
  match l.learn with
  | some k => s.learn sl k l.l2row l.l2data
  | none => s

/-- The block whose reset holds a lookup back. -/
def State.tableOn (s : State) (sl : Slice) (t : Nat) : Bool :=
  s.awake sl && !(t ≤ 7 && s.inBlockReset (fwdI sl)) && !(7 ≤ t && t ≤ 23 && s.inBlockReset (asaI sl))

/-- Write the words of a result into its registers. -/
def Ctx.putWords (c : Ctx) (rd : Nat) : List Word → Ctx
  | [] => c
  | v :: r => (c.setReg rd v).putWords (rd + 1) r

end Sys2Proof.Machine
end

