-- ==== Sys2Proof/Machine/Zenrex.lean ====
section
/-! DEFINITION. How one microword executes: fetch, waits, exceptions, effects and the next microword (R89-R92, R106-R135,
R142-R145). -/

namespace Sys2Proof.Machine

/-! ### Store repair (R133, R134) -/

/-- Start the repair of a store word, unless one is in progress. -/
def State.startRepair (s : State) (sl : Slice) (nano : Bool) (idx : Nat) : State :=
  s.updPup sl fun p => if p.repair.isSome then p else { p with repair := some (nano, idx) }

/-! ### Exceptions (R122-R127, R132) -/

/-- An exception ends the run of a context: the record, the reports, and what becomes of the packet or routine. -/
def State.raise (s : State) (x : CtxId) (code nw : Nat) : State :=
  let c := s.ctx x
  let code' := if c.committed then 8 else code
  let s := s.machineCheck x code' nw
  let s := if code = 1 then s.startRepair x.slice false c.pc.toNat
    else if code = 2 then (s.startRepair x.slice true nw).noteFault (srcOf 2 x.slice) else s
  if c.committed then (s.loseTail x).noteFault (srcOf 1 x.slice) (pupGroup x.pup.val) else s.abandon x code'

/-! ### Results of lookups (R109, R164) -/

/-- A lookup's result is written, and its tag is free; a bus error instead raises 0x04 (R164). [DESIGN CHOICE, log 35] -/
def execLookupResult (x : CtxId) (tag : Fin 4) (busError : Bool) (s : State) : Out :=
  s.done (match (s.ctx x).look[tag] with
    | none => s
    | some l =>
      if busError then (if (s.ctx x).running then s.raise x 4 (s.nwAt x) else s)
      else if !s.tableOn x.slice l.table then s
      else (s.updCtx x fun c =>
        { c.putWords l.rd l.words with look := c.look.set! tag.val none }).lookupSeen x.slice l)

/-! ### Waits (R106, R109, R110, R113) -/

/-- R94: the result of the ALU goes somewhere: to a register, MD, RD or a flag. -/
def Nano.resUsed (n : Nano) : Bool :=
  n.dstsel ≠ 0 || (n.mdwe && n.mdfield ≠ 0) || (n.rdwe && n.rdsize ≠ 3) || n.flagmask ≠ 0

/-- R95: the operation uses operand A, and operand B. -/
def Nano.usesA (n : Nano) : Bool := (n.resUsed && n.aluop ≠ 15) || n.cmpop ≠ 0
def Nano.usesB (n : Nano) : Bool := (n.resUsed && n.aluop ≠ 0) || (n.cmpop ≠ 0 && n.cmpop ≠ 13)

/-- R117: a MODE that takes its TID from w[RA]. -/
def takesTid (n : Nano) (w : Word) : Bool := n.modeen && n.modetidreg && mwImm12 n.opf w / 1024 % 2 = 0

/-- R110: the `w` registers that a microword's operation reads or writes, of those the rule lists. A register that an operand
field names and the operation does not use, and one whose field the format does not hold, is neither read nor written.
[DEDUCED, log 33] -/
def mwRegs (n : Nano) (w : Word) : List Nat :=
  let d := mwD n.opf w
  let on := fun (b : Bool) (r : Nat) => if b then [r % 16] else []
  let hasA := decide (n.opf ≤ 1)
  let hasD := n.opf ≠ 3
  on (hasA && ((n.asel = 0 && n.usesA) || n.xoffsrc = 3 || (n.xdir && n.xoffsrc ≠ 0) || takesTid n w || (n.lken && n.priv)))
      (mwA n.opf w)
    ++ on (hasD && ((n.asel = 1 && n.usesA) || n.dstsel = 1 || (n.cmpop ≠ 0 && n.cmpdst = 1) || (n.rdwe && n.rdsize = 3))) d
    ++ on (hasD && n.rdwe && n.rdsize = 3) (d + 1)
    ++ on (n.opf = 0 && n.bsel = 0 && n.usesB) (mwB n.opf w)
    ++ (if n.lken && hasA && !n.priv then lkKeyRegs n w else [])
    ++ (if n.lken && hasD then (List.range (lkDest n w).2).map ((lkDest n w).1 + ·) else [])
    ++ on (n.opf = 3 && n.brcond = 14) (mwAux n.opf w)
    ++ on (n.opf = 3 && n.loopctl = 1 && n.loopcntsrc) (mwTgt n.opf w)

/-- The registers that outstanding lookups will write. -/
def Ctx.locked (c : Ctx) : List Nat :=
  c.look.toList.flatMap fun l => match l with
    | none => []
    | some l => (List.range l.nres).map (l.rd + ·)

/-- The tag has a lookup outstanding. -/
def Ctx.outstanding (c : Ctx) (tag : Nat) : Bool := (c.look[tag % 4]!).isSome

/-- The microword waits. -/
def stalled (n : Nano) (w : Word) (c : Ctx) : Bool :=
  let waits := if n.waitmw then fld w 0 4 else n.waitmask
  (mwRegs n w).any (fun r => c.locked.contains r)
    || (n.lken && c.outstanding (lkTag n w))
    || (List.range 4).any (fun t => waits.testBit t && c.outstanding t)
    || (n.commit && (List.range 4).any c.outstanding)

/-! ### Exceptions of a microword (R119-R123, R155, R164) -/

/-- R121, R98: the nanoword is illegal or misplaced: code 0x06. R94 calls SAFE and YIELD privileged: either with PRIV 0 in a
packet context is held illegal there as PRIV 1 is. [DEDUCED, log 117] -/
def misplaced (n : Nano) (c : Ctx) (hk : Bool) : Bool :=
  let inSlot := c.slot.isSome
  let inShadow := c.shadow.isSome
  let last := c.loops.any fun l => decide (l.last = c.pc)
  let jump := n.brcond ≠ 0 || n.loopctl = 1
  let ends := n.commit || n.fin || n.drop
  !n.legal hk || ((n.safe || n.yield) && !hk)
    || (inSlot && (!n.dslotok || jump || ends || n.safe))
    || (inShadow && (n.modeen || ends))
    || (last && (jump || n.modeen || ends)) || (n.commit && c.loops ≠ [])
    || (n.lken && !n.priv && (n.lktable = 25 || n.lktable = 26) && !c.committed)

/-- R119: the microword may not run after COMMIT: code 0x08. -/
def badTail (n : Nano) (c : Ctx) : Bool :=
  c.committed && (!n.tailok || n.rdwe || n.modeen || n.commit || n.drop || n.loopctl ≠ 0
    || (n.lken && n.lktable ≠ 25 && n.lktable ≠ 26) || (8 ≤ c.tail && !n.fin))

/-! ### Operation (the order of "How a microword executes") -/

/-- Little-endian bytes into a table of 64 bytes: those beyond byte 63 are discarded (R166). -/
def putBytes (t : Tbl Byte) (off : Nat) (l : List Byte) : Tbl Byte :=
  l.zipIdx.foldl (fun t (b, k) => if off + k < 64 then t.set (off + k) b else t) t

/-- R91, R94: a write of the result to MDFIELD. -/
def putMd (c : Ctx) (field : Nat) (v : Word) : Ctx :=
  match field with
  | 0 => c
  | 1 => { c with md := c.md.set 25 (BitVec.ofNat 8 (min 2 (fld v 0 2))) }
  | 2 => { c with md := c.md.set 26 (BitVec.ofNat 8 (fld v 0 2)) }
  | f => { c with md := putBytes c.md (32 + 4 * (f - 3)) (leBytes 4 v.toNat) }

/-- The operands A and B. -/
def operands (n : Nano) (w : Word) (c : Ctx) : Word × Word :=
  let x := extracted n w c
  (match n.asel with
    | 0 => c.reg (mwA n.opf w)
    | 1 => c.reg (mwD n.opf w)
    | 2 => x
    | _ => n.const,
   match n.bsel with
    | 0 => c.reg (mwB n.opf w)
    | 1 => immOf n w false
    | 2 => immOf n w true
    | _ => x)

/-- R94: what a microword stores in RD: the result, or w[RD] then w[RD+1]. The spec does not say whether w[RD] is read
before or after the same microword writes it by DSTSEL 1: it is read before [DESIGN CHOICE, log 117]. Nor does it name w[RD+1]
for RD = 15: it is w0. [DESIGN CHOICE, log 132] -/
def rdBytes (n : Nano) (w : Word) (c : Ctx) (res : Nat) : List Byte :=
  match n.rdsize with
  | 0 => leBytes 1 res
  | 1 => leBytes 2 res
  | 2 => leBytes 4 res
  | _ => leBytes 4 (c.reg (mwD n.opf w)).toNat ++ leBytes 4 (c.reg (mwD n.opf w + 1)).toNat

/-- The effect of a microword on the registers, windows, MD and RD of its context; `lo`, `hi` is its range pair. -/
def operate (n : Nano) (w : Word) (lo hi : Word) (c : Ctx) : Ctx :=
  let wd := aluBits n.width
  let (a, b) := operands n w c
  let a' := a.toNat % 2 ^ wd
  let b' := b.toNat % 2 ^ wd
  let o := alu n.aluop wd a' b' c.c
  let cmp := compare n.cmpop wd a' b' lo hi
  let cmpZ := n.cmpop ≠ 0 && n.cmpdst = 0
  let d := mwD n.opf w
  let res := BitVec.ofNat 32 o.res
  let t := if n.cmpop = 0 then c else match n.cmpdst with
    | 0 => { c with z := cmp }
    | 1 => c.setReg d (setBit (c.reg d) (n.cmpbit % 32) cmp)
    | _ => c.setKeyBits n.lkkey n.cmpbit 1 (if cmp then 1 else 0)
  let t := setFlags t n.flagmask wd cmpZ o
  let t := if n.xdir && n.xoffsrc ≠ 0 then
      let u := deposit n w c (c.reg (mwA n.opf w))
      { t with scratch := u.scratch, frameView := u.frameView, hwBad := u.hwBad }
    else t
  let t := match n.dstsel with
    | 0 => t
    | 1 => t.setReg d res
    | 2 => t.setKeyBits n.lkkey (32 * n.klane) 32 o.res
    | _ => { t with hp := BitVec.ofNat 8 o.res }
  let t := if n.rdwe then { t with rd := putBytes t.rd (if n.rdoffmw then mwOff n.opf w % 64 else n.rdoff) (rdBytes n w c o.res) }
    else t
  if n.mdwe then putMd t n.mdfield res else t

/-! ### Control flow (R114-R117) -/

/-- The target of a branch. -/
def target (n : Nano) (w : Word) (c : Ctx) : BitVec 14 :=
  if n.brcond = 14 then (c.reg (mwAux n.opf w)).setWidth 14 else BitVec.ofNat 14 (mwTgt n.opf w)

/-- A microword index lies in a loop body. -/
def Loop.holds (l : Loop) (pc : BitVec 14) : Bool := decide (pc - l.first ≤ l.last - l.first)

/-- R116: a taken branch ends the loops that its target leaves. -/
def leaveLoops (pc : BitVec 14) : List Loop → List Loop
  | [] => []
  | [o] => if o.holds pc then [o] else []
  | o :: i :: _ => if i.holds pc then [o, i] else if o.holds pc then [o] else []

/-- Set the loops, the counters of ended ones returning to 0: the spec does not say what a counter holds once a taken branch
has ended its loop. [DESIGN CHOICE, log 117] -/
def Ctx.setLoops (c : Ctx) (l : List Loop) : Ctx :=
  { c with loops := l, lc0 := if l.length = 0 then 0 else c.lc0, lc1 := if l.length < 2 then 0 else c.lc1 }

/-- The outer loop's step in sequence. -/
def Ctx.advanceOuter (c : Ctx) (o : Loop) : Ctx :=
  if c.pc ≠ o.last then { c with pc := c.pc + 1 }
  else if c.lc0.toNat ≤ 1 then { c.setLoops [] with pc := c.pc + 1 }
  else { c with lc0 := c.lc0 - 1, pc := o.first }

/-- R116: the next microword in sequence; a loop body that ends is repeated while its counter is not 0. Where an inner body
reaches past the outer body's last microword, that one executes inside the inner loop, and the outer loop goes on undecremented.
[DESIGN CHOICE, log 132] -/
def Ctx.advance (c : Ctx) : Ctx :=
  match c.loops with
  | [] => { c with pc := c.pc + 1 }
  | [o] => c.advanceOuter o
  | o :: i :: _ =>
    if c.pc ≠ i.last then { c with pc := c.pc + 1 }
    else if c.lc1.toNat ≤ 1 then (c.setLoops [o]).advanceOuter o
    else { c with lc1 := c.lc1 - 1, pc := i.first }

/-- R116: LOOP. -/
def Ctx.loop (c : Ctx) (count : BitVec 14) (body : Nat) : Ctx :=
  let last := c.pc + 1 + BitVec.ofNat 14 body
  if count = 0 then { c with pc := last + 1 }
  else
    let l : Loop := ⟨c.pc + 1, last⟩
    let c := if c.loops = [] then { c with lc0 := count } else { c with lc1 := count }
    { c with loops := c.loops ++ [l], pc := c.pc + 1 }

/-- R117: TID and VIEW after a MODE. -/
def modeOf (n : Nano) (w : Word) (c : Ctx) : Byte × Bool :=
  let i := mwImm12 n.opf w
  let tid := if n.modetidreg then (c.reg (mwA n.opf w)).setWidth 8 else BitVec.ofNat 8 i
  (if i / 1024 % 2 = 1 then c.tid else tid, if i / 2048 % 2 = 1 then c.view else decide (i / 256 % 2 = 1))

/-- The next microword, the delay slot, the loops and the mode shadow after microword `w`; `c0` is the context before it
(R143). The spec gives no meaning to BRCOND and LOOPCTL in one nanoword: the loop starts, or its body is skipped, and the branch
is taken after the next microword. [DESIGN CHOICE, log 139] -/
def sequence (n : Nano) (w : Word) (c0 c : Ctx) : Ctx :=
  let c := match c.shadow with
    | none => c
    | some (t, v) => { c with tid := t, view := v, md := c.md.set 24 t, shadow := none }
  let c := if n.modeen then { c with shadow := some (modeOf n w c0) } else c
  match c0.slot with
  | some (some tgt) => { c.setLoops (leaveLoops tgt c.loops) with pc := tgt, slot := none }
  | _ =>
    let c := if n.brcond = 0 then { c with slot := none }
      else { c with slot := some (if branchTaken n.brcond c0 then some (target n w c0) else none) }
    if n.loopctl = 1 then
      c.loop (if n.loopcntsrc then (c0.reg (mwTgt n.opf w)).setWidth 14 else BitVec.ofNat 14 (mwTgt n.opf w))
        (mwAux n.opf w)
    else c.advance

/-! ### COMMIT, END, DROP, SAFE and YIELD (R92, R118-R120, R130, R169, R183) -/

/-- R92: RD as COMMIT emits it. -/
def Ctx.emitted (c : Ctx) : List Byte :=
  let p := (List.range 48).map fun k => if k = 11 then 0 else c.rd.get k
  p ++ [c.tid, c.md.get 0, BitVec.ofNat 8 ((if c.epoch then 1 else 0) + if c.restarted then 2 else 0), 0]
    ++ (List.range 4).map (fun k => c.md.get (20 + k)) ++ (List.range 8).map fun k => c.md.get (8 + k)

/-- COMMIT of a context whose operands are done: a descriptor whose sequence number was skipped is discarded (R183). -/
def State.commitCtx (s : State) (x : CtxId) : State :=
  let c := s.ctx x
  let s := s.updCtx x fun c => { c with committed := true, charges := [], cycles := if isHk x then 0 else c.cycles }
  if isHk x then s else
  let d : Desc := { fid := c.fid, rd := c.emitted, mdLen := c.mdLen, lenFinal := c.lenFinal, commitAt := s.time }
  match s.slotOf x.slice c.fid with
  | none => s
  | some r => match r.st with
    | .skipped => ((s.count (pclI x.slice) R.PCL_ROBLATE).freeSlot x.slice c.fid).freeIngress c.fid
    | _ => s.setSlot x.slice c.fid (.committed d)

/-- R119, R120, R181: the program ends. Requests still not accepted are discarded (R360), and so is one that the nanoword of
END itself has issued into a full queue: END does not wait for it. [DESIGN CHOICE, log 139] -/
def State.endProgram (s : State) (x : CtxId) : State :=
  let c := s.ctx x
  let (left, s) := s.pushCounts x.slice c.tailReqs
  let s := forAll left (fun _ t => t.dropCount x.slice) s
  if isHk x then
    (s.updPup x.slice fun p => { p with abandons := p.abandons.set (c.entry - 240) 0 }).endCtx x
  else if c.committed then
    let s := match s.slotOf x.slice c.fid with
      | some r => match r.st with
        | .committed d => s.setSlot x.slice c.fid (.ready { d with samples := c.samples })
        | _ => s
      | none => s
    s.endCtx x
  else ((s.count (pupI x.slice) R.PUP_PDROP 0 16).endCtx x).dropPacket x.slice c.fid

/-- R130: a request to suspend is pending at SAFE for the routine of a housekeeping context. The host preempts a routine by
clearing its HK_EN. [DEDUCED, log 36] -/
def State.safePending (s : State) (x : CtxId) : Bool :=
  let p := s.pup x.slice
  let n := (s.ctx x).entry - 240
  p.preempt || p.freeze || !s.regB (pupI x.slice) R.PUP_CTRL (8 + n) || s.withheld x.slice n

/-- SAFE, YIELD, COMMIT and END or DROP of a microword whose other effects are done; `c0` is the context before it. R120 does
not say what COMMIT and DROP in one nanoword do: the packet is committed and the program ends, and nothing is dropped.
[DESIGN CHOICE, log 139] -/
def State.finishMw (s : State) (x : CtxId) (n : Nano) (c0 : Ctx) : State :=
  let s := if n.commit then s.commitCtx x else s
  if n.fin || n.drop then s.endProgram x
  else
    let idle := c0.shadow.isSome || c0.loops.any fun l => decide (l.last = c0.pc)
    let s := if n.safe && !idle then s.updCtx x fun c => { c with cycles := 0, suspended := s.safePending x } else s
    if n.yield then s.updCtx x fun c => { c with cycles := 0, suspended := true, yielded := true } else s

/-! ### One microword -/

/-- R86: a context can issue: its program runs, and its slice fetches. The round robin among the ready contexts of a pup is
the order in which their microwords are commanded. [DESIGN CHOICE, log 119] -/
def State.canIssue (s : State) (x : CtxId) : Bool :=
  (s.ctx x).running && !(s.ctx x).suspended && (s.pup x.slice).repair.isNone && s.awake x.slice
    && !(s.pup x.slice).groupReset.contains (pupGroup x.pup.val) && !s.inBlockReset (pupI x.slice) && x.wf

/-- R118: COMMIT of a packet meets a reserved ACTION. A housekeeping routine's COMMIT emits nothing (R169), and none is
raised there. [DEDUCED, log 117] -/
def badAction (x : CtxId) (n : Nano) (c : Ctx) : Bool := n.commit && !isHk x && decide (3 < (c.rd.get 0).toNat)

/-- The context after the operation of a microword at its pc. -/
def State.operated (s : State) (x : CtxId) (n : Nano) (w : Word) : Ctx :=
  let e := if s.epochOf x then 1 else 0
  let pair := fun (k : Nat) => s.ent (pclI x.slice) e n.rcsel k
  operate n w (pair 0) (pair 1) (s.ctx x)

/-- The exceptions of a microword that issues, apart from those of its fetch. -/
def State.excs (s : State) (x : CtxId) (n : Nano) (w : Word) : List Nat :=
  let c := s.ctx x
  (if xOverrun n w c then [3] else [])
    ++ (if misplaced n c (isHk x) || badAction x n (s.operated x n w) then [6] else [])
    ++ (if n.loopctl = 1 && 2 ≤ c.loops.length then [7] else [])
    ++ (if badTail n c then [8] else [])
    ++ (if xParity n w c then [9] else [])
    ++ (if n.lken && n.priv then (s.rawExc x.slice n (c.reg (mwA n.opf w)).toNat).toList else [])

/-- R391, R416: count a microword that issues: those of housekeeping contexts by themselves too, an issue cycle for a packet's.
[DESIGN CHOICE, log 124] -/
def State.countMw (s : State) (x : CtxId) : State :=
  (s.noteAct x.slice 0 1).noteAct x.slice (if isHk x then 11 else 13) 1

/-- The microword issues with no exception. [DESIGN CHOICE, log 34] -/
def State.issueMw (s : State) (x : CtxId) (n : Nano) (w : Word) : State :=
  let c0 := s.ctx x
  let s := (s.countMw x).setCtx x (s.operated x n w)
  let s := if n.lken then s.issueLookup x n w c0 else s
  let s := s.updCtx x fun c =>
    { sequence n w c0 c with cycles := c.cycles + 1, tail := if c0.committed then c.tail + 1 else 0 }
  s.finishMw x n c0

/-- R108, R131: the count at which a context's watchdog expires. -/
def watchdogLimit (x : CtxId) : Nat := if isHk x then 4096 else 1024

/-- R108, R131: the watchdog of a context counts: a packet's until its COMMIT, a routine's always. A program that END or DROP
ends in the very cycle that brings the count to its limit has ended, and raises nothing [DESIGN CHOICE, log 132]. Nor does a
COMMIT of a packet whose own issue cycle brings it there. [DESIGN CHOICE, log 139] -/
def State.watched (s : State) (x : CtxId) : Bool := (s.ctx x).running && (isHk x || !(s.ctx x).committed)

/-- R108, R131: the exception of a watchdog whose count has reached its limit. [DESIGN CHOICE, log 34] -/
def State.checkWatchdog (s : State) (x : CtxId) (nw : Nat) : State :=
  if s.watched x && watchdogLimit x ≤ (s.ctx x).cycles then s.raise x 5 nw else s

/-- A cycle in which a context is blocked. -/
def State.block (s : State) (x : CtxId) : State := s.updCtx x fun c => { c with cycles := c.cycles + 1 }

/-- R119: END waits while tail requests are not accepted, at most 16 cycles: they are offered again, and the context is
blocked. -/
def State.endWaits (s : State) (x : CtxId) (n : Nano) : Option State :=
  let c := s.ctx x
  let (left, t) := s.pushCounts x.slice c.tailReqs
  if !n.fin || left = [] || 16 ≤ c.endWait then none
  else some ((t.updCtx x fun c => { c with tailReqs := left, endWait := c.endWait + 1 }).block x)

/-- A microword `w` of nanoword `n` at the pc of a context. [DEDUCED, log 32] -/
def State.runMw (s : State) (x : CtxId) (n : Nano) (w : Word) : State :=
  let idx := fld w 20 12
  if !s.canIssue x then s
  else if s.badWord (pupI x.slice) 0 (s.ctx x).pc.toNat then s.raise x 1 idx
  else if s.badEntry (pupI x.slice) 1 idx then s.raise x 2 idx
  else if stalled n w (s.ctx x) then (s.block x).checkWatchdog x idx
  else match lowest (s.excs x n w) with
    | some code => s.raise x code idx
    | none => match s.endWaits x n with
      | some t => t
      | none => (s.issueMw x n w).checkWatchdog x idx

end Sys2Proof.Machine
end

