-- ==== Sys2Proof/Machine/Pcl.lean ====
section
/-! DEFINITION. The pup array and its assignment: packets and restarts, watchdogs, store repair and scrub, PUP_CTRL, and
the reorder buffer (R99-R105, R124, R128-R135, R177-R183). -/

namespace Sys2Proof.Machine

/-! ### Assignment (R101, R124, R177-R179) -/

/-- R177: a free context of a pup, of which the rule names none: the lowest-numbered one. [DESIGN CHOICE, log 133] -/
def State.freeCtx (s : State) (sl : Slice) (pup : Nat) : Option CtxId :=
  ((List.range 8).map fun c => (⟨sl, Fin.ofNat 388 pup, Fin.ofNat 8 c⟩ : CtxId)).find? fun x => !(s.ctx x).running

/-- R177: the next pup, round robin, with a free context and its group not under reset, other than `except`. -/
def State.nextCtx (s : State) (sl : Slice) (except : Option Nat) : Option CtxId :=
  let p := s.pup sl
  firstSome (fun k =>
    let pup := (p.rr + 1 + k) % 384
    if p.groupReset.contains (pupGroup pup) || except = some pup then none else s.freeCtx sl pup) (List.range 384)

/-- R519: PCL assigns, and restarts begin. -/
def State.assigns (s : State) (sl : Slice) : Bool :=
  s.awake sl && !s.inBlockReset (pupI sl) && !s.inBlockReset (pclI sl) && !s.inBlockReset (fwdI sl)
    && !s.inBlockReset (asaI sl)

/-- R101: a frame dropped at assignment. -/
def State.dropNoProg (s : State) (sl : Slice) (fid : Nat) : State :=
  (s.count (pupI sl) R.PUP_PDROP 16 16).freeIngress fid

/-- Assign a frame to a context under a profile. -/
def State.assignTo (s : State) (sl : Slice) (fid profile : Nat) (x : CtxId) : State :=
  let lp := (s.frame fid).inport.val % 64
  let seq := (s.pcl sl).seqs.get lp
  let bank := s.regB (pupI sl) R.PUP_CTRL 1
  let s := s.updPcl sl fun p => { p with seqs := p.seqs.set lp (seq + 1) }
  let s := s.addSlot sl ⟨lp, seq, s.epoch, fid, .open⟩
  let s := (s.updPup sl fun p => { p with rr := x.pup.val }).noteAct sl 12 1
  s.startIn x (packetCtx (s.frame fid) fid (s.entryWord sl bank profile) bank profile seq s.epoch false)

/-- The oldest waiting frame is assigned, dropped, or waits. -/
def State.assign (s : State) (sl : Slice) (fid : Nat) (rest : List Nat) : State :=
  let profile := fld (s.ent (pclI sl) 2 ((s.frame fid).inport.val % 64) 0) 0 8
  let t := s.updPcl sl fun p => { p with waiting := rest }
  if (s.frame fid).gone then t.rstDrop 1
  else if !s.regB (pupI sl) R.PUP_CTRL 0 || 240 ≤ profile
      || !bit (s.entryWord sl (s.regB (pupI sl) R.PUP_CTRL 1) profile) 14 then t.dropNoProg sl fid
  else if 4096 ≤ (s.pcl sl).rob.length then s
  else match s.nextCtx sl none with
    | none => s
    | some x => t.assignTo sl fid profile x

/-- R134: a packet that met an error of a store restarts after the repair. -/
def State.restartHeld (s : State) (sl : Slice) (r : Restart) : Bool := r.metError && (s.pup sl).repair.isSome

/-- R177: the oldest restart that can begin goes before any new frame; one that cannot lets those behind it pass. With it come the
restarts that are left, and its context. [DEDUCED, log 118] -/
def State.restartReady (s : State) (sl : Slice) : Option (Restart × List Restart × CtxId) :=
  let l := (s.pup sl).restarts
  firstSome (fun k => l[k]?.bind fun r =>
    if s.restartHeld sl r then none else (s.nextCtx sl (some r.notPup)).map fun x => (r, l.eraseIdx k, x)) (List.range l.length)

/-- R178: PACKET_ASSIGN. -/
def execPacketAssign (sl : Slice) (s : State) : Out :=
  s.done (if !s.assigns sl || (s.restartReady sl).isSome then s else
    match (s.pcl sl).waiting with
    | [] => s
    | f :: rest => s.assign sl f rest)

/-- R124, R125: the oldest abandoned packet restarts on another pup. -/
def execPacketRestart (sl : Slice) (s : State) : Out :=
  s.done (if !s.assigns sl then s else
    match s.restartReady sl with
    | none => s
    | some (r, rest, x) =>
      let s := (s.updPup sl fun p => { p with restarts := rest, rr := x.pup.val }).count (pupI sl) R.PUP_RESTART
      s.startIn x (packetCtx (s.frame r.fid) r.fid (s.entryWord sl r.bank r.entry) r.bank r.entry r.seq r.epoch true))

/-! ### Watchdogs and lookup timeouts (R108, R109, R131) -/

/-- The count of a context's watchdog can have reached its limit: it has, or the context has a lookup outstanding and may
have been blocked between its microwords. [DESIGN CHOICE, log 34] -/
def State.mayExpire (s : State) (x : CtxId) : Bool :=
  s.watched x && (watchdogLimit x ≤ (s.ctx x).cycles || (s.ctx x).look.any Option.isSome)

/-- R108: WATCHDOG_EXPIRY. -/
def execWatchdogExpiry (x : CtxId) (s : State) : Out :=
  s.done (if isHk x || !s.mayExpire x then s else s.raise x 5 (s.nwAt x))

/-- R131: HK_WATCHDOG_EXPIRY. -/
def execHkWatchdogExpiry (x : CtxId) (s : State) : Out :=
  s.done (if !isHk x || (s.ctx x).suspended || !s.mayExpire x then s else s.raise x 5 (s.nwAt x))

/-- R109: LOOKUP_TIMEOUT. -/
def execLookupTimeout (x : CtxId) (tag : Fin 4) (s : State) : Out :=
  s.done (if !(s.ctx x).running || (s.ctx x).look[tag].isNone then s else s.raise x 4 (s.nwAt x))

/-! ### Stores (R99, R103, R133-R135, R141) -/

/-- Store an entry of a PUP window, with the parity injection of R141. The spec does not say which of a nanoword's eight
words the injected error falls on: the first. The write that ends a repair uses up no injection. [DESIGN CHOICE, log 118] -/
def State.storePup (s : State) (sl : Slice) (win idx : Nat) (words : List Word) : State :=
  let t := s.setEntry (pupI sl) win idx 0 words
  let hit := (win = 0 && (s.pup sl).injMw) || (win = 1 && (s.pup sl).injNw)
  if !hit then t else
  let t := t.updPup sl fun p => { p with
    injMw := p.injMw && win ≠ 0, injNw := p.injNw && win ≠ 1 }
  { t with bad := t.bad.set (winKey (pupI sl) win (idx * winWords (pupI sl) win)) true }

/-- R134: a write to the word under repair is held until the repair ends. -/
def State.writeStore (s : State) (sl : Slice) (win idx : Nat) (words : List Word) : State :=
  if (s.pup sl).repair = some (decide (win = 1), idx) && win ≤ 1 then
    s.updPup sl fun p => { p with heldWrites := p.heldWrites ++ [(win, idx, words)] }
  else s.storePup sl win idx words

/-- The other slices in the order of R134. -/
def repairOrder (sl : Slice) : List Slice := [sl + 1, sl + 2, sl + 3]

/-- R134, R135: the end of the repair of a word. -/
def State.repairEnd (s : State) (sl : Slice) (nano : Bool) (idx : Nat) : State :=
  let win := if nano then 1 else 0
  match (repairOrder sl).find? fun k => !s.badEntry (pupI k) win idx with
  | some k =>
    let s := s.setEntry (pupI sl) win idx 0 (s.entry (pupI k) win idx)
    let s := s.count (pupI sl) R.PUP_REPAIR 16 16
    (s.setRegB (pupI sl) R.PUP_REPAIR 14 nano).setRegF (pupI sl) R.PUP_REPAIR 0 14 idx
  | none => (s.setRegB (pupI sl) R.PUP_REPAIR 15 true).noteFault (srcOf 4 sl)

/-- R134: STORE_REPAIR_COMPLETE. -/
def execStoreRepairComplete (sl : Slice) (s : State) : Out :=
  s.done (match (s.pup sl).repair with
    | none => s
    | some (nano, idx) =>
      let held := (s.pup sl).heldWrites
      let s := (s.repairEnd sl nano idx).updPup sl fun p => { p with repair := none, heldWrites := [] }
      forAll held (fun (w, e, l) t => t.storePup sl w e l) s)

/-- R133: PUP_SCRUB_CHECK. -/
def execPupScrubCheck (sl : Slice) (nano : Bool) (idx : Fin 16384) (s : State) : Out :=
  s.done (if s.awake sl && !s.inBlockReset (pupI sl) && s.regB (pupI sl) R.PUP_CTRL 2
      && s.badEntry (pupI sl) (if nano then 1 else 0) idx.val then s.startRepair sl nano idx.val else s)

/-! ### PUP_CTRL (R101, R104, R141) -/

/-- A write of PUP_CTRL. -/
def State.writePupCtrl (s : State) (sl : Slice) (v : Word) : State :=
  let i := pupI sl
  let old := s.reg i R.PUP_CTRL
  let bank := bit v 1
  let asks := (bit v 0 && !bit old 0) || (bank != bit old 1)
  let refused := asks && !s.regB i R.PUP_STAT (if bank then 2 else 1)
  let kept := if refused then setFld v 0 2 (fld old 0 2) else v
  let s := (s.plainWrite i R.PUP_CTRL kept).updPup sl fun p => { p with
    injMw := p.injMw || bit v 3, injNw := p.injNw || bit v 4 }
  if refused then s.setRegB i R.PUP_STAT 5 true else s.syncBusy sl

/-- A host write of PUP_CTRL. -/
def State.hostPupCtrl (s : State) (inst : Fin 16) (v : Word) : State :=
  s.accessSlices .pup inst { inst := ⟨.pup, inst⟩, off := R.PUP_CTRL, value := some v } fun sl t => t.writePupCtrl sl v

/-- R101: EBANK_WRITE. -/
def execEbankWrite (inst : Fin 16) (v : Word) (s : State) : Out :=
  s.done (s.hostPupCtrl inst v)

/-- R104: RUN_WRITE. -/
def execRunWrite (inst : Fin 16) (v : Word) (s : State) : Out :=
  s.done (s.hostPupCtrl inst v)

/-- R141: PARITY_INJECT_NW. -/
def execParityInjectNw (inst : Fin 16) (v : Word) (s : State) : Out :=
  s.done (s.hostPupCtrl inst v)

/-- R141: PARITY_INJECT_MW. -/
def execParityInjectMw (inst : Fin 16) (v : Word) (s : State) : Out :=
  s.done (s.hostPupCtrl inst v)

/-! ### The reorder buffer (R179-R183) -/

/-- R179: the ORDER bit of a local port. -/
def State.ordered (s : State) (sl : Slice) (lp : Nat) : Bool := bit (s.ent (pclI sl) 2 lp 0) 8

/-- Release a descriptor to the switch core. -/
def State.releaseDesc (s : State) (sl : Slice) (d : Desc) : State :=
  (s.updSwc sl fun x => { x with descs := x.descs ++ [d] }).freeSlot sl d.fid

/-- The slots of a local port, in sequence order. -/
def State.portSlots (s : State) (sl : Slice) (lp : Nat) : List Slot := (s.pcl sl).rob.filter fun r => r.lp = lp

/-- R181: the descriptor of a port that is releasable. [DEDUCED, log 38] -/
def State.releasableDesc (s : State) (sl : Slice) (lp : Nat) : Option Desc :=
  let ready := fun (r : Slot) => match r.st with
    | .ready d => some d
    | _ => none
  if s.ordered sl lp then ((s.portSlots sl lp).filter fun r => r.st ≠ .skipped).head?.bind ready
  else ((s.portSlots sl lp).filterMap ready).head?

/-- R181: DESCRIPTOR_RELEASE. -/
def execDescriptorRelease (sl : Slice) (lp : Fin 64) (s : State) : Out :=
  s.done (match s.releasableDesc sl lp.val with
    | none => s
    | some d => s.releaseDesc sl d)

/-- R182: the committed descriptor of a port that has waited longest. -/
def State.oldestCommitted (s : State) (sl : Slice) (lp : Nat) : Option Desc :=
  match (s.portSlots sl lp).filterMap (s.slotDesc sl) with
  | [] => none
  | d :: l => some (l.foldl (fun m e => if e.commitAt < m.commitAt then e else m) d)

/-- R182: a slot below the one that has timed out: released where committed, else skipped. -/
def State.timeoutSlot (s : State) (sl : Slice) (r : Slot) : State :=
  match s.slotDesc sl r with
  | some d => s.releaseDesc sl d
  | none =>
    if r.st = .skipped then s
    else ((s.setSlot sl r.fid .skipped).count (pclI sl) R.PCL_ROBSKIP).event (pclI sl) 4

/-- R182: ROB_TIMEOUT. -/
def execRobTimeout (sl : Slice) (lp : Fin 64) (s : State) : Out :=
  s.done (match s.oldestCommitted sl lp.val with
    | none => s
    | some d =>
      if s.ordered sl lp.val then
        forAll ((s.portSlots sl lp.val).takeWhile (fun r => r.fid ≠ d.fid)) (fun r t => t.timeoutSlot sl r) s
          |>.releaseDesc sl d
      else s.releaseDesc sl d)

end Sys2Proof.Machine
end

