-- ==== Sys2Proof/Machine/Rwr.lean ====
section
/-! DEFINITION. Rewrite: edit lists, the ECN mark, and the egress frame check sequence (R251-R263). -/

namespace Sys2Proof.Machine

abbrev rwrI (sl : Slice) : InstId := slInst .rwr sl

/-! ### Edit lists (R253-R256) -/

def editOp (w : Word) : Nat := fld w 0 4
def editOff (w : Word) : Nat := fld w 4 8
def editLen (w : Word) : Nat := fld w 12 8
def editSrc (w : Word) : Bool := bit w 20
def editSoff (w : Word) : Nat := fld w 21 7

/-- The edits of a list of 17 words. -/
def edits (l : List Word) : List Word := (l.drop 1).take (fld (l[0]?.getD 0) 12 5)

/-- R255: the bytes an edit covers, as first byte and length; an INSERT covers none. -/
def editRange (w : Word) : Nat × Nat :=
  match editOp w with
  | 1 | 3 => (editOff w, editLen w)
  | 4 => (editOff w, 1)
  | 5 => (editOff w, 2)
  | _ => (editOff w, 0)

/-- Byte `k` lies in the range of an edit. -/
def editCovers (w : Word) (k : Nat) : Bool := (editRange w).1 ≤ k && decide (k < (editRange w).1 + (editRange w).2)

/-- R256: an edit by itself, for a head of `h` bytes. -/
def editOk (h : Nat) (w : Word) : Bool :=
  let op := editOp w
  let len := editLen w
  1 ≤ op && decide (op ≤ 5) && fld w 28 4 = 0 &&
    (3 < op || (1 ≤ len && decide (len ≤ 128))) &&
    (if op = 2 then decide (editOff w ≤ h) else decide ((editRange w).1 + (editRange w).2 ≤ h)) &&
    (2 < op || decide (editSoff w + len ≤ if editSrc w then 32 else 128)) &&
    (op ≠ 5 || 10 ≤ editOff w)

/-- R256: `v` may follow `w` in a list: offsets ascend, ranges do not overlap, an INSERT comes first at its offset. -/
def editAfter (w v : Word) : Bool :=
  if editOp w = 2 then (if editOp v = 2 then editOff w < editOff v else editOff w ≤ editOff v)
  else decide ((editRange w).1 + (editRange w).2 ≤ editOff v)

/-- Each pair of a list, in its order, satisfies a relation. -/
def allPairs (f : Word → Word → Bool) : List Word → Bool
  | [] => true
  | w :: r => r.all (f w) && allPairs f r

/-- R256: the window of a CSUM16 is not broken by an edit of the same list. -/
def csumOk (c w : Word) : Bool :=
  let lo := editOff c - 10
  let hi := editOff c + 9
  let meets := decide ((editRange w).1 ≤ hi) && decide (lo < (editRange w).1 + (editRange w).2)
  match editOp w with
  | 2 => !(decide (lo + 1 ≤ editOff w) && decide (editOff w ≤ hi))
  | 3 => !meets
  | 5 => c = w || !meets
  | _ => true

/-- R256: a list is legal for a head of `h` bytes. -/
def listLegal (h : Nat) (l : List Word) : Bool :=
  let es := edits l
  let head := l[0]?.getD 0
  fld head 12 5 ≤ 16 && fld head 27 5 = 0 && es.all (editOk h) && allPairs editAfter es &&
    decide (((es.filter fun w => editOp w = 2).map editLen).sum ≤ 128) &&
    decide (((es.filter fun w => editOp w = 3).map editLen).sum ≤ 128) &&
    (es.filter fun w => editOp w = 5).all fun c => es.all (csumOk c)

/-! ### Applying a list (R255, R259, R260) -/

/-- The source bytes of an edit. -/
def editBytes (tpl args : List Byte) (w : Word) : List Byte :=
  slice (if editSrc w then args else tpl) (editSoff w) (editLen w)

/-- What becomes of head byte `k` before checksums: its value, or none where it is removed. -/
def editByte (es : List Word) (tpl args : List Byte) (k : Nat) (b : Byte) : Option Byte :=
  match es.find? fun w => editCovers w k with
  | none => some b
  | some w =>
    match editOp w with
    | 1 => some ((editBytes tpl args w)[k - editOff w]?.getD 0)
    | 3 => none
    | 4 => some (if b = 0 then 0 else b - 1)
    | _ => some b

/-- R260: the mark on the byte that holds the ECN field. -/
def ceMark (mode : Nat) (b : Byte) : Byte :=
  let sh := if mode = 1 then 0 else 4
  let f := b.toNat / 2 ^ sh % 4
  if f = 1 ∨ f = 2 then b ||| BitVec.ofNat 8 (3 * 2 ^ sh) else b

/-- Fold a sum into 16 bits with end-around carry. -/
def foldCarry (v : Nat) : Nat :=
  let a := v % 65536 + v / 65536
  let b := a % 65536 + a / 65536
  b % 65536 + b / 65536

/-- RFC 1624, equation 3, for the changed words of a window. -/
def csumUpdate (hc : Nat) (ws : List (Nat × Nat)) : Nat :=
  65535 - foldCarry ((65535 - hc) + (ws.map fun (m, m') => if m = m' then 0 else (65535 - m) + m').sum)

/-- Bytes `k` and `k + 1` as a big-endian word. -/
def be16 (l : List Byte) (k : Nat) : Nat := ((l[k]?.getD 0).toNat * 256) + (l[k + 1]?.getD 0).toNat

/-- The head bytes after every change but checksums, removed ones kept in place as they were. -/
def headAfter (es : List Word) (tpl args h : List Byte) (ce : Option (Nat × Nat)) : List Byte :=
  h.zipIdx.map fun (b, k) =>
    let v := (editByte es tpl args k b).getD b
    match ce with
    | some (mode, off) => if off = k then ceMark mode v else v
    | none => v

/-- The head with the checksums brought up to date. -/
def headSummed (es : List Word) (h a : List Byte) : List Byte :=
  (es.filter fun w => editOp w = 5).foldl (fun l c =>
    let o := editOff c
    let ws := ((List.range 10).filter (· ≠ 5)).map fun j => (be16 h (o - 10 + 2 * j), be16 a (o - 10 + 2 * j))
    let v := csumUpdate (be16 h o) ws
    (l.set o (BitVec.ofNat 8 (v / 256))).set (o + 1) (BitVec.ofNat 8 v)) a

/-- R260: a mark on a byte of a CSUM16's own field is made after the update of the field. [DESIGN CHOICE, log 129] -/
def markSum (es : List Word) (ce : Option (Nat × Nat)) (l : List Byte) : List Byte :=
  match ce with
  | some (mode, off) =>
    if es.any fun w => editOp w = 5 && editCovers w off then l.set off (ceMark mode (l[off]?.getD 0)) else l
  | none => l

/-- The rewritten head: the inserts of each offset, then its byte unless removed. -/
def headEmit (es : List Word) (tpl args h : List Byte) (ce : Option (Nat × Nat)) : List Byte :=
  let a := markSum es ce (headSummed es h (headAfter es tpl args h ce))
  (List.range (h.length + 1)).flatMap fun k =>
    (es.filter fun w => editOp w = 2 && editOff w = k).flatMap (editBytes tpl args) ++
    (match a[k]? with
      | none => []
      | some b => if es.any fun w => editOp w = 3 && editCovers w k then [] else [b])

/-! ### Frames -/

/-- R251: head and tail of a frame; without its end the FCS is not yet there. -/
def frameHead (f : Frame) : List Byte := (if f.final then f.bytes.take (f.bytes.length - 4) else f.bytes).take 256
def frameTail (f : Frame) : List Byte := (if f.final then f.bytes.take (f.bytes.length - 4) else f.bytes).drop 256

/-- The list of a copy, and the bytes of the template it names. -/
def State.editList (s : State) (c : Copy) : List Word := s.entry (rwrI (Fin.ofNat 4 c.eslice)) 0 c.edit
def State.template (s : State) (sl : Slice) (t : Nat) : List Byte :=
  (s.entry (rwrI sl) 1 t).flatMap fun w => leBytes 4 w.toNat

/-- R260: where the mark asked for a copy is made, none where it cannot be. -/
def markAt (l : List Word) (h : List Byte) (ce : Bool) : Option (Nat × Nat) :=
  let head := l[0]?.getD 0
  let mode := fld head 25 2
  let off := fld head 17 8
  if ce && (mode = 1 || mode = 2) && decide (off < h.length) &&
      !(edits l).any fun w => editOp w = 3 && editCovers w off then some (mode, off) else none

/-- R260: the mark is asked for and not made. -/
def markSkipped (l : List Word) (h : List Byte) (ce : Bool) : Bool := ce && (markAt l h ce).isNone

/-- R259: zero bytes up to 64 with the FCS. -/
def padTo60 (l : List Byte) : List Byte := l ++ List.replicate (60 - l.length) 0

/-- R261: the carried FCS from the ingress FCS and the difference of the heads. -/
def carriedFcs (fcs h h' t : List Byte) : List Byte :=
  let delta := crc 0xFFFFFFFF h ^^^ crc 0xFFFFFFFF h'
  let r := ~~~ BitVec.ofNat 32 (ofLe fcs) ^^^ crc delta (List.replicate t.length 0)
  leBytes 4 (~~~ crc r (List.replicate (60 - (h' ++ t).length) 0)).toNat

/-- The rewritten head of a copy. -/
def State.rewriteHead (s : State) (c : Copy) : List Byte :=
  let f := s.frame c.fid
  let l := s.editList c
  headEmit (edits l) (s.template (Fin.ofNat 4 c.eslice) (fld (l[0]?.getD 0) 0 12)) c.args (frameHead f)
    (markAt l (frameHead f) c.ce)
/-- The bytes of a frame with rewritten head `h`, padding included, FCS excluded. -/
def rewriteBody (f : Frame) (h : List Byte) : List Byte :=
  if f.final then padTo60 (h ++ frameTail f) else h ++ frameTail f

/-- R262: the FCS of a frame whose last byte is in; `bad` tells that a check inside the device failed (R263). -/
def rewriteFcs (f : Frame) (h : List Byte) (bad : Bool) : List Byte :=
  let fresh := fcsOf (rewriteBody f h)
  if f.poison || f.fcsBad || bad then fresh.map (~~~ ·)
  else if f.injected then fresh
  else carriedFcs (f.bytes.drop (f.bytes.length - 4)) (frameHead f) h (frameTail f)

/-- The frame as it leaves, as far as it has come in. -/
def rewritten (f : Frame) (h : List Byte) (bad : Bool) : List Byte :=
  if f.final then rewriteBody f h ++ rewriteFcs f h bad else rewriteBody f h

/-- R262: the carried FCS differs from the fresh one. -/
def fcsMismatch (f : Frame) (h : List Byte) (bad : Bool) : Bool :=
  f.final && !f.poison && !f.fcsBad && !f.injected && !bad && decide (rewriteFcs f h false ≠ fcsOf (rewriteBody f h))

/-- R262: count what the end of a frame finds. -/
def State.countFcs (s : State) (c : Copy) (h : List Byte) (bad : Bool) : State :=
  let sl := Fin.ofNat 4 c.eslice
  if fcsMismatch (s.frame c.fid) h bad then ((s.count (rwrI sl) R.RWR_FCSMIS).event (rwrI sl) 2).noteFault (srcOf 10 sl)
  else s

/-! ### Packet SRAM errors (R274) -/

/-- A single-bit error corrected, a double-bit error. -/
def State.sramCor (s : State) (sl : Slice) : State :=
  ((s.count (slInst .swc sl) R.SWC_SRAMERR 0 16).event (slInst .swc sl) 1).noteFault (srcOf 11 sl)
def State.sramUnc (s : State) (sl : Slice) : State :=
  ((s.count (slInst .swc sl) R.SWC_SRAMERR 16 16).event (slInst .swc sl) 2).noteFault (srcOf 12 sl)

/-! ### The rewrite of a frame -/

/-- R256, R257: record a refused list or template. -/
def State.lastBad (s : State) (sl : Slice) (tpl par : Bool) (idx : Nat) : State :=
  s.setReg (rwrI sl) R.RWR_LASTBAD (BitVec.ofNat 32 (idx + (if par then 65536 else 0) + if tpl then 131072 else 0))

/-- The template a list uses, where one of its edits takes bytes from it. -/
def usedTemplate (l : List Word) : Option Nat :=
  if (edits l).any fun w => (editOp w = 1 || editOp w = 2) && !editSrc w then some (fld (l[0]?.getD 0) 0 12) else none

/-- The damaged list or template of a copy: whether it is a template, and its index. -/
def State.editPar (s : State) (c : Copy) : Option (Bool × Nat) :=
  let sl := Fin.ofNat 4 c.eslice
  if s.badEntry (rwrI sl) 0 c.edit then some (false, c.edit)
  else match usedTemplate (s.editList c) with
    | some t => if s.badEntry (rwrI sl) 1 t then some (true, t) else none
    | none => none

/-- The rewritten length exceeds 16,383 bytes (R259). -/
def State.tooLong (s : State) (c : Copy) : Bool :=
  let f := s.frame c.fid
  decide (16383 < (s.rewriteHead c ++ frameTail f).length + if f.final then 4 else 0)

/-- Hand a rewritten copy to its MAC. -/
def State.toMac (s : State) (c : Copy) : State :=
  let f := s.frame c.fid
  let h := s.rewriteHead c
  let x : TxFrame := { copy := c, head := h, bytes := rewritten f h false, final := f.final }
  let s := s.noteAct (Fin.ofNat 4 c.eslice) 9 h.length
  (s.countFcs c h false).updPort c.port fun p => { p with mac := p.mac ++ [x] }

/-- R256-R260: rewrite a copy whose cells read well. -/
def State.rewriteCopy (s : State) (c : Copy) : State :=
  let sl : Slice := Fin.ofNat 4 c.eslice
  let drop := fun (t : State) => t.freeCopy c
  let l := s.editList c
  let h := frameHead (s.frame c.fid)
  match s.editPar c with
  | some (tpl, idx) =>
    drop ((((s.count (rwrI sl) R.RWR_DROP 0 16).event (rwrI sl) 1).lastBad sl tpl true idx).noteFault (srcOf 9 sl))
  | none =>
    if !listLegal h.length l then
      drop ((((s.count (rwrI sl) R.RWR_DROP 16 16).event (rwrI sl) 0).lastBad sl false false c.edit).noteFault (srcOf 8 sl))
    else if s.tooLong c then drop ((s.count (rwrI sl) R.RWR_LENDROP).event (rwrI sl) 3)
    else
      let s := if markSkipped l h c.ce then (s.count (rwrI sl) R.RWR_ECNSKIP).event (rwrI sl) 4 else s
      s.toMac c

/-- R251: the head is known: the last byte is in, or the four bytes before the FCS cannot lie in the first 256. -/
def headKnown (f : Frame) : Bool := f.final || decide (260 ≤ f.bytes.length)

/-- R261, R274: RWR takes the oldest dequeued copy of a slice, once its head is known. `read` is what the reads of its cells
found; the cells beyond a damaged link are left to Retriever. -/
def execFrameRewrite (sl : Slice) (read : SramRead) (s : State) : Out :=
  s.done (if s.inBlockReset (rwrI sl) then s else
    match (s.swc sl).rewriteQ with
    | [] => s
    | c :: r =>
      if !s.awake sl then s.requestWake sl else
      let t := s.updSwc sl fun x => { x with rewriteQ := r }
      if c.gone then t.rstDrop 1
      else match read with
        | .badData => (t.sramUnc sl).dropCopy 9 c
        | .badLink k => ((t.sramUnc sl).updSwc sl fun x => x.leakChain c.fid k.val).dropCopy 9 c
        | .clean => if headKnown (s.frame c.fid) then t.rewriteCopy c else s
        | .corrected => if headKnown (s.frame c.fid) then (t.sramCor sl).rewriteCopy c else s)

end Sys2Proof.Machine
end

