-- ==== Sys2Proof/Machine/Ptp.lean ====
section
/-! DEFINITION. Timestamps at the balls, and what the egress does to PTP event messages (R63, R64, R420, R429-R433). -/

namespace Sys2Proof.Machine

/-! ### Timestamps -/

/-- What a cycle pays of a remaining slew: 250 ppm of a nanosecond, toward 0 (R424). -/
def slewPart (v : Int) : Int := max (-(2 ^ 48 / 4000)) (min (2 ^ 48 / 4000) v)

/-- R418: what the present cycle of the TSU clock adds to the counter, in 2^-48 ns. -/
def State.cycleGain (s : State) : Int := 2 ^ 48 + s.tsu.freq + slewPart s.tsu.slew

/-- R420: the counter at the instant of a timestamp, in 2^-16 ns, interpolated within the TSU cycle: the instant in the cycle is a free
value. [DESIGN CHOICE, log 147] -/
def State.tsu16 (s : State) : Int :=
  ((s.tsuNs * 2 ^ 48 + s.tsu.frac : Nat) + s.cycleGain * (Config.stampPhase s.free % 2 ^ 48 : Nat) / 2 ^ 48) / 2 ^ 32

/-- A timestamp has been taken, and the next one has an instant of its own. -/
def State.stamped (s : State) : State := { s with free := s.free + 1 }

/-- Round down to 0.25 ns (R420). -/
def quarter (t : Int) : Int := t / 16384 * 16384

/-- The signed delays of PRT_TSCAL and PRT_TSADJ in one direction, in 0.25 ns. -/
def State.pathDelay (s : State) (p : Nat) (tx : Bool) : Int :=
  let lo := if tx then 16 else 0
  sext (fld (s.laneReg p R.PRT_TSCAL) lo 16) 16 + sext (fld (s.laneReg p R.PRT_TSADJ) lo 16) 16

/-- R64: the receive and transmit times at the balls of an event at the PCS now. -/
def State.rxTime (s : State) (p : Nat) : Int := quarter (s.tsu16 - s.pathDelay p false * 16384)
def State.txTime (s : State) (p : Nat) : Int := quarter (s.tsu16 + s.pathDelay p true * 16384)

/-- Seconds, nanoseconds and 16-bit fraction of a time; the seconds wrap (R418). -/
def timeSec (t : Int) : BitVec 48 := BitVec.ofInt 48 (t / 65536 / 1000000000)
def timeNs (t : Int) : Nat := (t / 65536 % 1000000000).toNat
def timeFrac (t : Int) : Nat := (t % 65536).toNat

/-- The receive time of a frame. -/
def Frame.time (f : Frame) : Int := (((f.sec.toNat * 1000000000 + f.ns.toNat) * 65536 + f.frac.toNat : Nat) : Int)

/-! ### Recognition (R429) -/

/-- The offset after up to `n` VLAN tags of the EtherType at `o`. -/
def skipTags (l : List Byte) : Nat → Nat → Nat
  | 0, o => o
  | n + 1, o => if be16 l o = 0x8100 ∨ be16 l o = 0x88A8 then skipTags l n (o + 4) else o

/-- The transport of a PTP message (0 Ethernet, 1 UDP over IPv4, 2 UDP over IPv6), its offset, and that of its UDP
header. -/
def ptpAt (l : List Byte) : Option (Nat × Nat × Nat) :=
  let o := skipTags l 2 12
  let e := be16 l o
  let b := fun (k : Nat) => (l[k]?.getD 0).toNat
  if e = 0x88F7 then some (0, o + 2, 0)
  else if e = 0x0800 then
    let u := o + 2 + b (o + 2) % 16 * 4
    if b (o + 11) = 17 ∧ be16 l (u + 2) = 319 then some (1, u + 8, u) else none
  else if e = 0x86DD then
    let u := o + 42
    if b (o + 8) = 17 ∧ be16 l (u + 2) = 319 then some (2, u + 8, u) else none
  else none

/-- R429: the recognised event message of a port, with its transport and offsets. -/
def State.ptpMessage (s : State) (p : Nat) (l : List Byte) : Option (Nat × Nat × Nat) :=
  match ptpAt l with
  | none => none
  | some (tr, o, u) =>
    let w := s.ent tsu4 0 p 0
    if (l[o + 1]?.getD 0).toNat % 16 = 2 ∧ (l[o]?.getD 0).toNat % 16 ≤ 3 ∧ bit w (3 + tr) then some (tr, o, u) else none

/-! ### Changes and records (R430-R432) -/

/-- Byte replacements that write `v` big-endian in `n` bytes at offset `o`. -/
def patchBe (o n v : Nat) : List (Nat × Byte) := (beBytes n v).zipIdx.map fun (b, k) => (o + k, b)

/-- Apply byte replacements. -/
def applyPatch (l : List Byte) (pt : List (Nat × Byte)) : List Byte := pt.foldl (fun l (k, b) => l.set k b) l

/-- R431: apply byte replacements to a frame with its FCS, updating the FCS by the difference of the registers. -/
def patchFrame (l : List Byte) (pt : List (Nat × Byte)) : List Byte :=
  let body := l.take (l.length - 4)
  let body' := applyPatch body pt
  let d := crc 0xFFFFFFFF body ^^^ crc 0xFFFFFFFF body'
  body' ++ leBytes 4 (BitVec.ofNat 32 (ofLe (l.drop (l.length - 4))) ^^^ d).toNat

/-- A frame on its way out, brought up to date with what has come in, unless it has been cut short. -/
def TxFrame.refresh (x : TxFrame) (f : Frame) : TxFrame :=
  if x.cut then { x with bytes := applyPatch x.bytes x.patch } else
  let b := rewritten f x.head x.bad
  { x with bytes := if f.final then (if x.patch = [] then b else patchFrame b x.patch) else applyPatch b x.patch,
           final := f.final }

/-- The correctionField plus an amount in 2^-16 ns. -/
def correctionPatch (l : List Byte) (o : Nat) (d : Int) : List (Nat × Byte) :=
  patchBe (o + 8) 8 (BitVec.ofInt 64 (ofBe (slice l (o + 8) 8) + d)).toNat

/-- R430: what the egress changes in a message, none where it makes a transmit record or does nothing. -/
def State.ptpPatch (s : State) (p : Nat) (f : Frame) (l : List Byte) (tr o u : Nat) : Option (List (Nat × Byte)) :=
  let w := s.ent tsu4 0 p 0
  let sync := (l[o]?.getD 0).toNat % 16 = 0 ∧ !(l[o + 6]?.getD 0).getLsbD 1
  let t := s.txTime p
  let udp := if tr = 1 then patchBe (u + 6) 2 0 else []
  if fld w 0 2 ≠ 2 ∨ tr = 2 then none
  else if f.injected then
    if sync then some (patchBe (o + 34) 6 (timeSec t).toNat ++ patchBe (o + 40) 4 (timeNs t)
      ++ correctionPatch l o (timeFrac t) ++ udp) else none
  else if bit w 2 then some (correctionPatch l o (t - f.time) ++ udp)
  else none

/-- R432: the transmit record of a message. -/
def State.txRecord (s : State) (p : Nat) (l : List Byte) (o : Nat) : List Byte :=
  let t := s.txTime p
  leBytes 4 (timeSec t).toNat ++ leBytes 4 (timeNs t) ++ leBytes 2 (timeFrac t)
    ++ [BitVec.ofNat 8 p, BitVec.ofNat 8 ((l[o]?.getD 0).toNat % 16 + if s.tsu.txPhase then 128 else 0)]
    ++ slice l (o + 30) 2 ++ slice l (o + 4) 1 ++ [0] ++ slice l (o + 20) 10 ++ leBytes 6 0

/-- R432, R293: write a transmit record, or discard it where the ring is full. None is made while TSU is in block reset, which
holds the ring's head clear (R442). -/
def State.writeTxRecord (s : State) (p : Nat) (l : List Byte) (o : Nat) : State :=
  let log := log2n (s.regF tsu4 R.TSU_TXCFG 0 5) 6 20
  let head := s.regF tsu4 R.TSU_TXHEAD 0 20
  if !s.regB tsu4 R.TSU_TXCFG 8 || s.inBlockReset tsu4 then s
  else if ringNext head log = s.regF tsu4 R.TSU_TXTAIL 0 20 then (s.count tsu4 R.TSU_TXDROP).event tsu4 10
  else
    let base := (s.reg tsu4 R.TSU_TXBASE_LO &&& 0xFFFFFFE0).toNat + (s.reg tsu4 R.TSU_TXBASE_HI).toNat * 2 ^ 32
    let t := (s.dma (base + 32 * head) (s.txRecord p l o)).setRegF tsu4 R.TSU_TXHEAD 0 20 (ringNext head log)
    { t with tsu := { t.tsu with txPhase := if ringNext head log = 0 then !t.tsu.txPhase else t.tsu.txPhase } }

/-- R430: the egress acts on the frame that a port begins to send: the frame with its replacements, and the state with
its record. -/
def State.ptpEgress (s : State) (p : Nat) (x : TxFrame) : TxFrame × State :=
  match s.ptpMessage p x.bytes with
  | none => (x, s)
  | some (tr, o, u) =>
    let evt := fld (s.ent tsu4 0 p 0) 0 2
    match s.ptpPatch p (s.frame x.copy.fid) x.bytes tr o u with
    | some pt =>
      ({ x with patch := pt }.refresh (s.frame x.copy.fid), s.stamped)
    | none => (x, if evt = 1 ∨ evt = 2 then (s.writeTxRecord p x.bytes o).stamped else s)

end Sys2Proof.Machine
end

