-- ==== Sys2Proof/Machine/Prt.lean ====
section
/-! DEFINITION. The port complex: link states, FEC, reception and absorption, low-power idle, shedding, transmission
(R49-R84, R578, R579). -/

namespace Sys2Proof.Machine

abbrev prtI (p : Nat) : InstId := slInst .prt (portSlice p)

/-- The offset of the macro of lane `p` within its instance. -/
def macBase (p : Nat) : Nat := p / 8 % 8 * 512

/-- An event of lane `p` in byte `k` of PRT_EVENT (R83). -/
def State.laneEvent (s : State) (p k : Nat) : State := s.event (prtI p) (8 * k + p % 8) (macBase p)

/-! ### Configuration (R49-R52, R57) -/

/-- The fields of a configuration. -/
def cfgLanes (v : Word) : Nat := 2 ^ fld v 1 2
def cfgSpeed (v : Word) : Nat := fld v 3 3
def cfgFec (v : Word) : Nat := fld v 6 2

/-- R50: the lane counts and FEC modes of a speed. -/
def speedLanes : Nat → List Nat
  | 0 | 1 | 2 => [1]
  | 3 => [1, 2]
  | 4 => [2, 4]
  | 5 => [4, 8]
  | 6 => [8]
  | _ => []
def speedFecs : Nat → List Nat
  | 0 => [0, 1]
  | 1 => [0, 1, 2]
  | _ => [3]

/-- The lanes of port `p` under configuration `v`. -/
def portLanes (p : Nat) (v : Word) : List Nat := (List.range (cfgLanes v)).map (p + ·)

/-- REACH of a lane (R81). AN, training and the equaliser of an accepted port follow the REACH its first lane holds when
they are asked for: R57 does not say whether a later write of PRT_LCFG acts at once. [DESIGN CHOICE, log 111] -/
def State.reach (s : State) (lane : Nat) : Nat := fld (s.laneReg lane R.PRT_LCFG) 0 2

/-- R49-R51: the configuration is one that the port may have. R51 names no CR clause for 10 GbE, and the model accepts
CR there as it does the other rates. [DESIGN CHOICE, log 111] -/
def State.cfgLegal (s : State) (p : Nat) (v : Word) : Bool :=
  p % cfgLanes v = 0 && (speedLanes (cfgSpeed v)).contains (cfgLanes v) && (speedFecs (cfgSpeed v)).contains (cfgFec v) &&
    s.reach p ≠ 3 && (portLanes p v).all fun l => s.reach l = s.reach p

/-- The port is enabled and was not refused: it is out of OFF, or waits for lane calibration (R536). -/
def State.portLive (s : State) (p : Nat) : Bool := s.portState p ≠ 0 || (s.port p).waitCal

/-- The live ports of a macro that share a lane with port `p` under `v`. -/
def State.sharers (s : State) (p : Nat) (v : Word) : List Nat :=
  ((List.range 8).map (p / 8 * 8 + ·)).filter fun q => q ≠ p && s.portLive q &&
    (portLanes q (s.port q).cfg).any fun l => (portLanes p v).contains l

/-- The live port that uses a lane. -/
def State.laneOwner (s : State) (lane : Nat) : Option Nat :=
  ((List.range 8).map (lane / 8 * 8 + ·)).find? fun q => s.portLive q && (portLanes q (s.port q).cfg).contains lane

/-! ### PLLs (R579) -/

/-- A configuration uses PLL B, the PAM4 lane rates. -/
def usesPllB (v : Word) : Bool := 2 ≤ cfgSpeed v

/-- A live port of macro `m` uses the PLL. -/
def State.pllUsed (s : State) (m : Nat) (b : Bool) : Bool :=
  (List.range 8).any fun l => s.portLive (8 * m + l) && usesPllB (s.port (8 * m + l)).cfg == b

/-- The lock bit of a PLL. -/
def State.pllLocked (s : State) (m : Nat) (b : Bool) : Bool := bit (s.macReg (8 * m) R.PRT_MSTAT) (if b then 1 else 0)

/-- A PLL that no port uses is powered down. -/
def State.syncPll (s : State) (m : Nat) : State :=
  let s := if s.pllUsed m false then s else s.setMac (8 * m) R.PRT_MSTAT 0 1 0
  if s.pllUsed m true then s else s.setMac (8 * m) R.PRT_MSTAT 1 1 0

/-! ### Absorption occupancy (R67, R83) -/

/-- Bytes of the absorption buffer of a macro (R67). [DEDUCED, log 30] -/
abbrev absSize : Nat := 2097152

/-- Change the bytes a macro's buffer holds, with OCC and HIGH; R83 gives their units and no rounding, and a part of 256
bytes counts as a whole unit. [DESIGN CHOICE, log 111] -/
def State.setAbs (s : State) (m n : Nat) : State :=
  let occ := cdiv n 256
  let s := (s.updMacro m fun x => { x with absBytes := n }).setMac (8 * m) R.PRT_ABSOCC 0 16 occ
  s.setMac (8 * m) R.PRT_ABSOCC 16 16 (max occ (fld (s.macReg (8 * m) R.PRT_ABSOCC) 16 16))

/-- The space that frames in reception may still take. [DEDUCED, log 31] -/
def State.absReserved (s : State) (m : Nat) : Nat :=
  ((List.range 8).map fun l => match (s.port (8 * m + l)).rx with
    | none => 0
    | some f => (s.frame f).maxfrm - (s.frame f).bytes.length).sum

/-- The frame still lies in the absorption buffer of its port. -/
def State.absorbed (s : State) (p f : Nat) : Bool := (s.port p).absorb.contains f || (s.port p).released.contains f

/-- Discard a frame from the absorption buffer. -/
def State.discardAbs (s : State) (p f : Nat) : State :=
  if s.absorbed p f then
    let t := s.setAbs (p / 8) ((s.macro (p / 8)).absBytes - (s.frame f).bytes.length)
    t.updPort p fun x => { x with absorb := x.absorb.filter (· ≠ f), released := x.released.filter (· ≠ f) }
  else s

/-! ### The end of a frame (R61, R276, R279, R358, R359) -/

/-- R279: a copy's charge falls to the frame's actual cells. -/
def State.trimCopy (s : State) (c : Copy) (n len : Nat) : Copy × State :=
  let d := { c.shrink n with len := len }
  let sl := Fin.ofNat 4 c.eslice
  let pc := portClass c.port (c.queue % 8)
  if c.cells ≤ n then ({ c with len := len }, s) else
  (d, (s.updSwc sl fun x =>
    let st := x.stored.get c.fid
    { x with
      gused := x.gused.set pc (x.gused.get pc - (c.a - d.a)), tgused := x.tgused.set c.tid (x.tgused.get c.tid - (c.b - d.b))
      sused := x.sused.set pc (x.sused.get pc - (c.s - d.s)), tsused := x.tsused.set c.tid (x.tsused.get c.tid - (c.s - d.s))
      stored := x.stored.set c.fid { st with cells := n, shares := d.s :: st.shares.erase c.s } }).syncShared sl
        |>.giveCells sl c.fid)

/-- Trim the copies of a frame in a list. -/
def State.trimList (s : State) (fid n len : Nat) : List Copy → List Copy × State
  | [] => ([], s)
  | c :: r =>
    if c.fid = fid && !c.gone then
      let (d, t) := s.trimCopy c n len
      let (r', u) := t.trimList fid n len r
      (d :: r', u)
    else
      let (r', u) := s.trimList fid n len r
      (c :: r', u)

/-- Trim the copies of a frame in a slice: queued, waiting for rewrite, handed to a MAC or on the wire. -/
def State.trimSlice (s : State) (sl : Slice) (fid : Nat) : State :=
  let f := s.frame fid
  let n := cellsOf f.bytes.length
  let qs := ((s.queued sl).filter fun (_, l) => l.any fun c => c.fid = fid).map (·.1)
  let s := forAll qs (fun q t =>
    let (l, u) := t.trimList fid n f.bytes.length (t.queue sl q)
    u.setQueue sl q l) s
  let (rw, s) := s.trimList fid n f.bytes.length (s.swc sl).rewriteQ
  let s := s.updSwc sl fun x => { x with rewriteQ := rw }
  let ports := ((List.range 64).map (64 * sl.val + ·)).filter fun p =>
    ((s.port p).mac ++ (s.port p).tx.toList).any fun x => x.copy.fid = fid
  forAll ports (fun p t =>
    let all := (t.port p).mac ++ (t.port p).tx.toList
    let (cs, u) := t.trimList fid n f.bytes.length (all.map (·.copy))
    let fix := fun (x : TxFrame) (c : Copy) => if x.copy.fid = fid then { x with copy := c }.refresh f else x
    let all' := all.zipWith fix cs
    let k := (t.port p).mac.length
    let u := (all.filter fun x => x.copy.fid = fid && !x.final).foldl (fun v x => v.countFcs x.copy x.head x.bad) u
    u.updPort p fun y => { y with mac := all'.take k, tx := (all'.drop k).head? }) s

/-- R358: the charges of meters made with a length that was not final. -/
def State.settleMeters (s : State) (sl : Slice) (fid : Nat) : State :=
  let len := (s.frame fid).bytes.length
  let s' := forAll ((s.tmg sl).pendMtr.filter fun (f, _) => f = fid) (fun (_, c) t =>
    let d := t.countedLen sl len c.ovhd - c.n
    if d < 0 then t.creditMeter sl c.meter c.first c.second (-d) else t.lateDebit sl c.meter c.first c.second d) s
  s'.updTmg sl fun t => { t with pendMtr := t.pendMtr.filter fun (f, _) => f ≠ fid }

/-- R359: the counters that wait for the frame's bytes. -/
def State.settleCounters (s : State) (sl : Slice) (fid : Nat) : State :=
  let len := (s.frame fid).bytes.length
  let s' := forAll ((s.tmg sl).pendBytes.filter fun (_, f) => f = fid) (fun (c, _) t =>
    (t.mendCounter sl c).addCounter sl c 2 len) s
  s'.updTmg sl fun t => { t with pendBytes := t.pendBytes.filter fun (_, f) => f ≠ fid }

/-- R91, R125: running contexts of the frame see its final length, and hold their charges as corrected. -/
def State.settleContexts (s : State) (sl : Slice) (fid : Nat) : State :=
  let len := (s.frame fid).bytes.length
  forAll ((s.running sl).filter fun x => !isHk x && (s.ctx x).fid = fid) (fun x t => t.updCtx x fun c =>
    { c with
      md := ((c.md.set 2 (BitVec.ofNat 8 len)).set 3 (BitVec.ofNat 8 (len / 256))).set 4 (c.md.get 4 ||| 1)
      charges := c.charges.map fun g =>
        if g.pending then { g with n := t.countedLen sl len g.ovhd, pending := false } else g }) s

/-- R276: once the last byte is in, only its actual cells stay charged to the ingress slice. -/
def State.trimIngress (s : State) (fid : Nat) : State :=
  let f := s.frame fid
  let n := cellsOf f.bytes.length
  let sl := s.ingSlice fid
  let s := s.updFrame fid fun g => { g with ingCells := min g.ingCells n, ingShared := min g.ingShared n }
  ((s.updSwc sl fun x => { x with heldShared := x.heldShared - (f.ingShared - n) }).subIngress sl (f.ingCells - n)).giveCells
    sl fid

/-- R283, R60, R61: a copy that has fallen back to store-and-forward is discarded when its frame proves bad. -/
def State.discardBad (s : State) (sl : Slice) (fid : Nat) : State :=
  let bad := fun (c : Copy) => c.fid = fid && !c.cutThrough
  let qs := (s.queued sl).filter fun (_, l) => l.any bad
  forAll qs (fun (q, l) t => forAll (l.filter bad) (fun c u => u.freeCopy c)
    (t.setQueue sl q (l.filter fun c => !bad c))) s

/-- R289: a punted frame keeps its actual cells of the punt reserve, and a bad one is discarded. -/
def State.trimPunts (s : State) (sl : Slice) (fid : Nat) (bad : Bool) : State :=
  let n := cellsOf (s.frame fid).bytes.length
  let l := ((s.swc sl).punts.filter fun p => !(bad && decide (p.fid = fid))).map fun p =>
    if p.fid = fid then { p with cells := min p.cells n, chain := p.chain.take n } else p
  let cut := ((s.swc sl).punts.map (·.cells)).sum - (l.map (·.cells)).sum
  if (s.swc sl).punts.all fun p => p.fid ≠ fid then s else
    (s.updSwc sl fun x => { x with punts := l, puntUse := x.puntUse - cut }).syncShared sl

/-! ### Frames that a link cannot carry (R274, R286) -/

/-- Free the copies of a frame in a slice that are not on the wire yet: queued, waiting for rewrite, or handed to a MAC. No more
of its cells are for the slice, and none waits on the link to it or crosses it. -/
def State.freeFrame (s : State) (sl : Slice) (fid : Nat) : State :=
  let mine := fun (c : Copy) => decide (c.fid = fid)
  let s := s.updLink (s.ingSlice fid) sl fun x => x.without (· = fid)
  let s := s.updFrame fid fun f => { f with linked := f.linked.set sl.val 0 }
  let s := forAll ((s.queued sl).filter fun (_, cs) => cs.any mine) (fun (q, cs) t =>
    forAll (cs.filter mine) (fun c u => u.freeCopy c) (t.setQueue sl q (cs.filter fun c => !mine c))) s
  let rw := (s.swc sl).rewriteQ
  let s := forAll (rw.filter mine) (fun c t => t.freeCopy c) (s.updSwc sl fun x => { x with rewriteQ := rw.filter fun c => !mine c })
  let ports := ((List.range 64).map (64 * sl.val + ·)).filter fun p => (s.port p).mac.any fun y => mine y.copy
  forAll ports (fun p t =>
    forAll ((t.port p).mac.filter fun y => mine y.copy) (fun y u => u.freeCopy y.copy)
      (t.updPort p fun z => { z with mac := z.mac.filter fun y => !mine y.copy })) s

/-- Change the copy of a frame that is on the wire of a port of a slice. -/
def State.onWire (s : State) (sl : Slice) (fid : Nat) (f : Nat → TxFrame → State → State) : State :=
  forAll ((List.range 64).map (64 * sl.val + ·)) (fun p t =>
    match (t.port p).tx with
    | some y => if y.copy.fid = fid then f p y t else t
    | none => t) s

/-- Bytes of a frame are on the wire of a port of a slice. -/
def State.wireHas (s : State) (sl : Slice) (fid : Nat) : Bool :=
  (List.range 64).any fun k => (s.port (64 * sl.val + k)).tx.any fun y => y.copy.fid = fid

/-- R286: a frame that waits for a dead link is dropped under FABRIC: its copies in the link's slice are freed. One that is on
the wire, in cut-through, lacks the cells it waits for: it ends there with an error control character, and counts in
SWC_CTUNDER (R283). [DEDUCED, log 56] -/
def State.dropFabric (s : State) (l : Link) (fid : Nat) : State :=
  let s := (s.freeFrame l.dst fid).onWire l.dst fid fun p y t => if y.cut then t else
    (t.updPort p fun z => { z with tx := some { y with cut := true } }).count (slInst .swc l.dst) R.SWC_CTUNDER
  (s.countDrop l.src 11).settleIngress fid

/-- R281: hand the cells of a frame that are in by now to the link to a slice; a dead link drops the frame that would wait for
it (R286). -/
def State.linkMore (s : State) (fid : Nat) (e : Slice) : State :=
  let i := s.ingSlice fid
  let n := cellsOf (s.frame fid).bytes.length
  if i ≠ e && (s.link i e).dead && decide ((s.frame fid).linked.get e.val < n) then s.dropFabric ⟨i, e⟩ fid
  else s.linkCells fid e n

/-- The rest of a frame's cells go to each slice that has admitted a copy of it; its ingress cells are freed with the
last of them. A frame that is not resolved yet keeps its cells. -/
def State.linkRest (s : State) (fid : Nat) : State :=
  let f := s.frame fid
  if f.linked = {} then s else
    (forAll (f.linked.ents.map (·.1)) (fun e t => t.linkMore fid (Fin.ofNat 4 e)) s).settleIngress fid

/-- R259: the end of a frame that has been rewritten shows that it leaves longer than 16,383 bytes: a copy of which no byte
has been sent is dropped. One already on the wire, which the rule does not name, goes on. [DEDUCED, log 121] -/
def State.dropLong (s : State) (sl : Slice) (fid : Nat) : State :=
  let f := s.frame fid
  let long := fun (x : TxFrame) => x.copy.fid = fid && decide (16383 < (x.head ++ frameTail f).length + 4)
  forAll (((List.range 64).map (64 * sl.val + ·)).filter fun p => (s.port p).mac.any long) (fun p t =>
    forAll ((t.port p).mac.filter long) (fun x u => ((u.freeCopy x.copy).count (rwrI sl) R.RWR_LENDROP).event (rwrI sl) 3)
      (t.updPort p fun y => { y with mac := y.mac.filter fun x => !long x })) s

/-- The ports that copies of a frame are queued for. -/
def State.queuedFor (s : State) (fid : Nat) : List Nat :=
  (slices.flatMap fun e => (s.queued e).flatMap fun (_, l) => (l.filter fun c => c.fid = fid).map (·.port)).dedup

/-- What the end of a released frame settles. Its copies are judged by their length from now on (R365). -/
def State.settleFrame (s : State) (fid : Nat) : State :=
  let sl := s.ingSlice fid
  let s := ((s.trimIngress fid).settleMeters sl fid).settleCounters sl fid
  let s := forAll slices (fun e t => (t.dropLong e fid).trimSlice e fid) (s.settleContexts sl fid)
  let s := (s.trimPunts sl fid (s.frame fid).bad).linkRest fid
  if (s.frame fid).bad then forAll slices (fun e t => t.discardBad e fid) s
  else forAll (s.queuedFor fid) (fun p t => t.judgeHeads p) s

/-- The end of reception of a frame that is not discarded for its port's sake: its length and checks are final. -/
def State.endFrame (s : State) (p fid : Nat) (bytes : List Byte) (err : Bool) : State :=
  let inAbs := s.absorbed p fid
  let s := if inAbs then s.setAbs (p / 8) ((s.macro (p / 8)).absBytes + bytes.length) else s
  let s := s.updFrame fid fun f => { f with bytes := f.bytes ++ bytes, final := true }
  let f := s.frame fid
  let n := f.bytes.length
  let body := f.bytes.take (n - 4)
  let crcBad := err || n < 4 || decide (fcsOf body ≠ f.bytes.drop (n - 4))
  let size := n < 64 || f.maxfrm < n
  let s := if size || (crcBad && !f.poison) then s.countLane p R.PRT_FCSERR else s
  let s := s.updFrame fid fun g => { g with fcsBad := crcBad || size }
  if inAbs then (if f.poison || crcBad || size then s.discardAbs p fid else s) else s.settleFrame fid

/-! ### Leaving UP (R54, R55, R58, R62, R371, R435) -/

/-- R435: squelch the recovered clocks whose source lane is one of these. -/
def State.squelchLanes (s : State) (lanes : List Nat) : State :=
  forAll [0, 1] (fun c t => if lanes.contains (t.regF tsu4 (R.TSU_RCLK + 4 * c) 0 8) then t.squelch c else t) s

/-- R58: what a change of state out of UP does to the frames of the port. -/
def State.cutPort (s : State) (p : Nat) : State :=
  let s := match (s.port p).rx with
    | none => s
    | some f =>
      let s := (s.updPort p fun x => { x with rx := none }).countLane p R.PRT_FCSERR
      if s.absorbed p f then (s.updFrame f fun g => { g with final := true, fcsBad := true }).discardAbs p f
      else (s.updFrame f fun g => { g with final := true, fcsBad := true }).settleFrame f
  let held := (s.port p).mac
  let n := held.length + if (s.port p).tx.isSome then 1 else 0
  let s := (s.cutTx p).updPort p fun x => { x with mac := [], rxSkip := false }
  let s := forAll held (fun x t => t.freeCopy x.copy) s
  s.countMac p R.PRT_TXDROP 0 32 n

/-- The port leaves UP: every condition of its link is over; CFG_ERR stays until EN is written 0 (R80). -/
def State.leaveUp (s : State) (p : Nat) : State :=
  let s := (s.setLane p R.PRT_PSTAT 4 3 0).setLane p R.PRT_PSTAT 8 3 0
  let s := (s.laneEvent p 0).updPort p fun x => { x with rxFault := 0, fecN := 0, fecU := 0, cwBad := false }
  ((s.cutPort p).squelchLanes (portLanes p (s.port p).cfg)).downFlush p

/-- Take a port to a state of R54. -/
def State.portGo (s : State) (p st : Nat) : State :=
  let was := s.portUp p
  let s := s.setLane p R.PRT_PSTAT 0 4 st
  if was then s.leaveUp p else s

/-- R54: the states 2-7 fall back to WAIT_SIGNAL on a loss of signal, lock or alignment. -/
def State.portLoss (s : State) (p : Nat) : State :=
  if 2 ≤ s.portState p && s.portState p ≤ 7 then s.portGo p 1 else s

/-- A transition of R54 from one state to another. [DESIGN CHOICE, log 29] -/
def State.portStep (s : State) (p cur next : Nat) : State := if s.portState p = cur then s.portGo p next else s

/-! ### Enabling and disabling (R56, R57, R434, R536, R537) -/

/-- R434: the symbol rate of a port's lanes in kBd. -/
def symbolRate (gbit : Nat) : Nat :=
  if 100 ≤ gbit then 53125000 else if 50 ≤ gbit then 26562500 else if 25 ≤ gbit then 25781250 else 10312500

/-- The output frequency of a recovered clock exceeds 200 MHz. DIV below 8 reads as 8. -/
def State.rclkFast (s : State) (c : Nat) : Bool :=
  let w := s.reg tsu4 (R.TSU_RCLK + 4 * c)
  match s.laneOwner (fld w 0 8) with
  | none => false
  | some p => decide (200000 * max 8 (fld w 8 16) < symbolRate (s.portRate p / cfgLanes (s.port p).cfg))

/-- R434: an output that exceeds 200 MHz is squelched, with CFG_ERR. -/
def State.checkRclk (s : State) (c : Nat) : State := if s.rclkFast c then (s.squelch c).event tsu4 12 else s

/-- The recovered clocks of a port's lanes are held to 200 MHz. -/
def State.checkRclks (s : State) (p : Nat) : State :=
  forAll ((List.range 2).filter fun c => s.laneOwner (s.regF tsu4 (R.TSU_RCLK + 4 * c) 0 8) = some p) (fun c t => t.checkRclk c) s

/-- R57: refuse a configuration: the port stays in OFF with CFG_ERR, and so is a wider port marked whose lanes hold this
one's. Where EN is written in the wider port of which an enabled narrower one uses a lane, the wider one alone is refused and
marked. [DESIGN CHOICE, log 142] -/
def State.refusePort (s : State) (p : Nat) (v : Word) : State :=
  let s := s.setLane p R.PRT_PSTAT 7 1 1
  forAll ((s.sharers p v).filter fun q => (portLanes q (s.port q).cfg).contains p) (fun q t =>
    t.setLane q R.PRT_PSTAT 7 1 1) s

/-- R537: the slice of a port failed self-test. -/
def State.sliceFailed (s : State) (p : Nat) : Bool := s.failed (portSlice p)

/-- EN goes from 0 to 1 with a configuration. -/
def State.enablePort (s : State) (p : Nat) (v : Word) : State :=
  if !s.cfgLegal p v || s.sharers p v ≠ [] || s.sliceFailed p then s.refusePort p v
  else
    let s := s.updPort p fun x => { x with cfg := v, waitCal := !s.regB knl4 R.KNL_BOOT 5 }
    (if (s.port p).waitCal then s else s.setLane p R.PRT_PSTAT 0 4 1).checkRclks p

/-! ### The sequence of shedding (R56, R76, R77, R408) -/

/-- Ports by shedding order: those `f` picks, by SHED_PRIO and then by number. -/
def State.shedOrder (s : State) (f : Word → Bool) : List Nat :=
  (List.range 16).flatMap fun prio => (List.range 256).filter fun p =>
    let w := s.laneReg p R.PRT_PCFG
    decide (fld w 13 4 = prio) && bit w 0 && !bit w 11 && f w

/-- The ports that the stage in force sheds and that are not shed yet, with the stage that sheds each: from S4 those with
SHED, from S5 every other one after them. -/
def State.shedWanted (s : State) : List (Nat × Nat) :=
  let l := (if 4 ≤ s.stage then (s.shedOrder fun w => bit w 12).map (·, 4) else []) ++
    (if 5 ≤ s.stage then (s.shedOrder fun w => !bit w 12).map (·, 5) else [])
  l.filter fun (p, _) => s.portState p ≠ 0 && s.portState p ≠ 8

/-- R72: the transmit side leaves LPI. -/
def State.leaveLpi (s : State) (p : Nat) : State := s.setLane p R.PRT_PSTAT 9 1 0

/-- The governor begins to shed the next port of its sequence, which sends Local Fault; a port that is guarded or off by now
is passed over [DEDUCED, log 126]. R76 does not say what becomes of the frame on the wire when Local Fault begins: it goes on to its end,
and is cut only if it is still there when the port enters SHED. [DESIGN CHOICE, log 126] -/
def State.shedNext (s : State) : Nat → State
  | 0 => s
  | n + 1 =>
    match s.gov.toShed with
    | [] => s
    | (p, _) :: r =>
      if bit (s.laneReg p R.PRT_PCFG) 11 || s.portState p = 0 || s.portState p = 8 then
        { s with gov := { s.gov with toShed := r } }.shedNext n
      else if (s.port p).shedLF then s
      else (s.leaveLpi p).updPort p fun x => { x with shedLF := true }

/-- The shedding of a port under way is given up: Local Fault ends and its lanes are powered again; a port that had a lane
powered down comes up again from WAIT_SIGNAL. [DESIGN CHOICE, log 112] -/
def State.keepPort (s : State) (p : Nat) : State :=
  let t := if (s.port p).shedLanes.isSome then s.portLoss p else s
  t.updPort p fun x => { x with shedLF := false, shedLanes := none }

/-- R56, R77: GUARD, SHED and SHED_PRIO act at once: from stage S4 on, the sequence of shedding is what the ports' registers
now say, the port being shed staying first; one that is guarded now is kept, and restored where it has been shed. A write of
SHED leaves a port that is in SHED already there, under the stage that shed it. [DEDUCED, log 112; DESIGN CHOICE, log 126] -/
def State.syncShed (s : State) : State :=
  if s.stage < 4 then s else
  let want := s.shedWanted
  let busy := s.gov.toShed.filter fun (p, _) => (s.port p).shedLF
  let go := want.filter fun (p, _) => busy.any fun (q, _) => q = p
  let drop := busy.filter fun (p, _) => !want.any fun (q, _) => q = p
  let back := s.gov.shed.filter fun (p, _) => bit (s.laneReg p R.PRT_PCFG) 11
  let s := forAll drop (fun (p, _) t => t.keepPort p) s
  let s := forAll back (fun (p, _) t => t.portStep p 8 1) s
  let l := go ++ want.filter fun (p, _) => !go.any fun (q, _) => q = p
  let s := { s with gov := { s.gov with
    toShed := l, shed := s.gov.shed.filter fun (p, _) => !bit (s.laneReg p R.PRT_PCFG) 11 } }
  s.shedNext l.length

/-- EN is written 0: OFF from any state. -/
def State.disablePort (s : State) (p : Nat) : State :=
  let lanes := portLanes p (s.port p).cfg
  let s := ((s.portGo p 0).setLane p R.PRT_PSTAT 7 1 (if s.sliceFailed p then 1 else 0)).updPort p fun x => { x with
    waitCal := false, shedLF := false, shedLanes := none }
  let s := { s with gov := { s.gov with
    shed := s.gov.shed.filter fun (q, _) => q ≠ p, toShed := s.gov.toShed.filter fun (q, _) => q ≠ p } }
  (s.squelchLanes lanes).syncPll (p / 8)

/-- R79: MAXFRM as stored. -/
def clampMaxfrm (v : Word) : Word := if fld v 18 14 < 64 then setFld v 18 14 64 else v

/-- A write of PRT_PCFG. -/
def State.writePcfg (s : State) (p : Nat) (v : Word) : State :=
  let old := s.laneReg p R.PRT_PCFG
  let s := s.plainWrite (prtI p) (laneOff p R.PRT_PCFG) (clampMaxfrm v)
  let s := s.syncMuzzlePort p
  (if bit v 0 then (if bit old 0 then s else s.enablePort p (s.laneReg p R.PRT_PCFG)) else s.disablePort p).syncShed

/-- A host write of a port's PRT_PCFG. -/
def State.hostPcfg (s : State) (p : Nat) (v : Word) : State :=
  s.access { inst := prtI p, off := laneOff p R.PRT_PCFG, value := some v } fun t => t.writePcfg p v

/-- R54: PORT_ENABLE. -/
def execPortEnable (p : Port) (v : Word) (s : State) : Out := s.done (s.hostPcfg p.val v)

/-- R54: PORT_DISABLE. -/
def execPortDisable (p : Port) (v : Word) (s : State) : Out := s.done (s.hostPcfg p.val v)

/-! ### Link bring-up (R54, R578, R579, R64) -/

/-- A PLL locks. -/
def execPllLock (m : Macro) (pllB : Bool) (s : State) : Out :=
  s.done (if s.pllUsed m.val pllB then s.setMac (8 * m.val) R.PRT_MSTAT (if pllB then 1 else 0) 1 1 else s)

/-- A PLL loses lock: every port that uses it goes to WAIT_SIGNAL. -/
def execPllLockLoss (m : Macro) (pllB : Bool) (s : State) : Out :=
  s.done (forAll (((List.range 8).map (8 * m.val + ·)).filter fun p => usesPllB (s.port p).cfg == pllB)
    (fun p t => t.portLoss p) (s.setMac (8 * m.val) R.PRT_MSTAT (if pllB then 1 else 0) 1 0))

/-- R52, R54: the state after AN, and the first state after signal detection. -/
def State.afterAn (s : State) (p : Nat) : Nat := if bit (s.port p).cfg 9 && s.reach p ≠ 0 then 3 else 4
def State.firstState (s : State) (p : Nat) : Nat := if bit (s.port p).cfg 8 && s.reach p ≠ 0 then 2 else s.afterAn p

/-- R54: SIGNAL_DETECT. -/
def execSignalDetect (p : Port) (s : State) : Out :=
  s.done (if s.pllLocked (p.val / 8) (usesPllB (s.port p.val).cfg) then s.portStep p.val 1 (s.firstState p.val) else s)

/-- R54: AN_COMPLETE. -/
def execAnComplete (p : Port) (s : State) : Out := s.done (s.portStep p.val 2 (s.afterAn p.val))

/-- R578: TRAINING_COMPLETE. -/
def execTrainingComplete (p : Port) (s : State) : Out := s.done (s.portStep p.val 3 4)

/-- R578: TRAINING_TIMEOUT. [DESIGN CHOICE, log 3] -/
def execTrainingTimeout (p : Port) (s : State) : Out := s.done (s.portStep p.val 3 1)

/-- R54: LOCK_ACHIEVED. -/
def execLockAchieved (p : Port) (s : State) : Out := s.done (s.portStep p.val 4 5)

/-- R54: LOCK_TIMEOUT. -/
def execLockTimeout (p : Port) (s : State) : Out := s.done (s.portStep p.val 4 1)

/-- R54: ALIGN_COMPLETE. -/
def execAlignComplete (p : Port) (s : State) : Out := s.done (s.portStep p.val 5 6)

/-- R54: ALIGN_TIMEOUT. -/
def execAlignTimeout (p : Port) (s : State) : Out := s.done (s.portStep p.val 5 1)

/-- R64: the path delays are measured, and the port enters UP. In Deep its slice wakes (R394). A codeword that was found
uncorrectable before poisons no frame of UP, and the counts of the degrade window start. [DESIGN CHOICE, log 142] -/
def execCalComplete (p : Port) (rx tx : BitVec 16) (s : State) : Out :=
  s.done (if s.portState p.val ≠ 6 then s else
    let s := s.downFlush p.val
    let s := (s.setLane p.val R.PRT_TSCAL 0 16 rx.toNat).setLane p.val R.PRT_TSCAL 16 16 tx.toNat
    let s := (s.setLane p.val R.PRT_PSTAT 0 4 7).setLane p.val R.PRT_PSTAT 5 2 3
    let s := ((s.laneEvent p.val 1).laneEvent p.val 0).updPort p.val fun x => { x with fecN := 0, fecU := 0, cwBad := false }
    if s.sleep (portSlice p.val) = 3 then s.requestWake (portSlice p.val) else s)

/-- R54, R578: loss of signal, lock or alignment on a lane. -/
def execLossOfSignal (lane : Port) (s : State) : Out :=
  s.done (match s.laneOwner lane.val with
    | some p => s.portLoss p
    | none => s)

/-! ### Faults of the link, FEC (R55, R59, R60, R62) -/

/-- R55: a port in UP receives a fault sequence: it sends Remote Fault or Idle, and no LPI. [DEDUCED, log 126] -/
def execFaultSequenceStart (p : Port) (remote : Bool) (s : State) : Out :=
  s.done (if s.portUp p.val then ((s.setLane p.val R.PRT_PSTAT 4 1 1).leaveLpi p.val).updPort p.val fun x =>
    { x with rxFault := if remote then 2 else 1 } else s)

/-- R55: FAULT_SEQUENCE_END. -/
def execFaultSequenceEnd (p : Port) (s : State) : Out :=
  s.done ((s.setLane p.val R.PRT_PSTAT 4 1 0).updPort p.val fun x => { x with rxFault := 0 })

/-- R59: the symbols, or bits of a burst, that a FEC mode corrects. -/
def fecLimit : Nat → Nat
  | 1 => 11
  | 2 => 7
  | _ => 15

/-- R60: the frame in reception is poisoned, and counted once. A frame that was refused for want of room counts in OVF and in
no other counter. [DESIGN CHOICE, log 142] -/
def State.poisonRx (s : State) (p : Nat) : State :=
  match (s.port p).rx with
  | none => s
  | some f =>
    if (s.frame f).poison then s
    else (s.updFrame f fun g => { g with poison := true }).countMac p (R.PRT_POISON + 4 * (p % 8)) 0 32

/-- R62: the codewords of a degrade window. -/
def State.degWindow (s : State) (p : Nat) : Nat := 2 ^ (10 + fld (s.macReg p R.PRT_FECDEG) 16 4)

/-- R62: a degrade window that has had its codewords ends. -/
def State.endDegWindow (s : State) (p : Nat) : State :=
  if !s.portUp p || cfgFec (s.port p).cfg = 0 || (s.port p).fecN < s.degWindow p then s else
  let d := s.macReg p R.PRT_FECDEG
  let hit := fld d 0 16 ≠ 0 && decide (fld d 0 16 ≤ (s.port p).fecU)
  let s := s.updPort p fun x => { x with fecN := 0, fecU := 0 }
  if hit then
    let s := (s.setLane p R.PRT_PSTAT 10 1 1).laneEvent p 2
    if bit d 20 then s.portGo p 1 else s
  else s.setLane p R.PRT_PSTAT 10 1 0

/-- R59, R60, R62: a codeword arrives at an aligned port, with a number of errors; the bytes received until the next one are
its bytes. A window that is full ends before a further codeword counts. [DESIGN CHOICE, log 113] -/
def execFecCodeword (p : Port) (errs : Nat) (s : State) : Out :=
  let s' := s.endDegWindow p.val
  s.done (if s'.portState p.val < 6 || 7 < s'.portState p.val || cfgFec (s'.port p.val).cfg = 0 then s' else
    let unc := fecLimit (cfgFec (s'.port p.val).cfg) < errs
    let t := if s'.portUp p.val then s'.updPort p.val fun x =>
      { x with fecN := x.fecN + 1, fecU := if unc then x.fecU + 1 else x.fecU, cwBad := unc } else s'
    if unc then (t.countLane p.val R.PRT_FECUNC).poisonRx p.val
    else if errs = 0 then t else t.countLane p.val R.PRT_FECCOR)

/-- R62: FEC_DEG_WINDOW_END. -/
def execFecDegWindowEnd (p : Port) (s : State) : Out := s.done (s.endDegWindow p.val)

/-! ### Reception and absorption (R61, R63, R67-R71, R276) -/

/-- MAXFRM of a port. -/
def State.maxfrm (s : State) (p : Nat) : Nat := fld (s.laneReg p R.PRT_PCFG) 18 14

/-- Admit a frame to the absorption buffer. The MAXFRM in force at its first byte is the frame's to its end, in the length check
and at the split (R276): R56 does not say what a new MAXFRM is to a frame in reception. [DESIGN CHOICE, log 126] -/
def State.admitFrame (s : State) (p : Port) (bytes : List Byte) : State :=
  let t := s.rxTime p.val
  let f : Frame := { inport := p, bytes := bytes, sec := timeSec t, ns := BitVec.ofNat 32 (timeNs t),
                     frac := BitVec.ofNat 16 (timeFrac t), maxfrm := s.maxfrm p.val }
  let k := s.nextFrame
  let s := { s.stamped with frames := s.frames.set k f, nextFrame := k + 1 }
  let s := s.updPort p.val fun x => { x with rx := some k, absorb := x.absorb ++ [k] }
  let s := if (s.port p.val).cwBad then s.poisonRx p.val else s
  (s.setAbs (p.val / 8) ((s.macro (p.val / 8)).absBytes + bytes.length)).requestWake (portSlice p.val)

/-- R67: the first bytes of a frame arrive. -/
def execFrameReceiveStart (p : Port) (bytes : List Byte) (s : State) : Out :=
  s.done (if !s.portUp p.val || bit (s.laneReg p.val R.PRT_PSTAT) 4 || (s.port p.val).rx.isSome || (s.port p.val).rxSkip
      then s
    else
      let m := p.val / 8
      let s := s.updMacro m fun x => { x with windowBytes := x.windowBytes + bytes.length }
      if s.inBlockReset (prtI p.val) then (s.updPort p.val fun x => { x with rxSkip := true }).rstDrop 1
      else if (s.macro m).absBytes + s.absReserved m + s.maxfrm p.val ≤ absSize then s.admitFrame p bytes
      else (s.updPort p.val fun x => { x with rxSkip := true }).countMac p.val R.PRT_ABSDROP 0 16)

/-- R61: the last bytes and the FCS of a frame arrive. R55 does not say what becomes of a frame in reception when a fault sequence
begins: it is kept, and ends here and is counted as any other. [DESIGN CHOICE, log 126] -/
def execFrameReceiveEnd (p : Port) (bytes : List Byte) (pcsErr : Bool) (s : State) : Out :=
  let s := if (s.port p.val).rx.isSome || (s.port p.val).rxSkip then
    s.updMacro (p.val / 8) fun x => { x with windowBytes := x.windowBytes + bytes.length } else s
  s.done (match (s.port p.val).rx with
    | none => s.updPort p.val fun x => { x with rxSkip := false }
    | some f => (s.updPort p.val fun x => { x with rx := none }).endFrame p.val f bytes pcsErr)

/-- R69, R283: the oldest frame of a port may leave the buffer: whole, or with 256 bytes where CT_ING is 1. -/
def State.releasable (s : State) (p f : Nat) : Bool :=
  (s.frame f).final || (bit (s.ent (slInst .swc (portSlice p)) 7 (p % 64) 0) 0 && decide (256 ≤ (s.frame f).bytes.length))

/-- R68: discard a frame for a parity error of the absorption buffer. -/
def State.absParity (s : State) (p f : Nat) : State :=
  let s := (s.countMac p R.PRT_ABSDROP 16 16).noteFault (srcOf 0 (portSlice p))
  (s.discardAbs p f).updPort p fun x =>
    if x.rx = some f then { x with rx := none, rxSkip := true } else x

/-- R69: the absorption buffer releases the oldest frame of a port of an awake slice. -/
def execAbsorptionRelease (p : Port) (parErr : Bool) (s : State) : Out :=
  s.done (if !s.awake (portSlice p.val) || s.inBlockReset (prtI p.val) then s else
    match (s.port p.val).absorb with
    | [] => s
    | f :: r =>
      if !s.releasable p.val f then s
      else if parErr then s.absParity p.val f
      else (s.updFrame f fun g => { g with cut := !g.final }).updPort p.val fun x =>
        { x with absorb := r, released := x.released ++ [f] })

/-- R71: a 10 µs window of arrivals ends; R83 gives RATE in Gbit/s and no rounding, and a part of one is dropped.
[DESIGN CHOICE, log 111] -/
def State.absrateEnd (s : State) (m : Nat) : State :=
  let rate := min ((s.macro m).windowBytes * 8 / 10000) 2047
  (s.setMac (8 * m) R.PRT_ABSRATE 0 11 rate).updMacro m fun x => { x with windowBytes := 0, rates := (rate :: x.rates).take 16 }

/-- R276: the ingress reserve of a slice has room for the MAXFRM of a frame. -/
def State.splitFits (s : State) (sl : Slice) (f : Nat) : Bool :=
  s.regF (slInst .swc sl) R.SWC_INGUSE 0 19 + cellsOf (s.frame f).maxfrm ≤ s.regF (slInst .swc sl) R.SWC_INGRSV 0 19

/-- The free packet contexts of the pups whose group is not under reset (R177). -/
def State.freeContexts (s : State) (sl : Slice) : Nat :=
  let open_ := fun (pup : Nat) => !(s.pup sl).groupReset.contains (pupGroup pup)
  8 * ((List.range 384).filter open_).length - ((s.running sl).filter fun x => !isHk x && open_ x.pup.val).length

/-- R70, R177, R178: PCL can assign one frame more than those that wait: a context and a ROB slot are free for it. -/
def State.pclTakes (s : State) (sl : Slice) : Bool :=
  decide ((s.pcl sl).waiting.length + (s.pcl sl).rob.length < 4096) && decide ((s.pcl sl).waiting.length < s.freeContexts sl)

/-- R70: the drain of a macro waits while the split cannot start the oldest released frame of one of its ports.
[DEDUCED, log 114] -/
def State.macroWaits (s : State) (p : Nat) : Bool :=
  ((List.range 8).map (p / 8 * 8 + ·)).any fun q => (s.port q).released.head?.any fun f => !s.splitFits (portSlice p) f

/-- R276: the oldest released frame of a port is split once the ingress reserve has room for its MAXFRM. -/
def execFrameSplit (p : Port) (s : State) : Out :=
  let sl := portSlice p.val
  s.done (match (s.port p.val).released with
    | [] => s
    | f :: r =>
      let need := cellsOf (s.frame f).maxfrm
      if !s.awake sl || s.inBlockReset (slInst .swc sl) || s.inBlockReset (prtI p.val) || s.macroWaits p.val || !s.pclTakes sl
      then s else
        let n := if (s.frame f).final then cellsOf (s.frame f).bytes.length else need
        let s := s.setAbs (p.val / 8) ((s.macro (p.val / 8)).absBytes - (s.frame f).bytes.length)
        let s := (s.updPort p.val fun x => { x with released := r }).updFrame f fun g => { g with ingCells := n }
        ((s.addIngress sl n).takeCells sl f).updPcl sl fun x => { x with waiting := x.waiting ++ [f] })

/-! ### Low-power idle (R72, R73) -/

/-- R72: the port uses EEE. -/
def State.lpiPort (s : State) (p : Nat) : Bool :=
  s.portUp p && bit (s.port p).cfg 10 && cfgSpeed (s.port p).cfg ≤ 1

/-- R55, R75, R76: the port sends a fault sequence, or Idle in answer to one. -/
def State.txFault (s : State) (p : Nat) : Bool :=
  bit (s.laneReg p R.PRT_PSTAT) 4 || bit (s.laneReg p R.PRT_PSTAT) 11 || (s.port p).shedLF

/-- R72: LPI_TX_ENTRY; not while the port sends a fault sequence. [DEDUCED, log 126] -/
def execLpiTxEntry (p : Port) (s : State) : Out :=
  s.done (if s.lpiPort p.val && !s.txFault p.val && s.portQueues p.val = [] && (s.port p.val).mac = [] && (s.port p.val).tx.isNone &&
      s.egressWaiting p.val = 0 then s.setLane p.val R.PRT_PSTAT 9 1 1 else s)

/-- R72: LPI_RX_ENTRY. -/
def execLpiRxEntry (p : Port) (s : State) : Out :=
  s.done (if s.lpiPort p.val then
    (s.setLane p.val R.PRT_PSTAT 8 1 1).squelchLanes (portLanes p.val (s.port p.val).cfg) else s)

/-- R73: LPI_RX_EXIT. -/
def execLpiRxExit (p : Port) (s : State) : Out :=
  s.done (if bit (s.laneReg p.val R.PRT_PSTAT) 8 then
    let s := s.setLane p.val R.PRT_PSTAT 8 1 0
    if s.sleep (portSlice p.val) = 3 then s.requestWake (portSlice p.val) else s
  else s)

/-! ### Shedding (R76, R77) -/

/-- The port enters SHED, and the next one of the sequence begins. -/
def State.enterShed (s : State) (p : Nat) : State :=
  let k := ((s.gov.toShed.find? fun (q, _) => q = p).map (·.2)).getD 4
  let s := (s.portGo p 8).updPort p fun x => { x with shedLF := false, shedLanes := none }
  let s := { s with gov := { s.gov with
    shed := s.gov.shed ++ [(p, k)], toShed := s.gov.toShed.filter fun (q, _) => q ≠ p } }
  s.shedNext s.gov.toShed.length

/-- R76: a shedding timer of a port expires: after the 10 µs of Local Fault its highest lane is powered down, each 1 µs
the next one, and after the last it enters SHED. -/
def execShedTimerExpiry (p : Port) (s : State) : Out :=
  s.done (if !(s.port p.val).shedLF then s else
    let n := ((s.port p.val).shedLanes).getD (cfgLanes (s.port p.val).cfg) - 1
    if n = 0 then s.enterShed p.val else s.updPort p.val fun x => { x with shedLanes := some n })

/-- R76: restore a shed port through WAIT_SIGNAL. -/
def State.restorePort (s : State) (p : Nat) : State := s.portStep p 8 1

/-! ### Transmission (R55, R58, R75, R263, R280, R283) -/

/-- A frame is discarded at the MAC. -/
def State.macDrop (s : State) (p : Nat) (x : TxFrame) (r : List TxFrame) : State :=
  ((s.updPort p fun y => { y with mac := r }).freeCopy x.copy).countMac p R.PRT_TXDROP 0 32

/-- R263: a cell read while the frame is on the wire is uncorrectable. -/
def State.poisonTx (s : State) (sl : Slice) (x : TxFrame) : TxFrame × State :=
  ({ x with bad := true }.refresh (s.frame x.copy.fid), (s.sramUnc sl).count (rwrI sl) R.RWR_POISON)

/-- R274: a link word read while the frame is on the wire is damaged: the cells beyond it cannot be sent, and the frame ends
with an error control character, dropped under SRAMUNC. [DESIGN CHOICE, log 121] -/
def State.breakTx (s : State) (p k : Nat) (x : TxFrame) (r : List TxFrame) : State :=
  let sl := portSlice p
  let s := s.updPort p fun y => { y with mac := r, sent := x.bytes.take (256 * (k + 1)), sentErr := true }
  (((s.sramUnc sl).updSwc sl fun y => y.leakChain x.copy.fid k).dropCopy 9 x.copy).setLane p R.PRT_PSTAT 9 1 0

/-- R58, R429: the oldest frame at the MAC of a port starts on the wire, unless a block reset has stopped the egress (R516);
one that such a reset has cut short ends with an error control character. `read` is what the reads of its cells find. One
whose cells a block reset of its ingress slice has taken is dropped (R516). -/
def execFrameTransmitStart (p : Port) (read : SramRead) (s : State) : Out :=
  let sl := portSlice p.val
  s.done (match (s.port p.val).mac with
    | [] => s
    | x :: r =>
      if x.copy.gone then (s.updPort p.val fun y => { y with mac := r }).rstDrop 1
      else if !s.portUp p.val || bit (s.laneReg p.val R.PRT_PSTAT) 11 then s.macDrop p.val x r
      else if bit (s.laneReg p.val R.PRT_PSTAT) 4 || (s.port p.val).tx.isSome || (s.port p.val).shedLF
          || s.inBlockReset (prtI p.val) then s
      else if !s.awake sl then s.requestWake sl
      else
        let s := s.noteAct sl 5 (s.frameCells x.copy.fid)
        let (x, s) := s.ptpEgress p.val x
        let go := fun (x : TxFrame) (s : State) =>
          (s.updPort p.val fun y => { y with mac := r, tx := some x }).setLane p.val R.PRT_PSTAT 9 1 0
        match read with
        | .clean => go x s
        | .corrected => go x (s.sramCor sl)
        | .badData => (fun t => go t.1 t.2) (s.poisonTx sl x)
        | .badLink k => s.breakTx p.val k.val x r)

/-- R280, R283, R44: the transmission of a port ends. A frame whose last byte is not there by then, whose cells have not all
crossed the fabric, whose cells a block reset of its ingress slice has taken, or which one of RWR has cut short (R516), ends
with an error control character. -/
def execFrameTransmitEnd (p : Port) (s : State) : Out :=
  let sl := portSlice p.val
  s.done (match (s.port p.val).tx with
    | none => s
    | some x =>
      let whole := x.final && s.cellsHere x.copy.fid sl
      let t := (s.updPort p.val fun y => { y with tx := none, sent := x.bytes, sentErr := x.copy.gone || x.cut || !whole }).freeCopy
        x.copy
      if x.copy.gone then t.rstDrop 1 else if x.cut || whole then t else t.count (slInst .swc sl) R.SWC_CTUNDER)

end Sys2Proof.Machine
end

