-- ==== Sys2Proof/Machine/Swc.lean ====
section
/-! DEFINITION. The switch core: resolution of descriptors, samples and capture, admission, the fabric, spill and drain,
and Retriever (R273-R304). -/

namespace Sys2Proof.Machine

/-! ### Copies and capture (R289, R292) -/

/-- R292: the record of a frame, PHASE clear. -/
def State.captureBytes (s : State) (d : Desc) : List Byte :=
  slice d.rd 56 8 ++ slice d.rd 49 1 ++ [0] ++ leBytes 2 d.mdLen ++ slice d.rd 52 4 ++ slice (s.frame d.fid).bytes 0 48

/-- R292: header capture of a frame. -/
def State.capture (s : State) (sl : Slice) (d : Desc) : State :=
  if !s.regB swc4 R.SWC_HRCFG 8 || !bit (s.ingWord sl d.fid) 1 then s
  else if 1 ≤ s.stage then s.countSmp sl
  else if s.puntFits sl 1 then
    (s.updSwc sl fun x =>
      { x with captures := x.captures ++ [s.captureBytes d], puntUse := x.puntUse + 1 }.growChain 0 (x.captures.length + 1)
      ).syncShared sl |>.noteAct sl 4 1
  else s.discardSmp sl

/-- R289: the copy that PUNT_COPY asks for. -/
def State.puntCopy (s : State) (sl : Slice) (d : Desc) : State :=
  if !d.flag 0 then s
  else if 1 ≤ s.stage then s.countSmp sl
  else if s.puntFits sl (s.frameCells d.fid) then s.addPunt sl (d.punt 1 (d.le 12 4 % 64) (s.frameCells d.fid))
  else s.discardSmp sl

/-- R277: what acts on a frame at step 1. -/
def State.stepOne (s : State) (sl : Slice) (d : Desc) : State :=
  ((s.puntCopy sl d).takeEvents sl d (s.sampleEvents sl d)).capture sl d

/-! ### Resolution (R277, R278, R284) -/

/-- The copy that a unicast DEST names. -/
def Desc.copy (d : Desc) (dest : Word) (edit ovhd : Nat) (multi : Bool) : Copy :=
  { fid := d.fid, eslice := fld dest 0 2, port := fld dest 18 8, queue := fld dest 2 16 * 8 + d.tclass, tid := d.byte 48
    edit := edit, ovhd := ovhd, args := slice d.rd 16 32, ecnCap := d.flag 2, multicast := multi, puntCopy := d.flag 0 }

/-- Steps 3 and 4 of R277 for one copy, whose drops count in the resolving slice; what remains waits for admission. -/
def State.resolveCopy (s : State) (sl : Slice) (c : Copy) : State :=
  let e : Slice := Fin.ofNat 4 c.eslice
  let node := c.queue / 8
  let s := (s.tmgRead e 0 node).tmgRead e 1 (s.service e node)
  if c.port / 64 ≠ c.eslice || s.nodePort e node ≠ some (c.port % 64) then s.countDrop sl 2
  else if s.sleep e = 3 then (s.requestWake e).countDrop sl 3
  else if !s.portUp c.port then s.countDrop sl 3
  else
    let s := s.updSwc e fun x => { x with admitQ := x.admitQ ++ [c] }
    if e = sl then s else s.holdForWake sl e c.fid

/-- R284: a group's members, none where the group is invalid. -/
def State.groupMembers (s : State) (sl : Slice) (g : Nat) : Option (List Nat) :=
  let w := s.ent (swcI sl) 4 g 0
  let n := fld w 18 12
  if bit w 31 && n ≠ 0 && decide (fld w 0 18 + n ≤ 262144) then some ((List.range n).map (fld w 0 18 + ·)) else none

/-- R284: one member of a group. -/
def State.resolveMember (s : State) (sl : Slice) (d : Desc) (m : Nat) : State :=
  let w := s.ent (swcI sl) 5 m 0
  let v := s.ent (swcI sl) 5 m 1
  if !bit w 31 || (bit w 30 && !d.injected && decide (fld w 18 8 = (s.frame d.fid).inport.val)) then s
  else s.resolveCopy sl (d.copy w (fld v 0 16) (fld v 16 6) true)

/-- R289: a punt moves its frame's cells to the punt reserve, or is dropped. -/
def State.puntFrame (s : State) (sl : Slice) (d : Desc) : State :=
  let n := s.frameCells d.fid
  if s.puntFits sl n then (s.freeIngress d.fid).addPunt sl (d.punt 0 (fld d.dest 0 6) n) else s.countDrop sl 12

/-- The steps of R277 after step 2, for an ACTION. [DESIGN CHOICE, log 53] -/
def State.resolveAction (s : State) (sl : Slice) (d : Desc) : Nat → State
  | 0 => s.countDrop sl 0
  | 1 => s.resolveCopy sl (d.copy d.dest (d.le 8 2) (d.byte 10 % 64) false)
  | 2 => match s.groupMembers sl (fld d.dest 0 16) with
    | none => s.countDrop sl 4
    | some l => forAll l (fun m t => t.resolveMember sl d m) s
  | _ => s.puntFrame sl d

/-- Walk a descriptor's ACTION; a reserved value acts as one of the four, which one being free. -/
def State.resolveDesc (s : State) (sl : Slice) (d : Desc) : State :=
  let (a, s) := if d.byte 0 < 4 then (d.byte 0, s) else (let (w, t) := s.drawWord; (fld w 0 2, t))
  (s.resolveAction sl d a).settleIngress d.fid

/-- R277: the oldest released descriptor. What was punted or copied whole of a frame that is already known bad is discarded, as
at its end (R60, R61, R289). -/
def State.resolve (s : State) (sl : Slice) (d : Desc) (parErr : Bool) : State :=
  let f := s.frame d.fid
  if f.gone then s.rstDrop 1
  else if parErr then (s.countDrop sl 1).freeIngress d.fid
  else
    let t := (s.stepOne sl d).resolveDesc sl d
    if f.bad then t.trimPunts sl d.fid true else t

/-- R277: DESCRIPTOR_RESOLVE. -/
def execDescriptorResolve (sl : Slice) (parErr : Bool) (s : State) : Out :=
  s.done (if s.inBlockReset (swcI sl) then s else
    match (s.swc sl).descs with
    | [] => s
    | d :: r => if !s.awake sl then s.requestWake sl else (s.updSwc sl fun x => { x with descs := r }).resolve sl d parErr)

/-! ### Admission (R279-R283, R287) -/

/-- R302: the profile words of a queue. -/
def State.qprof (s : State) (sl : Slice) (q k : Nat) : Word := s.ent (swcI sl) 3 (fld (s.ent (swcI sl) 2 q 0) 0 6) k

/-- A queue spills or holds deep-tier frames. -/
def State.queueDeep (s : State) (sl : Slice) (q : Nat) : Bool :=
  (s.queue sl q).any (·.deep.isSome) || (s.swc sl).spillQ.any fun (k, _) => k = q

/-- R283: the traffic manager would dequeue a copy at once if it were admitted in cut-through to its queue, which is empty. -/
def State.dequeuedAtOnce (s : State) (sl : Slice) (c : Copy) : Bool :=
  let t := (s.chargeCopy c).setQueue sl c.queue [{ c with cutThrough := true }]
  let (u, el) := t.offered c.port
  s.egressFree sl c.port && (u.selects sl (c.port % 64) el).any fun ch => ch.copy.cid = c.cid && u.gatePays sl ch.copy

/-- R283: what cut-through asks of a copy, its queue and its ports. -/
def State.cutThroughOk (s : State) (sl : Slice) (c : Copy) : Bool :=
  !c.multicast && !c.puntCopy && bit (s.ent (swcI sl) 0 (portClass c.port (c.queue % 8)) 0) 23
    && s.queue sl c.queue = [] && (s.port c.port).tx.isNone
    && decide (s.portRate (s.frame c.fid).inport.val ≤ s.portRate c.port) && s.dequeuedAtOnce sl c

/-- R282: mark an admitted copy in a queue deeper than MARK. -/
def State.markEcn (s : State) (sl : Slice) (c : Copy) : State :=
  let mark := fld (s.qprof sl c.queue 0) 0 19
  let l := s.queue sl c.queue
  if c.ecnCap && mark ≠ 0x7FFFF && decide (mark < sramCells l + deepUnits l) then
    (s.updCopy sl c.queue c.cid fun x => { x with ce := true }).count (swcI sl) R.SWC_ECNMARK
  else s

/-- R287: choose an admitted copy for spill. [DEDUCED, log 59] -/
def State.chooseSpill (s : State) (sl : Slice) (c : Copy) : State :=
  let w := s.qprof sl c.queue 1
  let l := s.queue sl c.queue
  if (c.eclass = 3 || bit w 19) && (l.any (·.deep.isSome) || decide (fld w 0 19 < sramCells l)) then
    s.updSwc sl fun x => { x with spillQ := x.spillQ ++ [(c.queue, c.cid)] }
  else s

/-- Put an admitted copy into its queue. -/
def State.enqueue (s : State) (sl : Slice) (c : Copy) : State :=
  let s := (s.chargeCopy c).setQueue sl c.queue (s.queue sl c.queue ++ [c])
  (s.markEcn sl c).chooseSpill sl c

/-- A copy that has its charges (a, b, s). -/
def State.admitCopy (s : State) (sl : Slice) (c : Copy) (a b n : Nat) : State :=
  let f := s.frame c.fid
  let len := if f.final then f.bytes.length else f.maxfrm
  let c := { c with cid := s.nextCopy, a := a, b := b, s := n, len := len, admitted := s.time }
  let ct := f.cut && s.cutThroughOk sl c
  let c := { c with cutThrough := ct }
  let s := if f.cut && !ct then s.count (swcI sl) R.SWC_CTFALL else s
  let s := { s with nextCopy := s.nextCopy + 1 }.enqueue sl c
  s.linkCells c.fid sl (cellsOf f.bytes.length)

/-- R279, R345: the admission of a copy in its egress slice, under the energy class its queue is mapped to now. A copy of a
frame released in cut-through that has proved bad meanwhile has fallen back, and is discarded (R283, R61). -/
def State.admitNext (s : State) (sl : Slice) (c : Copy) : State :=
  let f := s.frame c.fid
  let ing := s.ingSlice c.fid
  let c := { c with eclass := s.energyClass sl (c.queue / 8) (c.queue % 8) c.port }
  if f.gone then s.rstDrop 1
  else if ing ≠ sl && (s.link ing sl).dead then s.countDrop ing 11
  else if 3 ≤ s.stage && c.eclass = 2 then s.countDrop sl 6
  else match s.admission sl (portClass c.port (c.queue % 8)) c.tid (s.frameCells c.fid) with
    | none => s.countDrop sl 5
    | some (a, b, n) =>
      if f.bad then (if f.cut then s.count (swcI sl) R.SWC_CTFALL else s) else s.admitCopy sl c a b n

/-- R279, R392: COPY_ADMIT. In a slice that does not admit, the frames of the copies that wait move to their senders' pools (R22). -/
def execCopyAdmit (sl : Slice) (s : State) : Out :=
  s.done (match (s.swc sl).admitQ with
    | [] => s
    | c :: r => if !s.admits sl then (s.holdWaiting sl).requestWake sl
      else (((s.updSwc sl fun x => { x with admitQ := r }).admitNext sl c).judgeHeads c.port).settleIngress c.fid)

/-! ### The fabric (R281, R286) -/

/-- A link carries cells: it does not retrain, is not dead, both slices are awake, and no block reset holds it. -/
def State.linkRuns (s : State) (l : Link) : Bool :=
  let x := s.link l.src l.dst
  !x.retraining && !x.dead && s.awake l.src && s.awake l.dst && !s.inBlockReset swc4 && !s.inBlockReset (swcI l.src)
    && !s.inBlockReset (swcI l.dst)

/-- R274: a frame whose cells cannot be read for the fabric is dropped in the slice of the link: its copies that are queued,
dequeued or at a MAC are freed. With a damaged word of cell data (`link` false), one whose bytes are on the wire is completed as R263
says and is not dropped. With a damaged link word the cells beyond it cannot follow: one on the wire ends there with an error
control character, and is dropped under SRAMUNC as any other. [DESIGN CHOICE, log 121] -/
def State.dropCrossing (s : State) (l : Link) (fid : Nat) (link : Bool) : State :=
  let wire := s.wireHas l.dst fid
  let s := (s.freeFrame l.dst fid).onWire l.dst fid fun p y t =>
    if link then t.updPort p fun z => { z with tx := some { y with cut := true } }
    else if y.bad then t
    else (t.updPort p fun z => { z with tx := some ({ y with bad := true }.refresh (t.frame fid)) }).count (rwrI l.dst) R.RWR_POISON
  (if wire && !link then s else s.countDrop l.src 9).settleIngress fid

/-- R281, R274: FABRIC_CELL_CROSS; `read` is what the read of the cell found. -/
def execFabricCellCross (l : Link) (read : SramRead) (s : State) : Out :=
  s.done (if !s.linkRuns l then s else
    match (s.link l.src l.dst).waiting with
    | [] => s
    | f :: r =>
      let s := s.noteAct l.src 5 1
      let go := fun (t : State) =>
        (t.updLink l.src l.dst fun x => { x with waiting := r, flying := x.flying ++ [f] }).noteAct l.src 6 1
      match read with
      | .clean => go s
      | .corrected => go (s.sramCor l.src)
      | .badData => (s.sramUnc l.src).dropCrossing l f false
      | .badLink k => ((s.sramUnc l.src).updSwc l.src fun x => x.leakChain f k.val).dropCrossing l f true)

/-- R286: a cell fails its check: it and every cell sent after it wait again; after 8 failures the link retrains.
[DEDUCED, log 57] -/
def State.linkFail (s : State) (l : Link) : State :=
  let x := s.link l.src l.dst
  let n := x.flying.length
  let s := s.updLink l.src l.dst fun y => { y with
    waiting := y.flying ++ y.waiting, flying := [], fails := y.fails + 1, retraining := y.fails + 1 = 8 }
  let s := forAll (List.range n) (fun _ t => (t.count swc4 R.SWC_FABRETRY).noteFault 90) s
  if x.fails + 1 = 8 then s.setRegF swc4 R.SWC_FABSTAT (linkKey l.src l.dst) 1 0 else s

/-- R395, R416: a fabric cell arrives in a slice. -/
def State.cellArrives (s : State) (sl : Slice) : State :=
  { s with fabIn := s.fabIn.upd sl.val fun l => s.time :: l.filter fun t => s.time ≤ t + 10000 }.noteAct sl 7 1

/-- R286: FABRIC_CELL_RECEIVE. -/
def execFabricCellReceive (l : Link) (crcOk : Bool) (s : State) : Out :=
  s.done (match (s.link l.src l.dst).flying with
    | [] => s
    | f :: r =>
      if !crcOk then s.linkFail l
      else ((s.updLink l.src l.dst fun x => { x with flying := r, fails := 0 }).cellArrives l.dst).settleIngress f)

/-- R286: the link is marked dead. -/
def State.killLink (s : State) (l : Link) : State :=
  let x := s.link l.src l.dst
  let s := (s.event swc4 (16 + linkKey l.src l.dst)).noteFault 91
  let s := s.updLink l.src l.dst fun y => { y with waiting := [], flying := [] }
  forAll (x.flying ++ x.waiting).dedup (fun f t => t.dropFabric l f) s

/-- R286: FABRIC_RETRAIN_COMPLETE. -/
def execFabricRetrainComplete (l : Link) (ok : Bool) (s : State) : Out :=
  let k := linkKey l.src l.dst
  s.done (if !(s.link l.src l.dst).retraining then s else
    let s := (s.count swc4 R.SWC_FABRETRAIN).event swc4 k
    if ok then
      (s.updLink l.src l.dst fun x => { x with fails := 0, retraining := false, retrainFails := 0 }).setRegF swc4
        R.SWC_FABSTAT k 1 1
    else
      let n := (s.link l.src l.dst).retrainFails + 1
      let s := s.updLink l.src l.dst fun x => { x with retrainFails := n, retraining := n < 3 }
      if n = 3 then s.killLink l else s)

/-! ### Spill and drain (R287, R288, R318, R319) -/

/-- R287: bytes of deep-tier buffers that a tenant may hold. -/
def State.spillQuota (s : State) (sl : Slice) (tid : Nat) : Nat := fld (s.ent (swcI sl) 1 tid 1) 0 20 * 2 ^ 24

/-- R288: a copy whose spill cannot be made. -/
def State.spillFail (s : State) (sl : Slice) (q cid : Nat) : State :=
  match s.findCopy sl q cid with
  | none => s
  | some c =>
    if 2 ≤ s.stage then (s.removeCopy sl q cid).dropCopy 7 c
    else if (s.queue sl q).any (fun x => decide (x.cid ≠ cid) && x.deep.isSome) then (s.removeCopy sl q cid).dropCopy 8 c
    else s

/-- R287, R288: the buffer for copies of one frame, charged to its tenant. -/
def State.spillBuffer (s : State) (sl : Slice) (c : Copy) (refs : Nat) : Option Nat × State :=
  if 2 ≤ s.stage || s.throttled sl 0 then (none, s) else
  match if s.bpmServes sl then s.findBuffer sl (fitPool c.deepBytes) else none with
  | some (p, _) =>
    let use := (s.swc sl).spillUse.get c.tid + poolSize p
    if s.spillQuota sl c.tid < use then (none, s)
    else
      let (a, t) := s.bpmAlloc sl c.deepBytes refs
      (a, t.updSwc sl fun x => { x with spillUse := x.spillUse.set c.tid use })
  | none => s.bpmAlloc sl c.deepBytes refs

/-- Start the spill of copies of one frame, all in their queues. -/
def State.spill (s : State) (sl : Slice) (c : Copy) (l : List (Nat × Nat)) : State :=
  match s.spillBuffer sl c l.length with
  | (none, t) => forAll l (fun (q, cid) u => u.spillFail sl q cid) t
  | (some a, t) =>
    forAll l (fun (q, cid) u => ((u.updCopy sl q cid fun x => { x with deep := some a }).updSwc sl fun x =>
      { x with spilling := x.spilling ++ [(q, cid)] }).count (swcI sl) R.SWC_SPILLCNT) t

/-- R287: the copies at the front of the spill queue that are copies of one frame, 255 at most (R296). -/
def State.spillGroup (s : State) (sl : Slice) (fid : Nat) (l : List (Nat × Nat)) : List (Nat × Nat) :=
  (l.takeWhile fun (q, cid) => (s.findCopy sl q cid).any fun c => decide (c.fid = fid) && c.deep.isNone && !c.gone).take 255

/-- R274: the copies of a frame that cannot be read for its spill are dropped under SRAMUNC. -/
def State.dropUnread (s : State) (sl : Slice) (l : List (Nat × Nat)) : State :=
  forAll l (fun (q, cid) t => match t.findCopy sl q cid with
    | some c => (t.removeCopy sl q cid).dropCopy 9 c
    | none => t) (s.sramUnc sl)

/-- R287, R274: COPY_SPILL; `read` is what the reads of its cells found. A spill wakes a slice that sleeps (R336). -/
def execCopySpill (sl : Slice) (read : SramRead) (s : State) : Out :=
  s.done (if s.inBlockReset (swcI sl) then s else
    match (s.swc sl).spillQ with
    | [] => s
    | (q, cid) :: r =>
      if !s.awake sl then s.requestWake sl else
      match s.findCopy sl q cid with
      | none => s.updSwc sl fun x => { x with spillQ := r }
      | some c =>
        if c.gone || c.deep.isSome then s.updSwc sl fun x => { x with spillQ := r }
        else if !(s.frame c.fid).final || !s.cellsHere c.fid sl then s
        else
          let l := s.spillGroup sl c.fid (s.swc sl).spillQ
          let s := (s.updSwc sl fun x => { x with spillQ := x.spillQ.drop l.length }).noteAct sl 5 (s.frameCells c.fid)
          match read with
          | .clean => s.spill sl c l
          | .corrected => (s.sramCor sl).spill sl c l
          | .badData => s.dropUnread sl l
          | .badLink k => (s.updSwc sl fun x => x.leakChain c.fid k.val).dropUnread sl l)

/-- R314, R319: every block of the oldest spill write is accepted: the copies in its buffer leave the SRAM. In Nap or Deep the
deep tier serves nothing, and the write wakes the slice (R336, R394). -/
def execSpillWriteComplete (sl : Slice) (s : State) : Out :=
  s.done (match (s.swc sl).spilling with
    | [] => s
    | (q, cid) :: r =>
      match s.findCopy sl q cid with
      | none => s.updSwc sl fun x => { x with spilling := r }
      | some c =>
        let a := c.deep.getD 0
        if 2 ≤ s.sleep sl then s.requestWake sl else
        if !s.deepServes sl 0 a c.deepBytes then s else
        let s := s.serveDeep sl 0 a c.deepBytes
        let same := fun (k : Nat × Nat) => (s.findCopy sl k.1 k.2).any fun x => x.deep = c.deep
        let l := (s.swc sl).spilling.filter same
        let s := s.updSwc sl fun x => { x with spilling := x.spilling.filter fun k => !same k }
        forAll l (fun (k, id) t => match t.findCopy sl k id with
          | none => t
          | some x => (t.unchargeCopy x).updCopy sl k id fun y => { y with a := 0, b := 0, s := 0 }) s)

/-- R288: the next deep-tier copy of a queue to read back. -/
def State.nextDrain (s : State) (sl : Slice) (q : Nat) : Option Copy :=
  (s.queue sl q).find? fun c => c.inDeep && !c.gone && !(s.swc sl).draining.contains (q, c.cid)

/-- R288: DRAIN_READBACK. -/
def execDrainReadback (sl : Slice) (q : Fin 524288) (s : State) : Out :=
  s.done (if s.inBlockReset (swcI sl) || s.inBlockReset (slInst .dtc sl) then s else
    match s.nextDrain sl q.val with
    | none => s
    | some c =>
      if !s.awake sl then s.requestWake sl
      else if s.throttled sl 1 || (!s.gov.drain5 && fld (s.qprof sl q.val 2) 0 19 ≤ sramCells (s.queue sl q.val)) then s
      else s.updSwc sl fun x => { x with draining := x.draining ++ [(q.val, c.cid)] })

/-- R318: a block of a buffer lies in a member that is not ONLINE. -/
def State.bufferOffline (s : State) (sl : Slice) (a n : Nat) : Bool :=
  (s.members sl).any fun c => !s.chOnline c && s.touches sl a n c

/-- R288: the drain of a queue pauses: its copies being read back stay in the deep tier. -/
def State.pauseDrain (s : State) (sl : Slice) (q : Nat) : State :=
  s.updSwc sl fun x => { x with draining := x.draining.filter fun k => k.1 ≠ q }

/-- R288: a copy whose data has been read back is charged in SRAM, or stays where R279 would refuse it. -/
def State.readBack (s : State) (sl : Slice) (q : Nat) (c : Copy) (addr : Nat) : State :=
  if 3 ≤ s.stage && c.eclass = 2 then s.pauseDrain sl q else
  match s.admission sl (portClass c.port (c.queue % 8)) c.tid (cellsOf c.len) with
  | none => s.pauseDrain sl q
  | some (a, b, n) =>
    let d := { c with a := a, b := b, s := n, deep := none, wasDeep := true }
    (((s.releaseBuffer sl c.tid addr).updCopy sl q c.cid fun _ => d).chargeCopy d).count (swcI sl) R.SWC_DRAINCNT

/-- The copy that a queue and a number name, with its buffer. -/
def State.deepCopy (s : State) (sl : Slice) (q cid : Nat) : Option (Copy × Nat) :=
  (s.findCopy sl q cid).bind fun c => c.deep.map fun a => (c, a)

/-- R288, R318, R328: a drain read has returned the copy's buffer; `block` is the block an error lies in. -/
def State.drained (s : State) (sl : Slice) (q : Nat) (c : Copy) (a : Nat) (ecc : Ecc) (block : Nat) (dev : BitVec 5) : State :=
  let s := (s.serveDeep sl 1 a c.deepBytes).blockError sl (a / 256 + block % cdiv c.deepBytes 256) ecc dev
  if ecc = .uncorrectable then (s.removeCopy sl q c.cid).dropCopy 10 c else s.readBack sl q c a

/-- R288, R314: DRAIN_READ_COMPLETE; as a spill write, it wakes a slice in Nap or Deep. -/
def execDrainReadComplete (sl : Slice) (ecc : Ecc) (block : Fin 256) (dev : BitVec 5) (s : State) : Out :=
  s.done (match (s.swc sl).draining with
    | [] => s
    | (q, cid) :: r =>
      let t := s.updSwc sl fun x => { x with draining := r }
      match s.deepCopy sl q cid with
      | none => t
      | some (c, a) =>
        if s.bufferOffline sl a c.deepBytes then (t.removeCopy sl q cid).dropCopy 10 c
        else if 2 ≤ s.sleep sl then s.requestWake sl
        else if s.deepServes sl 1 a c.deepBytes then t.drained sl q c a ecc block.val dev else s)

/-! ### Configuration, Retriever (R275, R299, R303) -/

/-- Store a reserve or a guarantee. -/
def State.storePool (s : State) (sl : Slice) (f : PoolField) (v : Word) : State :=
  let i := swcI sl
  match f with
  | .ingRsv => s.plainWrite i R.SWC_INGRSV v
  | .puntRsv => s.plainWrite i R.SWC_PUNTRSV v
  | .guar pc => s.setEnt i 0 pc.val 0 (v &&& winMaskAt i 0 pc.val 0)
  | .tguar t => s.setEnt i 1 t.val 0 (v &&& winMaskAt i 1 t.val 0)

/-- R275: a write of a reserve or a guarantee that leaves SHSIZE at 4,096 at least. -/
def State.writePool (s : State) (sl : Slice) (f : PoolField) (v : Word) : State :=
  let t := s.storePool sl f v
  if t.takenCells sl + 4096 ≤ sliceCells then t.syncShared sl else s.event (swcI sl) 0

/-- The access that writes a reserve or a guarantee. -/
def poolAccess (inst : Fin 16) (f : PoolField) (v : Word) : Access :=
  let a : Access := { inst := ⟨.swc, inst⟩ }
  match f with
  | .ingRsv => { a with off := R.SWC_INGRSV, value := some v }
  | .puntRsv => { a with off := R.SWC_PUNTRSV, value := some v }
  | .guar pc => { a with store := some (0, pc.val, [(0, v)]) }
  | .tguar t => { a with store := some (1, t.val, [(0, v)]) }

/-- R275: SHARED_POOL_CONFIG_WRITE. -/
def execSharedPoolConfigWrite (inst : Fin 16) (f : PoolField) (v : Word) (s : State) : Out :=
  s.done (s.accessSlices .swc inst (poolAccess inst f v) fun sl t => t.writePool sl f v)

/-- R303: a write of SWC_HRCFG. -/
def State.writeHrcfg (s : State) (v : Word) : State :=
  let s := s.plainWrite swc4 R.SWC_HRCFG v
  if bit v 8 then { s.setReg swc4 R.SWC_HRHEAD 0 with hrPhase := true } else s

/-- R303: HRCFG_ENABLE. -/
def execHrcfgEnable (v : Word) (s : State) : Out :=
  s.done (s.access { inst := swc4, off := R.SWC_HRCFG, value := some v } fun t => t.writeHrcfg v)

/-- R299: a sweep ends: of the cells that are in use, that nothing reaches and that were not allocated during the sweep, those found
so in the last sweep too are freed. -/
def execRetrieverSweepEnd (sl : Slice) (s : State) : Out :=
  s.done (if !s.regB (swcI sl) R.SWC_CTRL 0 || !s.taskActs sl 16 then s else
    let lost := (s.swc sl).leaked.filter fun k => !((s.swc sl).fresh.getD []).contains k
    let freed := lost.filter fun k => (s.swc sl).suspect.contains k
    let s := (s.updSwc sl fun x => { x with
      leaked := x.leaked.filter fun k => !freed.contains k, suspect := lost.filter fun k => !freed.contains k
      fresh := none }).endTask sl 16
    forAll freed (fun _ t => ((t.count (swcI sl) R.SWC_RETRIEVE).event (swcI sl) 3).noteFault (srcOf 13 sl)) s)

end Sys2Proof.Machine
end

