-- ==== Sys2Proof/Machine/Punt.lean ====
section
/-! DEFINITION. The CPU port: punt rings, free buffers and inject rings (R289, R298, R487-R489). -/

namespace Sys2Proof.Machine

/-! ### Punt rings (R487, R488, R494) -/

/-- A 64-bit address in two words of a ring block. -/
def State.ringAddr (s : State) (e lo : Nat) : Nat := (s.ring e (lo + 1)).toNat * 2 ^ 32 + (s.ring e lo).toNat

/-- The buffer length of class `k` of a punt ring; 0 where the class is unused. -/
def State.classSize (s : State) (r k : Nat) : Nat := fld (s.ring (puntBlk r) 7) (8 * k) 8 * 128

/-- A punt ring or an inject ring is enabled. -/
def State.puntOn (s : State) (r : Nat) : Bool := bit (s.ring (puntBlk r) 2) 16
def State.injOn (s : State) (r : Nat) : Bool := bit (s.ring (injBlk r) 2) 8

/-- Entries of a punt ring's completion ring, and the next index to write. -/
def State.cplSize (s : State) (r : Nat) : Nat := 2 ^ log2n (fld (s.ring (puntBlk r) 2) 8 5) 6 14
def State.cplHead (s : State) (r : Nat) : Nat := fld (s.ring (puntBlk r) 6) 16 14

/-- The completion ring has an entry free. -/
def State.cplRoom (s : State) (r : Nat) : Bool :=
  decide ((s.cplHead r + 1) % s.cplSize r ≠ fld (s.ring (puntBlk r) 6) 0 14)

/-- The bytes of a punt item: a frame whole, or the item's own. [DEDUCED, log 55] -/
def State.puntBytes (s : State) (p : PuntItem) : List Byte := if p.kind = 2 then p.bytes else (s.frame p.fid).bytes

/-- R298: of the classes that hold `n` bytes and have a cached buffer, the smallest; the first of equal ones.
[DESIGN CHOICE, log 54] -/
def State.pickClass (s : State) (r n : Nat) : Option Nat :=
  let fit := (List.range 4).filter fun k =>
    n ≤ s.classSize r k && s.classSize r k ≠ 0 && (s.hif.rings.get r).cache.any fun (c, _) => c = k
  match fit with
  | [] => none
  | k :: l => some (l.foldl (fun m j => if s.classSize r j < s.classSize r m then j else m) k)

/-- The item can be delivered or dropped now: its frame is whole, and a ring in use has a completion entry free. -/
def State.puntReady (s : State) (p : PuntItem) : Bool :=
  (p.kind = 2 || (s.frame p.fid).final) && (!s.puntOn p.ring || (s.pickClass p.ring (s.puntBytes p).length).isNone
    || s.cplRoom p.ring)

/-- R488: the completion of an item. -/
def puntCpl (p : PuntItem) (addr : BitVec 64) (n cls : Nat) (phase : Bool) : List Byte :=
  leBytes 8 addr.toNat ++ leBytes 2 n ++ [BitVec.ofNat 8 (p.kind + 4 * cls + if phase then 128 else 0),
    BitVec.ofNat 8 p.inport] ++ leBytes 4 p.aux.toNat ++ leBytes 4 p.tsSec.toNat ++ leBytes 4 p.tsNs.toNat
    ++ [BitVec.ofNat 8 p.tid, BitVec.ofNat 8 p.tclass, 0, 0] ++ leBytes 4 p.seq.toNat

/-- The vector of a ring's owner: 56 of the PF, 1 of a VF (R473, R509). -/
def State.ringVector (s : State) (punt : Bool) (r : Nat) : State :=
  let t := s.ringOwner punt r
  if t = 0 then s.sendMsi 0 56 else s.sendMsi t 1

/-- Write an item into a buffer of class `k`, then its completion. -/
def State.deliver (s : State) (p : PuntItem) (k : Nat) : State :=
  let r := p.ring
  let x := s.hif.rings.get r
  let addr := ((x.cache.find? fun (c, _) => c = k).map (·.2)).getD 0
  let b := s.puntBytes p
  let h := s.cplHead r
  let next := (h + 1) % s.cplSize r
  let s := s.dma addr.toNat b
  let s := s.dma (s.ringAddr (puntBlk r) 3 + 32 * h) (puntCpl p addr b.length k x.phase)
  let y : RingSt := { cache := x.cache.erase (k, addr), phase := if next ≤ h then !x.phase else x.phase }
  let s := { s with hif := { s.hif with rings := s.hif.rings.set r y } }
  (s.setRing (puntBlk r) 6 16 14 next).ringVector true r

/-- R487: an item for which no buffer fits, or whose ring is disabled, is dropped. -/
def State.deliverOrDrop (s : State) (p : PuntItem) : State :=
  match if s.puntOn p.ring then s.pickClass p.ring (s.puntBytes p).length else none with
  | some k => s.deliver p k
  | none => (s.count hif4 R.HIF_PUNTDROP).event hif4 6

/-- The first item of a slice that HIF can take. -/
def State.nextPunt (s : State) (sl : Slice) : Option PuntItem :=
  if s.awake sl && !s.inBlockReset (swcI sl) then (s.swc sl).punts.find? s.puntReady else none

/-- R274: an item whose cells cannot be read is dropped: a punt under SRAMUNC, a copy or sample as one discarded. Cells beyond
a damaged link are left to Retriever. [DESIGN CHOICE, log 121] -/
def State.dropItem (s : State) (sl : Slice) (p : PuntItem) (read : SramRead) : State :=
  let s := s.sramUnc sl
  let s := match read with
    | .badLink k => s.updSwc sl fun x => { x with leaked := x.leaked ++ p.chain.drop (k.val + 1) }
    | _ => s
  if p.kind = 0 then s.countDrop sl 9 else s.discardSmp sl

/-- R293: a slice holds a capture record that the enabled ring takes. -/
def State.captureWaits (s : State) (sl : Slice) : Bool := s.regB swc4 R.SWC_HRCFG 8 && (s.swc sl).captures ≠ []

/-- The oldest capture record of a slice that HIF can take. -/
def State.nextCapture (s : State) (sl : Slice) : Option (List Byte) :=
  if s.awake sl && !s.inBlockReset (swcI sl) && s.captureWaits sl then (s.swc sl).captures.head? else none

/-- R289: the slice that HIF serves next: the first from its turn on with an item or a record it can take. Which of the two it
takes first of one slice is the commands' order. [DESIGN CHOICE, log 130] -/
def State.puntTurn (s : State) : Option Slice :=
  if s.inBlockReset hif4 then none else
  ((List.range 4).map fun k => (Fin.ofNat 4 (s.hif.puntRr + k) : Slice)).find? fun sl =>
    (s.nextPunt sl).isSome || (s.nextCapture sl).isSome

/-- HIF has read `n` cells of a slice's punt reserve, and its turn passes on. -/
def State.puntServed (s : State) (sl : Slice) (n : Nat) : State :=
  { (s.updSwc sl fun x => { x with puntUse := x.puntUse - n }).syncShared sl with
    hif := { s.hif with puntRr := (sl.val + 1) % 4 } }.noteAct sl 5 n

/-- The sleeping slices that hold something for HIF are asked to wake. -/
def State.wakePunts (s : State) : State :=
  if s.inBlockReset hif4 then s else
  forAll (slices.filter fun sl => (s.swc sl).punts.any s.puntReady || s.captureWaits sl) (fun sl t => t.requestWake sl) s

/-- R289, R274: HIF takes an item of the slice whose turn it is; `read` is what the reads of the item's cells found. -/
def execPuntDeliver (read : SramRead) (s : State) : Out :=
  s.done (match s.puntTurn with
    | none => s.wakePunts
    | some sl => match s.nextPunt sl with
      | none => s
      | some p =>
        let s := (s.updSwc sl fun x => { x with punts := x.punts.erase p }).puntServed sl p.cells
        match read with
        | .clean => s.deliverOrDrop p
        | .corrected => (s.sramCor sl).deliverOrDrop p
        | .badData | .badLink _ => s.dropItem sl p read)

/-- R293: write a record at HRHEAD, or discard it where the ring is full. -/
def State.writeCapture (s : State) (b : List Byte) : State :=
  let n := 2 ^ log2n (s.regF swc4 R.SWC_HRCFG 0 5) 6 20
  let h := s.regF swc4 R.SWC_HRHEAD 0 20
  let next := (h + 1) % n
  if next = s.regF swc4 R.SWC_HRTAIL 0 20 then s.count swc4 R.SWC_HRDROP
  else
    let base := (s.reg swc4 R.SWC_HRBASE_HI).toNat * 2 ^ 32 + (s.reg swc4 R.SWC_HRBASE_LO).toNat
    let s := s.dma (base + 64 * h) (b.set 9 (if s.hrPhase then 1 else 0))
    { s.setReg swc4 R.SWC_HRHEAD (BitVec.ofNat 32 next) with
      hrPhase := if next ≤ h then !s.hrPhase else s.hrPhase }

/-- R293, R289, R274: HIF takes the oldest capture record of the slice whose turn it is. A record lies in one cell, beyond whose
link there is none. -/
def execHeaderCaptureWrite (read : SramRead) (s : State) : Out :=
  s.done (match s.puntTurn with
    | none => s.wakePunts
    | some sl => match s.nextCapture sl with
      | none => s
      | some b =>
        let s := (s.updSwc sl fun x => { x with captures := x.captures.drop 1 }.trimChain 0 (x.captures.length - 1)).puntServed sl 1
        match read with
        | .clean => s.writeCapture b
        | .corrected => (s.sramCor sl).writeCapture b
        | .badData | .badLink _ => (s.sramUnc sl).discardSmp sl)

/-- R487: the next posted descriptor of a ring is cached, unless its class holds 16. -/
def execFreeDescriptorPrefetch (ring : Fin 64) (addr : BitVec 64) (cls : Fin 4) (s : State) : Out :=
  let r := ring.val
  let e := puntBlk r
  let x := s.hif.rings.get r
  let head := fld (s.ring e 5) 16 14
  s.done (if s.inBlockReset hif4 || !s.puntOn r || head = fld (s.ring e 5) 0 14
      || 16 ≤ (x.cache.countP fun (c, _) => c = cls.val) then s
    else
      let n := 2 ^ log2n (fld (s.ring e 2) 0 5) 6 14
      { s with hif := { s.hif with rings := s.hif.rings.set r { x with cache := x.cache ++ [(cls.val, addr)] } }
        }.setRing e 5 16 14 ((head + 1) % n))

/-! ### Inject rings (R489) -/

/-- R485: the destination lies within what the tenant map gives TID `t`. [DEDUCED, log 60] -/
def State.injectAllowed (s : State) (t action : Nat) (dest : Word) : Bool :=
  if t = 0 then true
  else if action = 1 then
    let e : Slice := Fin.ofNat 4 (fld dest 0 2)
    decide (fld (s.svcW e (s.service e (fld dest 2 16)) 0) 14 8 = t)
  else
    let w := s.ent hif4 0 t 12
    fld w 0 16 ≤ fld dest 0 16 && fld dest 0 16 ≤ fld w 16 16

/-- The result descriptor of an injected frame. -/
def injectRd (desc : List Byte) (tid : Nat) : List Byte :=
  let b := fun k => (desc[k]?).getD 0
  let flags : Nat := (if (b 20).getLsbD 3 then 2 else 0) + if (b 20).getLsbD 2 then 4 else 0
  [b 10, BitVec.ofNat 8 flags, b 11 &&& 7, 0] ++ slice desc 12 4 ++ slice desc 16 2 ++ [b 18 &&& 63, 0] ++ leBytes 4 0
    ++ slice desc 32 32 ++ [BitVec.ofNat 8 tid, 0, 0, 0] ++ leBytes 4 0 ++ leBytes 8 0

/-- An injected frame enters a slice's ingress reserve and is resolved from step 3 of R277. -/
def State.enterInject (s : State) (sl : Slice) (rd : List Byte) (data : List Byte) : State :=
  let bytes := data ++ fcsOf data
  let n := cellsOf bytes.length
  let k := s.nextFrame
  let f : Frame := { inport := Fin.ofNat 256 (64 * sl.val), bytes := bytes, final := true, injected := true, ingCells := n }
  let s := (({ s with frames := s.frames.set k f, nextFrame := k + 1 }).addIngress sl n).takeCells sl k
  s.resolveDesc sl { fid := k, rd := rd, mdLen := bytes.length, injected := true }

/-- The device has read an inject frame: DONE is written, HEAD advances, and the owner is told. -/
def State.injectDone (s : State) (r : Nat) (desc : List Byte) : State :=
  let e := injBlk r
  let h := fld (s.ring e 3) 16 14
  let n := 2 ^ log2n (fld (s.ring e 2) 0 5) 6 14
  let s := s.dma (s.ringAddr e 0 + 64 * h + 31) [((desc[31]?).getD 0) ||| 0x80]
  let s := s.setRing e 3 16 14 ((h + 1) % n)
  let s := if s.ringOwner false r = 0 then s.setRegB hif4 R.HIF_INJPROG 0 true else s
  s.ringVector false r

/-- Drop an inject frame that its descriptor or its owner does not allow. -/
def State.denyInject (s : State) : State := s.count hif4 R.HIF_INJDENY

/-- An inject ring is enabled and holds a descriptor not yet taken. -/
def State.injWaits (s : State) (r : Nat) : Bool :=
  s.injOn r && decide (fld (s.ring (injBlk r) 3) 16 14 ≠ fld (s.ring (injBlk r) 3) 0 14)

/-- R489: the inject ring whose turn it is. -/
def State.injTurn (s : State) : Option Nat := ((List.range 64).map fun k => (s.hif.injRr + k) % 64).find? s.injWaits

/-- R489: take the next descriptor of the inject ring whose turn it is, and its frame; the frame waits for room in the slice
it names, and the turn passes on. [DESIGN CHOICE, log 116] -/
def execInjectFetch (ring : Fin 64) (desc : List Byte) (frame : List Byte) (s : State) : Out :=
  let r := ring.val
  let len := ofLe (slice desc 8 2)
  let action := ((desc[10]?).getD 0).toNat
  let sl : Slice := Fin.ofNat 4 (((desc[20]?).getD 0).toNat % 4)
  let own := s.ringOwner false r
  let tid := if own = 0 then ((desc[19]?).getD 0).toNat else own
  s.done (if s.inBlockReset hif4 || s.injTurn ≠ some r then s
    else
    let s := { s with hif := { s.hif with injRr := (r + 1) % 64 } }
    if (action ≠ 1 && action ≠ 2) || len < 60 || 16379 < len
        || !s.injectAllowed own action (BitVec.ofNat 32 (ofLe (slice desc 12 4))) then
      (s.injectDone r desc).denyInject
    else if !s.awake sl then s.requestWake sl
    else if s.inBlockReset (swcI sl)
        || s.regF (swcI sl) R.SWC_INGRSV 0 19 < s.regF (swcI sl) R.SWC_INGUSE 0 19 + cellsOf (len + 4) then s
    else (s.injectDone r desc).enterInject sl (injectRd desc tid) (slice frame 0 len))

end Sys2Proof.Machine
end

