-- ==== Sys2Proof/Machine/Egv.lean ====
section
/-! DEFINITION. The energy governor: sensors, power estimate and refill, DVFS levels, sleep, housekeeping, sprint, droop
and the supply stages (R379-R417, R547). -/

namespace Sys2Proof.Machine

abbrev egvI (sl : Slice) : InstId := slInst .egv sl

/-! ### Levels (R388-R391, R403, R404) -/

/-- LEVEL and CAP of EGV_SSTAT. -/
def State.level (s : State) (sl : Slice) : Nat := s.regF (egvI sl) R.EGV_SSTAT 0 3
def State.levelCap (s : State) (sl : Slice) : Nat := s.regF (egvI sl) R.EGV_SSTAT 12 3
def State.avsFail (s : State) (sl : Slice) : Bool := s.regB (egvI sl) R.EGV_SSTAT 18
def State.hot (s : State) : Bool := s.regB egv4 R.EGV_DSTAT 31
def State.coefOk (s : State) : Bool := s.regB egv4 R.EGV_DCTRL 2

/-- R380: the readings of the valid sensors of a slice, in 1/8 °C. -/
def State.validTemps (s : State) (sl : Slice) : List Int :=
  (List.range 6).filterMap fun k =>
    let w := s.reg (egvI sl) (R.EGV_SENSOR + 4 * k)
    if bit w 16 then none else some (sext (fld w 0 16) 16)

/-- R391: the caps in force, each with its code in CAPBY. [DEDUCED, log 75] -/
def State.caps (s : State) (sl : Slice) : List (Nat × Nat) :=
  (if 3 ≤ s.stage then [(2, 1)] else []) ++ (if s.hot then [(0, 2)] else [])
    ++ (if (s.validTemps sl).length < 3 then [(0, 3)] else [])
    ++ (if s.avsFail sl then [(s.level sl, 4)] else [])
    ++ (match (s.egv sl).droopCap with
      | some l => [(l, 5)]
      | none => [])
    ++ if s.coefOk then [] else [(2, 6)]

/-- The lowest cap, the first named of equal ones; none below L5 is L5 by nothing. -/
def lowestCap (l : List (Nat × Nat)) : Nat × Nat := l.foldl (fun m c => if c.1 < m.1 then c else m) (5, 0)

/-- CAP and CAPBY show the cap in force. -/
def State.showCap (s : State) (sl : Slice) : State :=
  let c := lowestCap (s.caps sl)
  (s.setRegF (egvI sl) R.EGV_SSTAT 12 3 c.1).setRegF (egvI sl) R.EGV_SSTAT 15 3 c.2

/-- R389, R391: the level applied is the lower of demand and cap. A lower level takes its clocks at once, a higher one when
the voltage is reached; one change at a time, in a slice that is awake. After a failure of the regulator no level is raised, and a
level that falls is the cap from then on (R390). -/
def State.syncLevel (s : State) (sl : Slice) : State :=
  let cap := if s.avsFail sl then min (s.levelCap sl) (s.level sl) else s.levelCap sl
  let target := min (s.egv sl).want cap
  if !s.boot.avs || (s.egv sl).changing.isSome || !s.awake sl || s.inBlockReset (egvI sl) || target = s.level sl then s
  else
    let t := s.updEgv sl fun e => { e with changing := some target }
    if s.level sl ≤ target then t else
      let t := t.setRegF (egvI sl) R.EGV_SSTAT 0 3 target
      if s.avsFail sl then t.showCap sl else t

/-- Bring CAP and CAPBY up to date, and the level with them. -/
def State.syncCap (s : State) (sl : Slice) : State := (s.showCap sl).syncLevel sl

def State.syncCaps (s : State) : State := forAll slices (fun sl t => t.syncCap sl) s

/-- R391: the demand level of a computation: the lowest level that serves the counts of 100 µs (packets assigned, their
issue cycles, dequeues), within LMIN and LMAX, or FLEVEL. Levels 6 and 7 of a field read as 5. -/
def State.demandOf (s : State) (sl : Slice) (assigned issue dequeued : Nat) : Nat :=
  let i := egvI sl
  let lim := fun lo => min (s.regF i R.EGV_SCTRL lo 3) 5
  let need := (16 + s.regF i R.EGV_SCTRL 12 4) * max (max (5 * (issue + 6 * assigned)) (336 * dequeued)) (240 * assigned)
  let l := ((List.range 6).find? fun l => need ≤ levelMhz l * 100 * 16 * 1920).getD 5
  if s.regB i R.EGV_SCTRL 19 then lim 16 else min (max l (lim 0)) (lim 4)

/-- R391: a demand that is not below the current level takes effect at once; a lower one after 10 computations in a row below
the current level, to the highest of them. A rise wakes a sleeping slice (R394). [DEDUCED, log 75] -/
def State.applyDemand (s : State) (sl : Slice) (d : Nat) : State :=
  let e := s.egv sl
  let s := s.setRegF (egvI sl) R.EGV_SSTAT 4 3 d
  if s.level sl ≤ d then
    let s := if s.level sl < d then s.requestWake sl else s
    (s.updEgv sl fun e => { e with want := d, falls := 0, fallTo := 0 }).syncLevel sl
  else if e.falls < 9 then s.updEgv sl fun e => { e with falls := e.falls + 1, fallTo := max e.fallTo d }
  else (s.updEgv sl fun e => { e with want := max e.fallTo d, falls := 0, fallTo := 0 }).syncLevel sl

/-- R391: a macro of the slice holds a quarter of its absorption buffer, and no rise for that came in the last 10 µs. -/
def State.pressed (s : State) (sl : Slice) : Bool :=
  (List.range 8).any (fun m => absSize ≤ 4 * (s.macro (8 * sl.val + m)).absBytes)
    && (s.egv sl).pressAt.all fun t => t + 10000 ≤ s.time

/-- R391: a quarter-full buffer asks for one level above the current one, within LMAX and under FORCE; the computations of a lower
demand are not concerned. The buffers are looked at when a window of R71 ends and at each computation. [DESIGN CHOICE, log 125] -/
def State.pressDemand (s : State) (sl : Slice) : State :=
  let i := egvI sl
  let d := min (s.level sl + 1) (min (s.regF i R.EGV_SCTRL 4 3) 5)
  if !s.pressed sl || s.regB i R.EGV_SCTRL 19 || d ≤ s.level sl || s.inBlockReset i then s else
  let s := (s.updEgv sl fun e => { e with want := max e.want d, pressAt := some s.time }).setRegF i R.EGV_SSTAT 4 3 d
  (s.requestWake sl).syncLevel sl

/-- R391: the counts of packets assigned, issue cycles and dequeues start again. -/
def State.clearDemand (s : State) (sl : Slice) : State :=
  { s with acts := ((s.acts.set (16 * sl.val + 12) 0).set (16 * sl.val + 13) 0).set (16 * sl.val + 14) 0 }

/-- R391: DVFS_COMPUTE: the demand of the counts since the last computation. -/
def execDvfsCompute (sl : Slice) (s : State) : Out :=
  let d := s.demandOf sl (s.actOf sl 12) (s.actOf sl 13) (s.actOf sl 14)
  s.done (if s.inBlockReset (egvI sl) then s
    else (((s.clearDemand sl).syncCap sl).applyDemand sl d).pressDemand sl)

/-- R71: ABSRATE_WINDOW_END. -/
def execAbsrateWindowEnd (m : Macro) (s : State) : Out :=
  s.done ((s.absrateEnd m.val).pressDemand (Fin.ofNat 4 (m.val / 8)))

/-- R390: the regulator has failed: the level stays the lower of the two where a change is in progress, and no raise follows. -/
def State.failAvs (s : State) (sl : Slice) : State :=
  let s := s.updEgv sl fun e => { e with changing := none }
  let s := (s.setRegB (egvI sl) R.EGV_SSTAT 18 true).event egv4 7
  (s.noteFault 85).syncCap sl

/-- R389, R390: LEVEL_CHANGE_COMPLETE. The regulator may also fail while no change is in progress, once the governor has its bus:
its answers and its voltage are read then too. -/
def execLevelChangeComplete (sl : Slice) (ok : Bool) (s : State) : Out :=
  s.done (if s.inBlockReset (egvI sl) then s
    else if !ok then (if s.boot.avs || (s.egv sl).changing.isSome then s.failAvs sl else s)
    else match (s.egv sl).changing with
    | none => s
    | some l => ((s.setRegF (egvI sl) R.EGV_SSTAT 0 3 l).updEgv sl fun e => { e with changing := none }).syncLevel sl)

/-! ### Droop (R402, R404) -/

/-- Stretched time, in ns, of a slice in the last 10 ms. -/
def State.stretched (s : State) (sl : Slice) : Nat :=
  let e := s.egv sl
  let from_ := s.time - 10000000
  let all := if e.droop then (e.droopSince, s.time) :: e.droops else e.droops
  (all.map fun (a, b) => b - max a from_).sum

/-- R404: clocks stretched for more than 1 ms of the last 10 ms lower the level by one for 100 ms. -/
def State.checkStretch (s : State) (sl : Slice) : State :=
  if (s.egv sl).droopCap.isSome || s.stretched sl ≤ 1000000 then s
  else ((s.updEgv sl fun e => { e with droopCap := some (s.level sl - 1) }).event egv4 6).syncCap sl

/-- R402: DROOP_DETECT. A slice that failed self-test is held in reset (R537). -/
def execDroopDetect (sl : Slice) (s : State) : Out :=
  let t := s.count (egvI sl) R.EGV_DROOP 16 16
  s.done (if s.failed sl then s else if (s.egv sl).droop then t else t.updEgv sl fun e => { e with droop := true, droopSince := s.time })

/-- R402: DROOP_RECOVER. -/
def execDroopRecover (sl : Slice) (s : State) : Out :=
  s.done (if !(s.egv sl).droop || s.failed sl then s else
    (s.updEgv sl fun e => { e with
      droop := false
      droops := (e.droopSince, s.time) :: e.droops.filter fun (_, b) => s.time ≤ b + 10000000 }).checkStretch sl)

/-- R404: DROOP_LONG_END. -/
def execDroopLongEnd (sl : Slice) (s : State) : Out :=
  s.done (if s.failed sl then s else (s.updEgv sl fun e => { e with droopCap := none }).syncCap sl)

/-! ### Sprint (R399) -/

/-- The sprint in progress ends. -/
def State.endSprint (s : State) : State :=
  if !s.regB egv4 R.EGV_DSTAT 29 then s
  else
    let t := (s.setRegB egv4 R.EGV_DSTAT 29 false).event egv4 2
    { t with gov := { t.gov with sprintMs := 0, sinceSprint := 0 } }

/-- R399: the conditions of the grant. SPRINT_MAX 0 reads as 1. -/
def State.sprintAllowed (s : State) : Bool :=
  s.regB egv4 R.EGV_DCTRL 0 && s.coefOk && decide (s.stage < 3) && !s.hot
    && slices.all (fun sl => decide (3 ≤ (s.validTemps sl).length)) && !s.regB egv4 R.EGV_DSTAT 30
    && decide (s.gov.sprintMs < 1000 * max 1 (s.regF egv4 R.EGV_SPRINTCFG 0 8))
    && (s.regB egv4 R.EGV_DSTAT 29 || decide (10000 ≤ s.gov.sinceSprint))

/-- Grant or end sprint at a tick; sprint time runs while the estimate exceeds SUS. [DEDUCED, log 78] -/
def State.tickSprint (s : State) (above : Bool) : State :=
  let granted := s.regB egv4 R.EGV_DSTAT 29
  let s := { s with gov := { s.gov with
    sprintMs := if granted && above then s.gov.sprintMs + 1 else s.gov.sprintMs
    unbinned := if above then s.gov.unbinned + 1 else s.gov.unbinned
    sinceSprint := if granted then s.gov.sinceSprint else min (s.gov.sinceSprint + 1) 10000 } }
  if !s.sprintAllowed then s.endSprint
  else if granted then s else (s.setRegB egv4 R.EGV_DSTAT 29 true).event egv4 2

/-! ### Sensors (R380, R401, R413) -/

/-- R401: THOT in 1/8 °C; above 114 it reads as 114. -/
def State.thot (s : State) : Int := 8 * min (s.regF egv4 R.EGV_TLIM 16 8) 114

/-- All valid readings. -/
def State.allTemps (s : State) : List Int := slices.flatMap s.validTemps

/-- R401: the limits, independent of the model. Readings are in 1/8 °C. -/
def State.checkLimits (s : State) : State :=
  let l := s.allTemps
  let any := fun (x : Int) => l.any fun t => decide (x ≤ t)
  let below := fun (x : Int) => l ≠ [] && l.all fun t => decide (t < x)
  let s := if any s.thot && !s.hot then
      ((s.setRegB egv4 R.EGV_DSTAT 31 true).event egv4 4).noteFault 87 |>.endSprint
    else if s.hot && below (s.thot - 40) then s.setRegB egv4 R.EGV_DSTAT 31 false
    else s
  let s := if any 920 && !s.flt.t115 then { s with flt := { s.flt with t115 := true } }.noteFault 88
    else if below 760 then
      { s with flt := { s.flt with t115 := false }, gov := { s.gov with t115Held := false } }
    else s
  if any 1000 then s.noteFault 89 else s

/-- R413: two valid sensors differ by more than 30 °C. -/
def State.gradient (s : State) : Bool :=
  match s.allTemps with
  | [] => false
  | t :: r => decide (240 < r.foldl max t - r.foldl min t)

/-- R380: one reading, in 1/8 °C. [DEDUCED, log 77] -/
def State.takeReading (s : State) (sl : Slice) (k : Nat) (temp : BitVec 16) : State :=
  let off := R.EGV_SENSOR + 4 * k
  let s := s.setRegF (egvI sl) off 0 16 temp.toNat
  let s := if -440 ≤ temp.toInt && temp.toInt ≤ 1200 || s.regB (egvI sl) off 16 then s
    else ((s.setRegB (egvI sl) off 16 true).event egv4 9).noteFault 84
  match s.validTemps sl with
  | [] => s
  | t :: r => s.setRegF (egvI sl) R.EGV_TSLICE 0 16 (BitVec.ofInt 16 (r.foldl max t)).toNat

/-- R5: an EN2564-S with its rails up reads a junction temperature below 0 °C: the manual's guarantee is lost.
[DEDUCED, log 18] -/
def State.loseGuarantee (s : State) (sl : Slice) (k : Nat) (temp : BitVec 16) : State :=
  if Config.variantS && s.boot.vaon && !s.regB (egvI sl) (R.EGV_SENSOR + 4 * k) 16 && decide (temp.toInt < 0) then
    { s with boot := { s.boot with unrated := true } }
  else s

/-- R5: a reading while PORST_N holds the powered part shows whether the sensor's place is at or above 0 °C. -/
def State.noteWarm (s : State) (sl : Slice) (k : Nat) (temp : BitVec 16) : State :=
  if !s.boot.porstLow || s.flt.sealed then s else
  let rest := s.boot.warm.filter (· ≠ 6 * sl.val + k)
  { s with boot := { s.boot with warm := if 0 ≤ temp.toInt then (6 * sl.val + k) :: rest else rest } }

/-- R380: SENSOR_SAMPLE, while VAON is up (R41). [DESIGN CHOICE, log 5] -/
def execSensorSample (sl : Slice) (idx : Fin 6) (temp : BitVec 16) (s : State) : Out :=
  let t := s.takeReading sl idx.val temp
  let u := t.checkLimits
  s.goesOn (if !s.boot.vaon then s else
    (((if u.gradient && !s.gradient then u.event egv4 8 else u).syncCaps).loseGuarantee sl idx.val temp).noteWarm sl idx.val temp)

/-! ### Power and the thermal model (R381-R384). Power in nW, temperature in µ°C. -/

/-- R388: the voltage of a level in mV. -/
def levelMv : Nat → Nat
  | 0 => 550
  | 1 => 600
  | 2 => 660
  | 3 => 720
  | 4 => 780
  | _ => 850

/-- A quotient of the thermal model; the spec states none for a divisor the host has set to 0.
[DESIGN CHOICE, log 16] -/
def divT (a : Int) (b : Nat) : Int := if b = 0 then Config.divByZero a else a / b

/-- TD of a slice, in 1/8 °C. -/
def State.dieTemp (s : State) (sl : Slice) : Int := sext (s.regF (egvI sl) R.EGV_TSLICE 0 16) 16

/-- R381: the estimate of a slice with no events: static power scaled by 1 + KT × (Td - 85). -/
def State.basePower (s : State) (sl : Slice) : Int :=
  let c := fun e => fld (s.ent (egvI sl) 2 e 0) 0 16
  ((c (32 + s.level sl) * 10000000 : Nat) : Int) * (32768 + (c 38 : Int) * (s.dieTemp sl - 680)) / 32768

/-- R381: the estimate of a slice from the events of the last 1 ms. [DEDUCED, log 74] -/
def State.slicePower (s : State) (sl : Slice) (act : List Nat) : Int :=
  let c := fun e => fld (s.ent (egvI sl) 2 e 0) 0 16
  let v := levelMv (s.level sl)
  s.basePower sl + ((((act.take 12).zipIdx.map fun (n, k) => n * c k).sum * (v * v) / 722500 : Nat) : Int)

/-- R416: the non-slice consumers: lanes of the ports that run, by reach, fabric, PHYs and the rest; `ev` holds the fabric
cells and the deep-tier transfers of the last 1 ms. -/
def State.otherPower (s : State) (ev : List Nat) : Int :=
  let c := fun e => fld (s.ent egv4 0 e 0) 0 16
  let ports := (List.range 256).filter fun p => s.portState p ≠ 0 && s.portState p ≠ 8
  let lanes := ports.flatMap fun p => portLanes p (s.port p).cfg
  let lane := (lanes.map fun l => c (min (s.reach l) 2)).sum
  let phys := (List.range 16).countP s.chOnline
  (((lane + c 3 + c 5 * phys + c 7) * 10000000 + c 4 * ev[0]?.getD 0 + c 6 * ev[1]?.getD 0 : Nat) : Int)

/-- Fields of EGV_RTH and EGV_CTH. -/
def State.rdh (s : State) : Nat := s.regF egv4 R.EGV_RTH 0 10
def State.rhp (s : State) : Nat := s.regF egv4 R.EGV_RTH 10 10
def State.rpa (s : State) : Nat := s.regF egv4 R.EGV_RTH 20 10

/-- R383: the host's inlet temperature is in use. -/
def State.tambHost (s : State) : Bool :=
  s.regB egv4 R.EGV_DCTRL 1 && s.gov.tambAt.any fun t => decide (s.time - t ≤ 2000000000)

/-- R383: Tamb. -/
def State.tamb (s : State) : Int := if s.tambHost then sext (s.regF egv4 R.EGV_TAMB 0 8) 8 * 1000000 else 45000000

/-- R382: at power-up the nodes start at the lowest valid reading. -/
def State.startNodes (s : State) : State :=
  if s.gov.init then s else
  match s.allTemps with
  | [] => s
  | t :: r =>
    let low := r.foldl min t * 125000
    forAll slices (fun sl u => u.updEgv sl fun e => { e with th := low }) { s with
      gov := { s.gov with tp := low, init := true } }

/-- R382: one millisecond of the thermal model. -/
def State.stepNodes (s : State) (ps : List Int) (pdev : Int) : State :=
  let tp := s.gov.tp
  let now := slices.zip ps |>.map fun (sl, p) =>
    let th := max (s.egv sl).th (s.dieTemp sl * 125000 - s.rdh * p / 1000000 - 3000000)
    let qh := divT ((th - tp) * 1000000) s.rhp
    (sl, th + divT (p - qh) (10000 * s.regF egv4 R.EGV_CTH 0 16), qh)
  let sumq := (now.map fun x => x.2.2).foldl (· + ·) 0
  let flow := sumq + (pdev - ps.foldl (· + ·) 0) - divT ((tp - s.tamb) * 1000000) s.rpa
  let tp' := tp + divT flow (1000000 * s.regF egv4 R.EGV_CTH 16 16)
  let s := { s with gov := { s.gov with tp := tp' } }.setRegF egv4 R.EGV_DSTAT 16 8 (BitVec.ofInt 8 (tp' / 1000000)).toNat
  forAll now (fun (sl, th, _) t => (t.updEgv sl fun e => { e with th := th }).setRegF (egvI sl) R.EGV_TSLICE 16 16
    (BitVec.ofInt 16 (th / 125000)).toNat) s

/-- R384: rounds of equal parts up to each limit: (limit, allowance) pairs. A remainder below one unit each is not
divided. -/
def waterFill : Nat → Int → List (Int × Int) → List (Int × Int)
  | 0, _, l => l
  | n + 1, rest, l =>
    let open_ := l.countP fun x => decide (x.2 < x.1)
    let part := rest / open_
    if open_ = 0 || part ≤ 0 then l else
    let l' := l.map fun x => if x.2 < x.1 then (x.1, min x.1 (x.2 + part)) else x
    let given := (l'.map (·.2)).foldl (· + ·) 0 - (l.map (·.2)).foldl (· + ·) 0
    waterFill n (rest - given) l'

/-- R384, R408: the power cap in W: SPRINT or SUS, under the SCAP of the stage in force. -/
def State.powerCap (s : State) : Nat :=
  let p := if s.regB egv4 R.EGV_DSTAT 29 then min (s.regF egv4 R.EGV_PCAP 16 10) 490 else min (s.regF egv4 R.EGV_PCAP 0 10) 420
  if s.stage = 0 then p else min p (s.regF egv4 (R.EGV_SCAP1 + 4 * (min s.stage 5 - 1)) 0 10)

/-- R384: set the refill of each slice, in tokens per 10 µs. -/
def State.setRefills (s : State) (ps : List Int) (pdev : Int) : State :=
  let sprint := s.regB egv4 R.EGV_DSTAT 29
  let tref := if sprint then s.gov.tp else s.tamb + s.rpa * pdev / 1000000
  let tlim : Int := min (s.regF egv4 R.EGV_TLIM (if sprint then 8 else 0) 8) 105 * 1000000
  let therm := divT ((tlim - tref) * 1000000) (s.rdh + s.rhp)
  let limits := slices.zip ps |>.map fun (sl, p) =>
    (max 0 (min therm (p * 9 / 8 + (((s.tmg sl).refusedCost * 1000 / 1024 : Nat) : Int))), (0 : Int))
  let avail := s.powerCap * 1000000000 - (pdev - ps.foldl (· + ·) 0)
  let allow := (waterFill 16 (max 0 avail) limits).map (·.2)
  forAll (slices.zip allow) (fun (sl, a) t =>
    (t.setRegF (egvI sl) R.EGV_TOKRATE 0 24 (min ((a - t.basePower sl) / 100000).toNat (2 ^ 24 - 1))).updTmg sl fun x =>
      { x with refusedCost := 0 }) s

/-- A power in the 0.1 W of a 16-bit field. -/
def deciWatt (p : Int) : Nat := min (p / 100000000).toNat 0xFFFF

/-- R383: TAMB.STALE follows. -/
def State.syncTamb (s : State) : State :=
  let stale := !s.tambHost
  let t := s.setRegB egv4 R.EGV_TAMB 8 stale
  if stale && !s.regB egv4 R.EGV_TAMB 8 then t.event egv4 5 else t

/-- R416: the activity counters of a slice. -/
def State.activity (s : State) (sl : Slice) : List Nat := (List.range 12).map (s.actOf sl)

/-- R416: the fabric cells and the deep-tier transfers of the device. -/
def State.otherActivity (s : State) : List Nat :=
  [(slices.map fun sl => s.actOf sl 6).sum, (slices.map fun sl => s.actOf sl 10).sum]

/-- R416: the activity counters start again. -/
def State.clearActivity (s : State) : State := { s with acts := ⟨s.acts.ents.filter fun (k, _) => 12 ≤ k % 16⟩ }

/-- R381-R384, R399: the tick of 1 ms, in that order. -/
def State.governorTick (s : State) (act : List (List Nat)) (other : List Nat) : State :=
  let s := s.syncTamb.startNodes
  let ps := slices.map fun sl => s.slicePower sl (act[sl.val]?.getD [])
  let pdev := ps.foldl (· + ·) 0 + s.otherPower other
  let s := forAll (slices.zip ps) (fun (sl, p) t =>
    t.setReg (egvI sl) R.EGV_PSLICE (setFld (setFld 0 0 16 (deciWatt p)) 16 16 (deciWatt (t.basePower sl)))) s
  let s := (s.setRegF egv4 R.EGV_DSTAT 0 16 (deciWatt pdev)).stepNodes ps pdev
  let s := s.tickSprint (decide ((min (s.regF egv4 R.EGV_PCAP 0 10) 420 : Nat) * (1000000000 : Int) < pdev))
  (forAll slices (fun sl t => t.checkStretch sl) s.syncCaps).setRefills ps pdev

/-- R384: GOVERNOR_TICK, with the counts of the last 1 ms, while VAON is up (R41). -/
def execGovernorTick (s : State) : Out :=
  s.done (if !s.boot.vaon then s else s.clearActivity.governorTick (slices.map s.activity) s.otherActivity)

/-! ### Energy tokens (R385, R386) -/

/-- The refill in tokens: TOKRATE, or the cap while COEF_OK is 0 (R381). -/
def State.refillTokens (s : State) (sl : Slice) : Nat :=
  s.regF (egvI sl) (if s.coefOk then R.EGV_TOKRATE else R.EGV_BKTCAP) 0 24

/-- Add `n` refills, no further than EGV_BKTCAP. -/
def State.addTokens (s : State) (sl : Slice) (n : Nat) : State :=
  s.setBucket sl (min ((s.egv sl).bucket + ((n * s.refillTokens sl * 1024 : Nat) : Int))
    ((s.regF (egvI sl) R.EGV_BKTCAP 0 24 * 1024 : Nat) : Int))

/-- R386: the allotments of the tenants with an E2 or E3 copy queued, in 1/1,024 token. A tenant of weight 0 has none, and its
copies are not paid. -/
def State.allotments (s : State) (sl : Slice) : List (Nat × Nat) :=
  let tids := ((s.queued sl).flatMap fun (_, l) => (l.filter fun c => 2 ≤ c.eclass).map (·.tid)).dedup
  let w := fun t => fld (s.ent (egvI sl) 0 t 0) 0 8
  let sum := (tids.map w).sum
  let a := s.refillTokens sl * 1024 - (s.tmg sl).paid01
  (tids.filter fun t => w t ≠ 0).map fun t => (t, a * w t / sum)

/-- R369, R385, R386: the refill of a slice: tokens, division among tenants, the E1 hold, and refused queues return. -/
def State.refillEnergy (s : State) (sl : Slice) : State :=
  let x := s.tmg sl
  let hold := s.regB (tmgI sl) R.TMG_ESTAT 0
  let s := (s.updTmg sl fun t => { t with
    allot := if x.e23Refused then some (s.allotments sl) else none
    refusedQ := [], e1Refused := false, e23Refused := false, paid01 := 0 }).addTokens sl 1
  let s := if hold then s.count (tmgI sl) R.TMG_E1HOLD else s
  if hold && !x.e1Refused then s.setRegB (tmgI sl) R.TMG_ESTAT 0 false else s

/-- R385: ENERGY_REFILL. -/
def execEnergyRefill (sl : Slice) (s : State) : Out :=
  s.done (if !s.awake sl || s.inBlockReset (egvI sl) then s else s.refillEnergy sl)

/-! ### Sleep (R393-R397) -/

/-- The macros of a slice. -/
def sliceMacros (sl : Slice) : List Nat := (List.range 8).map (8 * sl.val + ·)
def slicePorts (sl : Slice) : List Nat := (List.range 64).map (64 * sl.val + ·)
def sliceChans (sl : Slice) : List Nat := (List.range 4).map (4 * sl.val + ·)

/-- R393: a slice is idle; a fixed task that runs on a housekeeping pup is a housekeeping context. [DEDUCED, log 37] -/
def State.idle (s : State) (sl : Slice) : Bool :=
  s.running sl = [] && (s.egv sl).tasks = [] && (s.pcl sl).rob = [] && (sliceMacros sl).all (fun m => (s.macro m).absBytes = 0)
    && (s.queued sl).all (fun (_, l) => l.all fun c => !s.portUp c.port)
    && slices.all (fun o => (s.link sl o).waiting = [] && (s.link sl o).flying = [] && (s.link o sl).waiting = []
      && (s.link o sl).flying = [])
    && (s.fwd sl).run.isNone && (s.fwd sl).queue = []
    && s.hif.load.isNone && (s.pup sl).repair.isNone
    && (sliceChans sl).all (fun c => s.chF c R.DTC_CSTAT 0 3 ≠ 1 && !(s.chan c).repairing)
    && s.held.all (fun a => a.inst.inst.val ≠ sl.val)

/-- R397: no level change, and no block reset of an instance of the slice, is in progress. -/
def State.settled (s : State) (sl : Slice) : Bool :=
  (s.egv sl).changing.isNone && s.flt.resets.all fun r => match instOfIndex r.target with
    | some i => i.inst.val ≠ sl.val
    | none => true

/-- The slice may go from a lighter state to state `k`: it is idle, no wake trigger has come, and its governor is not under reset
(R417). -/
def State.maySleep (s : State) (sl : Slice) (k : Nat) : Bool :=
  decide (s.sleep sl < k) && !s.failed sl && !s.inBlockReset (egvI sl) && !s.regB (egvI sl) R.EGV_SSTAT 10 && s.idle sl

/-- The slice is in sleep state `k` from now on, and remembers when it fell asleep. -/
def State.setSleep (s : State) (sl : Slice) (k : Nat) : State :=
  (s.setRegF (egvI sl) R.EGV_SSTAT 8 2 k).updEgv sl fun e => { e with
    sleptAt := if k = 0 then none else some (e.sleptAt.getD s.time) }

/-- R385: the whole refill intervals of 10 µs for which the slice has slept. -/
def State.slept (s : State) (sl : Slice) : Nat := ((s.egv sl).sleptAt.map fun t => (s.time - t) / 10000).getD 0

/-- R336: the active ranks of a slice's channels enter self-refresh. -/
def State.restSlice (s : State) (sl : Slice) : State := forAll (sliceChans sl) (fun c t => t.restRanks c) s

/-- R394: DOZE_ENTRY. -/
def execDozeEntry (sl : Slice) (s : State) : Out :=
  s.done (if s.regB (egvI sl) R.EGV_SCTRL 8 && s.maySleep sl 1 then (s.setSleep sl 1).holdWaiting sl else s)

/-- R395: the rate that each macro has shown in 16 windows, for the 12 µs of a wake, fits NAPCAP; the fabric's fits
NAPFAB. A fabric cell carries 256 bytes. -/
def State.napTest (s : State) (sl : Slice) : Bool :=
  let cells := ((s.fabIn.get sl.val).filter fun t => s.time < t + 10000).length
  let cap := min (s.regF (egvI sl) R.EGV_NAPCFG 0 11) 2048 * 1024
  (sliceMacros sl).all (fun m => (s.macro m).rates.all fun r => r * 1500 ≤ cap)
    && cells * 2048 ≤ s.regF (egvI sl) R.EGV_NAPCFG 16 11 * 10000

/-- R395: NAP_ENTRY. -/
def execNapEntry (sl : Slice) (s : State) : Out :=
  s.done (if s.regB (egvI sl) R.EGV_SCTRL 9 && s.maySleep sl 2 && s.settled sl && s.napTest sl then
      (((s.setSleep sl 2).count (egvI sl) R.EGV_SLEEPCNT 0 16).restSlice sl).holdWaiting sl
    else s)

/-- R394: every port of the slice is out of UP, or in low-power idle both ways. -/
def State.portsRest (s : State) (sl : Slice) : Bool :=
  (slicePorts sl).all fun p => !s.portUp p || fld (s.laneReg p R.PRT_PSTAT) 8 2 = 3

/-- R394: DEEP_ENTRY. -/
def execDeepEntry (sl : Slice) (s : State) : Out :=
  s.done (if (s.regB (egvI sl) R.EGV_SCTRL 10 || 5 ≤ s.stage) && s.maySleep sl 3 && s.settled sl && s.portsRest sl then
      (((s.setSleep sl 3).count (egvI sl) R.EGV_SLEEPCNT 16 16).restSlice sl).holdWaiting sl
    else s)

/-- R517: the resets that waited for a slice begin. -/
def State.startWaiting (s : State) (sl : Slice) : State :=
  let mine := fun (r : BlockReset) => match instOfIndex r.target with
    | some i => decide (i.inst.val = sl.val)
    | none => false
  let l := s.flt.waiting.filter mine
  let s := { s with flt := { s.flt with waiting := s.flt.waiting.filter fun r => !mine r } }
  forAll l (fun r t => match instOfIndex r.target with
    | some i => t.startReset i r.group r.asked
    | none => t) s

/-- R385, R394, R397: the slice is awake again; the whole refill intervals that it has slept are credited, and from Deep the
shaper and meter buckets are full and the deficits cleared. -/
def State.wake (s : State) (sl : Slice) : State :=
  let deep := s.sleep sl = 3
  let s := ((s.setSleep sl 0).setRegB (egvI sl) R.EGV_SSTAT 10 false).addTokens sl (s.slept sl)
  let s := if deep then s.updTmg sl TmgSt.filled else s
  (((s.startWaiting sl).fwdNext sl).syncCap sl)

/-- R394: WAKE_COMPLETE. -/
def execWakeComplete (sl : Slice) (s : State) : Out :=
  s.done (if s.sleep sl = 0 || !s.regB (egvI sl) R.EGV_SSTAT 10 || s.inBlockReset (egvI sl) then s else s.wake sl)

/-! ### Housekeeping (R398) -/

/-- The lowest-numbered free housekeeping pup: one that runs neither a routine nor a fixed task. [DEDUCED, log 37] -/
def State.freeHk (s : State) (sl : Slice) : Option CtxId :=
  if (s.pup sl).groupReset.contains 12 then none else
  ((List.range 4).map fun k => (⟨sl, Fin.ofNat 388 (384 + k), 0⟩ : CtxId)).find? fun x =>
    !(s.ctx x).running && !(s.egv sl).tasks.any fun t => t.2 = x.pup.val

/-- The entry word of a routine under the bank in force. -/
def State.hkEntry (s : State) (sl : Slice) (task : Nat) : Word :=
  s.entryWord sl (s.regB (pupI sl) R.PUP_CTRL 1) (240 + task)

/-- A task may run: a routine that HK_EN allows, has an entry and has not failed (R128, R132), or a fixed task that its
block enables and that does not run (R299, R329, R335). -/
def State.taskReady (s : State) (sl : Slice) (task : Nat) : Bool :=
  if task < 16 then
    s.regB (pupI sl) R.PUP_CTRL (8 + task) && !s.regB (pupI sl) R.PUP_HKSTAT task && bit (s.hkEntry sl task) 14
      && !(s.running sl).any fun x => isHk x && decide ((s.ctx x).entry = 240 + task)
  else !s.taskRuns sl task && (if task = 16 then s.regB (swcI sl) R.SWC_CTRL 0
    else if task = 17 then (s.members sl).any fun c => s.chF c R.DTC_ECCCFG 16 1 = 1
    else s.mayCompact sl)

/-- COST × 1,000 tokens of a task, in 1/1,024 token. -/
def State.taskCost (s : State) (sl : Slice) (task : Nat) : Nat := fld (s.ent (egvI sl) 1 task 1) 0 16 * 1024000

/-- B ≥ F2 + COST × 1,000 tokens. -/
def State.taskPays (s : State) (sl : Slice) (task : Nat) : Bool :=
  decide (((s.energyFloor sl 2 + s.taskCost sl task : Nat) : Int) ≤ (s.egv sl).bucket)

/-- Debit a task's cost. -/
def State.debitTask (s : State) (sl : Slice) (task : Nat) : State :=
  s.setBucket sl ((s.egv sl).bucket - s.taskCost sl task)

/-- Start a task on a pup and debit its cost. -/
def State.startTask (s : State) (sl : Slice) (task : Nat) (x : CtxId) : State :=
  let s := s.debitTask sl task
  if task < 16 then
    let bank := s.regB (pupI sl) R.PUP_CTRL 1
    s.startIn x (startCtx (s.hkEntry sl task) bank (240 + task))
  else
    let s := s.updEgv sl fun e => { e with tasks := (task, x.pup.val) :: e.tasks }
    if task = 16 then s.updSwc sl fun y => { y with fresh := some [] } else s

/-- A due task starts when its slice is awake, a pup is free and the bucket pays; past MAXDEFER it starts regardless,
and wakes its slice. -/
def execHkTaskStart (sl : Slice) (task : Fin 19) (forced : Bool) (s : State) : Out :=
  let force := forced && fld (s.ent (egvI sl) 1 task.val 0) 16 16 ≠ 0
  s.done (if s.withheld sl task.val || !s.taskReady sl task.val || s.inBlockReset (pupI sl) then s
    else if !s.awake sl then (if force then s.requestWake sl else s)
    else match s.freeHk sl with
      | none => s
      | some x => if force || s.taskPays sl task.val then s.startTask sl task.val x else s)

/-- R130, R398: a suspended routine resumes: after SAFE once no request is pending, after YIELD when the governor schedules it
again, as it starts a routine: when the bucket pays, or regardless past MAXDEFER. [DEDUCED, log 36] -/
def execHkRoutineResume (sl : Slice) (pup : Fin 4) (forced : Bool) (s : State) : Out :=
  let x : CtxId := ⟨sl, Fin.ofNat 388 (384 + pup.val), 0⟩
  let n := (s.ctx x).entry - 240
  let go := fun (t : State) => t.updCtx x fun c => { c with suspended := false, yielded := false }
  s.done (if !(s.ctx x).running || !(s.ctx x).suspended || !s.awake sl || s.safePending x then s
    else if !(s.ctx x).yielded then go s
    else if (forced && fld (s.ent (egvI sl) 1 n 0) 16 16 ≠ 0) || s.taskPays sl n then go (s.debitTask sl n) else s)

/-! ### Sprint bins (R400, R547) -/

/-- R547: advance HOUR to the counter's hour, zeroing the bins of the hours passed. -/
def State.advanceHour (s : State) : State :=
  let hour := s.knl.sec.toNat / 3600 % 2 ^ 32
  let old := s.knlNat 0x20 4
  if hour ≤ old then s else
  (forAll (List.range (min (hour - old) 24)) (fun k t => t.knlWrite (0x40 + 2 * ((old + 1 + k) % 24)) [0, 0]) s).knlWrite
    0x20 (leBytes 4 hour)

/-- R400: the whole seconds of sprint time since the last update enter the bin of HOUR and the lifetime total. -/
def State.addSprint (s : State) : State :=
  let n := s.gov.unbinned / 1000
  let bin := 0x40 + 2 * (s.knlNat 0x20 4 % 24)
  let s := { s with gov := { s.gov with unbinned := s.gov.unbinned % 1000 } }
  if n = 0 then s else
  (s.knlWrite bin (leBytes 2 (satAdd (s.knlNat bin 2) n 16))).knlWrite 0x18 (leBytes 8 (s.knlNat 0x18 8 + n))

/-- R400: the duty, its limit of 4 % and its return below 3 %. -/
def State.syncDuty (s : State) : State :=
  let sum := ((List.range 24).map fun k => s.knlNat (0x40 + 2 * k) 2).sum
  let s := s.setRegF egv4 R.EGV_DUTY 0 16 (sum * 10000 / 86400)
  if 3456 < sum && !s.regB egv4 R.EGV_DSTAT 30 then ((s.setRegB egv4 R.EGV_DSTAT 30 true).event egv4 3).endSprint
  else if sum < 2592 then s.setRegB egv4 R.EGV_DSTAT 30 false else s

/-- R547: SPRINT_BIN_UPDATE. -/
def execSprintBinUpdate (s : State) : Out := s.done s.advanceHour.addSprint.syncDuty

/-! ### Supply stages (R405-R410) -/

/-- R336, R409: every copy in the deep tier of a slice is dropped under DEEPUNC. -/
def State.dropDeepSlice (s : State) (sl : Slice) : State :=
  let s := s.updSwc sl fun x => { x with draining := [] }
  forAll (s.queued sl) (fun (q, l) t =>
    forAll (l.filter fun c => c.inDeep) (fun c u => (u.removeCopy sl q c.cid).dropCopy 10 c) t) s

def State.dropDeep (s : State) : State := forAll slices (fun sl t => t.dropDeepSlice sl) s

/-- The entry action of a stage. -/
def State.enterStage (s : State) (k : Nat) : State :=
  match k with
  | 3 => s.endSprint.syncCaps
  | 4 => s.syncShed
  | 5 =>
    let t := s.syncShed
    if t.regB egv4 R.EGV_STAGECTL 8 then { t with gov := { t.gov with drain5 := true } } else t.dropDeep
  | 6 => (((s.trigger 4 0).setRegF egv4 R.EGV_STAGECTL 0 3 0).record 255 0 false).muzzle true
  | _ => s

/-- R406: the stage in force rises to the highest of plant stage, PMB stage and FORCE, through every stage up to it. -/
def State.riseStage (s : State) : State :=
  let s := (s.setRegF egv4 R.EGV_PLANT 16 3 s.gov.plantStage).setRegF egv4 R.EGV_PLANT 20 3 s.gov.pmbStage
  let k := max (max s.gov.plantStage s.gov.pmbStage) (min (s.regF egv4 R.EGV_STAGECTL 0 3) 6)
  let old := s.stage
  if k ≤ old then s
  else forAll ((List.range (k - old)).map (old + 1 + ·)) (fun j t => t.enterStage j)
    ((s.setRegF egv4 R.EGV_PLANT 24 3 k).event egv4 1)

/-- Threshold `k` (1-6): its register. -/
def State.threshold (s : State) (k : Nat) : Word := s.reg egv4 (R.EGV_STH + 4 * (k - 1))

/-- R573: full scale of PLANT_SENSE, in µV. -/
abbrev plantFs : Int := 1200000

/-- R405, R573: the code of an input of `v` µV: floor(4,096 × V ÷ FS) with an error of at most 10 codes, 4,095 at full scale and
above, and 0 at or below 0. -/
def plantCode (v err : Int) : Nat :=
  if plantFs ≤ v then 4095 else if v ≤ 0 then 0
  else (max 0 (min 4095 (4096 * v / plantFs + max (-10) (min 10 err)))).toNat

/-- The codes of a window's samples. -/
def State.plantCodes (s : State) (volts : List Int) : List Nat :=
  volts.zipIdx.map fun (v, k) => plantCode v (Config.plantError (s.free + k))

/-- R405: the mean of a window of 16 µs. -/
def State.plantMean (s : State) (code : BitVec 12) : State :=
  let n := max 1 (s.regF egv4 R.EGV_STAGECTL 12 4)
  let s := s.setRegF egv4 R.EGV_PLANT 0 12 code.toNat
  let s := forAll (List.range 6) (fun k t =>
    let w := t.threshold (k + 1)
    { t with gov := { t.gov with
      below := t.gov.below.set k (if bit w 31 && code.toNat ≤ fld w 0 12 then min 15 (t.gov.below.get k + 1) else 0) } }) s
  let reached := ((List.range 6).filter fun k => n ≤ s.gov.below.get k).foldl (fun m k => max m (k + 1)) 0
  { s with gov := { s.gov with plantStage := max s.gov.plantStage reached } }

/-- R405, R573: PLANT_WINDOW: `volts` are the 16 inputs sampled in the window, in µV. The mean of their codes is rounded down.
[DEDUCED, log 79; DESIGN CHOICE, log 136] -/
def execPlantWindow (volts : List Int) (s : State) : Out :=
  let mean := BitVec.ofNat 12 ((s.plantCodes volts).sum / 16)
  s.done ({ s with free := s.free + 16 }.plantMean mean).riseStage

/-- R406: PMB_ALERT. -/
def execPmbAlert (asserted : Bool) (s : State) : Out :=
  let k := min (s.regF egv4 R.EGV_STAGECTL 4 3) 6
  s.done { s with gov := { s.gov with pmbStage := if asserted then k else 0 } }.riseStage

/-- R407: what raised stage `k` has cleared. -/
def State.stageCleared (s : State) (k : Nat) : Bool :=
  let w := s.threshold k
  (s.gov.plantStage < k || !bit w 31 || fld w 0 12 + fld w 16 12 ≤ s.regF egv4 R.EGV_PLANT 0 12)
    && s.gov.pmbStage < k && decide (min (s.regF egv4 R.EGV_STAGECTL 0 3) 6 < k)

/-- R407: the entry actions of the current stage have completed. -/
def State.stageEntered (s : State) (k : Nat) : Bool :=
  s.gov.toShed = [] && (k ≠ 5 || !s.gov.drain5) && (k ≠ 6 || s.gov.s6Held)

/-- R408: the reversal of a stage left: its ports are restored, last shed first. The stage that shed a port is the one it is restored
with, whatever its SHED says by then (R76 does not say). [DESIGN CHOICE, log 126] -/
def State.leaveStage (s : State) (k : Nat) : State :=
  let back := (s.gov.shed.filter fun (_, j) => j = k).reverse
  let s := { s with gov := { s.gov with shed := s.gov.shed.filter fun (_, j) => j ≠ k } }
  (forAll back (fun (p, _) t => t.restorePort p) s).syncCaps

/-- R407: the stage in force falls by one. -/
def execStageFall (s : State) : Out :=
  let k := s.stage
  s.done (if k = 0 || !s.stageCleared k || !s.stageEntered k then s else
    let s := { s with gov := { s.gov with plantStage := min s.gov.plantStage (k - 1) } }
    let s := (s.setRegF egv4 R.EGV_PLANT 16 3 s.gov.plantStage).setRegF egv4 R.EGV_PLANT 20 3 s.gov.pmbStage
    ((s.setRegF egv4 R.EGV_PLANT 24 3 (k - 1)).event egv4 1).leaveStage k)

/-- A write of EGV_STAGECTL: FORCE takes part in the stage in force. -/
def State.writeStagectl (s : State) (v : Word) : State := (s.plainWrite egv4 R.EGV_STAGECTL v).riseStage

/-- A host write of a register of EGV instance 4. [DEDUCED, log 80] -/
def State.hostEgv (s : State) (off : Nat) (v : Word) (f : State → State) : State :=
  s.access { inst := egv4, off := off, value := some v } f

/-- R406: STAGE_FORCE_WRITE. -/
def execStageForceWrite (v : Word) (s : State) : Out := s.done (s.hostEgv R.EGV_STAGECTL v fun t => t.writeStagectl v)

/-- The enabled ones of thresholds listed from 1 on do not increase. -/
def fallingOrder (l : List Word) : Bool :=
  ((l.filter fun w => bit w 31).map fun w => fld w 0 12).Pairwise (fun a b => b ≤ a)

/-- R405: a write of EGV_STHk. -/
def State.writeThreshold (s : State) (k : Nat) (v : Word) : State :=
  if fallingOrder ((List.range 6).map fun j => if j = k then v else s.threshold (j + 1)) then
    s.plainWrite egv4 (R.EGV_STH + 4 * k) v
  else s.event egv4 10

/-- R405: STAGE_THRESHOLD_WRITE. -/
def execStageThresholdWrite (k : Fin 6) (v : Word) (s : State) : Out :=
  s.done (s.hostEgv (R.EGV_STH + 4 * k.val) v fun t => t.writeThreshold k.val v)

/-- R409: the drain of S5MODE 1 ends. -/
def execS5DrainEnd (s : State) : Out :=
  s.done (if s.gov.drain5 then { s with gov := { s.gov with drain5 := false } }.dropDeep else s)

/-- R410: HALTDLY has passed: everything but VAON logic and the Kennel is in reset. -/
def execS6Halt (s : State) : Out :=
  s.done (if s.stage ≠ 6 || s.gov.s6Held then s else
    let t := s.chipReset 5
    { t with gov := { t.gov with s6Held := true } })

/-- R410: the stage has been S5 or lower for RECOVER ms: the hold ends, and the start-up follows (R536). -/
def execS6Release (s : State) : Out :=
  s.done (if s.gov.s6Held && decide (s.stage < 6) then { s with gov := { s.gov with s6Held := false } } else s)

end Sys2Proof.Machine
end

