-- ==== Sys2Proof/Machine/Aes.lean ====
section
/-! DEFINITION. AES-CMAC, AES-GMAC and the RFC 3394 unwrap of the keyed check engine, over FIPS 197 (R448, R449, R456). -/

namespace Sys2Proof.Machine

/-! ### FIPS 197 -/

/-- The substitution box, in two halves. -/
def sbox0 : List Nat := [
  99, 124, 119, 123, 242, 107, 111, 197, 48, 1, 103, 43, 254, 215, 171, 118,
  202, 130, 201, 125, 250, 89, 71, 240, 173, 212, 162, 175, 156, 164, 114, 192,
  183, 253, 147, 38, 54, 63, 247, 204, 52, 165, 229, 241, 113, 216, 49, 21,
  4, 199, 35, 195, 24, 150, 5, 154, 7, 18, 128, 226, 235, 39, 178, 117,
  9, 131, 44, 26, 27, 110, 90, 160, 82, 59, 214, 179, 41, 227, 47, 132,
  83, 209, 0, 237, 32, 252, 177, 91, 106, 203, 190, 57, 74, 76, 88, 207,
  208, 239, 170, 251, 67, 77, 51, 133, 69, 249, 2, 127, 80, 60, 159, 168,
  81, 163, 64, 143, 146, 157, 56, 245, 188, 182, 218, 33, 16, 255, 243, 210]

/-- Its second half. -/
def sbox1 : List Nat := [
  205, 12, 19, 236, 95, 151, 68, 23, 196, 167, 126, 61, 100, 93, 25, 115,
  96, 129, 79, 220, 34, 42, 144, 136, 70, 238, 184, 20, 222, 94, 11, 219,
  224, 50, 58, 10, 73, 6, 36, 92, 194, 211, 172, 98, 145, 149, 228, 121,
  231, 200, 55, 109, 141, 213, 78, 169, 108, 86, 244, 234, 101, 122, 174, 8,
  186, 120, 37, 46, 28, 166, 180, 198, 232, 221, 116, 31, 75, 189, 139, 138,
  112, 62, 181, 102, 72, 3, 246, 14, 97, 53, 87, 185, 134, 193, 29, 158,
  225, 248, 152, 17, 105, 217, 142, 148, 155, 30, 135, 233, 206, 85, 40, 223,
  140, 161, 137, 13, 191, 230, 66, 104, 65, 153, 45, 15, 176, 84, 187, 22]

def subByte (b : Byte) : Byte := BitVec.ofNat 8 (((sbox0 ++ sbox1)[b.toNat]?).getD 0)
def invSubByte (b : Byte) : Byte := BitVec.ofNat 8 ((sbox0 ++ sbox1).idxOf b.toNat)

/-- Multiplication by x in GF(2^8). -/
def xtime (b : Byte) : Byte := (b <<< 1) ^^^ (if b.getLsbD 7 then 0x1B else 0)

/-- Multiplication in GF(2^8) by a number below 16. -/
def gmul (n : Nat) (b : Byte) : Byte :=
  let b2 := xtime b
  let b4 := xtime b2
  let b8 := xtime b4
  (if n.testBit 0 then b else 0) ^^^ (if n.testBit 1 then b2 else 0) ^^^ (if n.testBit 2 then b4 else 0)
    ^^^ (if n.testBit 3 then b8 else 0)

def xorBytes (a b : List Byte) : List Byte := (a.zip b).map fun (x, y) => x ^^^ y

/-- One column times the circulant of `m`. -/
def mixColumn (m : List Nat) (col : List Byte) : List Byte :=
  (List.range 4).map fun r => (List.range 4).foldl (fun acc k =>
    acc ^^^ gmul (m[(k + 4 - r) % 4]?.getD 0) (col[k]?.getD 0)) 0

def mixColumns (m : List Nat) (s : List Byte) : List Byte :=
  (List.range 4).flatMap fun c => mixColumn m (slice s (4 * c) 4)

def shiftRows (s : List Byte) : List Byte := (List.range 16).map fun k => s[(k + 4 * (k % 4)) % 16]?.getD 0
def invShiftRows (s : List Byte) : List Byte := (List.range 16).map fun k => s[(k + 16 - 4 * (k % 4)) % 16]?.getD 0

/-- The key schedule: `n` more words after the listed ones, newest first; `nk` words of key, round constant `rc`. -/
def expandKey (nk : Nat) : Nat → Nat → Byte → List (List Byte) → List (List Byte)
  | 0, _, _, w => w
  | n + 1, i, rc, w =>
    let t := w.headD []
    let t' := if i % nk = 0 then xorBytes ((t.drop 1 ++ t.take 1).map subByte) [rc, 0, 0, 0]
      else if nk = 8 && i % nk = 4 then t.map subByte else t
    expandKey nk n (i + 1) (if i % nk = 0 then xtime rc else rc) (xorBytes (w[nk - 1]?.getD []) t' :: w)

/-- The round keys of a 16- or 32-byte key. -/
def roundKeys (key : List Byte) : List (List Byte) :=
  let nk := key.length / 4
  let w := (expandKey nk (4 * (nk + 7) - nk) nk 1 ((List.range nk).map fun k => slice key (4 * k) 4).reverse).reverse
  (List.range (nk + 7)).map fun r => (w.drop (4 * r)).take 4 |>.flatten

/-- The rounds after the first key addition: the last has no column mix. -/
def encRounds : List (List Byte) → List Byte → List Byte
  | [], s => s
  | [k], s => xorBytes (shiftRows (s.map subByte)) k
  | k :: r, s => encRounds r (xorBytes (mixColumns [2, 3, 1, 1] (shiftRows (s.map subByte))) k)

def encBlock (rk : List (List Byte)) (b : List Byte) : List Byte :=
  match rk with
  | [] => b
  | k :: r => encRounds r (xorBytes b k)

/-- The inverse cipher, with the round keys in reverse order. -/
def decRounds : List (List Byte) → List Byte → List Byte
  | [], s => s
  | [k], s => xorBytes ((invShiftRows s).map invSubByte) k
  | k :: r, s => decRounds r (mixColumns [14, 11, 13, 9] (xorBytes ((invShiftRows s).map invSubByte) k))

def decBlock (rk : List (List Byte)) (b : List Byte) : List Byte :=
  match rk.reverse with
  | [] => b
  | k :: r => decRounds r (xorBytes b k)

/-! ### AES-CMAC (SP 800-38B, RFC 4493) -/

def zeros (n : Nat) : List Byte := List.replicate n 0

/-- The doubling of a subkey. -/
def dbl (b : List Byte) : List Byte :=
  let v := ofBe b
  let w := beBytes 16 (2 * v % 2 ^ 128)
  if 2 ^ 127 ≤ v then xorBytes w (zeros 15 ++ [0x87]) else w

/-- Chain the blocks of a message; the last is completed and takes a subkey. -/
def cmacGo (rk : List (List Byte)) (k1 k2 : List Byte) : Nat → List Byte → List Byte → List Byte
  | 0, x, _ => x
  | n + 1, x, m =>
    if 16 < m.length then cmacGo rk k1 k2 n (encBlock rk (xorBytes x (m.take 16))) (m.drop 16)
    else if m.length = 16 then encBlock rk (xorBytes x (xorBytes m k1))
    else encBlock rk (xorBytes x (xorBytes (m ++ [0x80] ++ zeros (15 - m.length)) k2))

def cmac (key m : List Byte) : List Byte :=
  let rk := roundKeys key
  let k1 := dbl (encBlock rk (zeros 16))
  cmacGo rk k1 (dbl k1) (m.length / 16 + 1) (zeros 16) m

/-! ### AES-GMAC (SP 800-38D) -/

/-- Multiplication in GF(2^128): the bits of `x`, most significant first, from bit `n - 1` down. -/
def ghMul (x : Nat) : Nat → Nat → Nat → Nat
  | 0, _, z => z
  | n + 1, v, z =>
    let v' := if v % 2 = 1 then (v / 2) ^^^ (0xE1 * 2 ^ 120) else v / 2
    ghMul x n v' (if x.testBit n then z ^^^ v else z)

/-- GHASH under `h` of whole blocks, continuing from `y`. -/
def ghash (h : Nat) : Nat → Nat → List Byte → Nat
  | 0, y, _ => y
  | n + 1, y, m => if m = [] then y else ghash h n (ghMul (y ^^^ ofBe (m.take 16)) 128 h 0) (m.drop 16)

/-- The tag of a message as additional data, under a 12-byte IV. -/
def gmac (key iv m : List Byte) : List Byte :=
  let rk := roundKeys key
  let h := ofBe (encBlock rk (zeros 16))
  let data := m ++ zeros (cdiv m.length 16 * 16 - m.length) ++ beBytes 8 (8 * m.length) ++ zeros 8
  xorBytes (beBytes 16 (ghash h (data.length / 16) 0 data)) (encBlock rk (iv ++ [0, 0, 0, 1]))

/-! ### RFC 3394 unwrap -/

/-- Steps of the unwrap from step `t` down, over `n` registers. -/
def unwrapGo (rk : List (List Byte)) (n : Nat) : Nat → List Byte → List (List Byte) → List Byte × List (List Byte)
  | 0, a, r => (a, r)
  | t + 1, a, r =>
    let i := t % n
    let b := decBlock rk (xorBytes a (beBytes 8 (t + 1)) ++ (r[i]?.getD []))
    unwrapGo rk n t (b.take 8) (r.set i (b.drop 8))

/-- The plaintext of a wrapped key, where the integrity value holds. -/
def unwrap (kek w : List Byte) : Option (List Byte) :=
  let n := w.length / 8 - 1
  let (a, r) := unwrapGo (roundKeys kek) n (6 * n) (w.take 8) ((List.range n).map fun k => slice w (8 + 8 * k) 8)
  if a = List.replicate 8 0xA6 then some r.flatten else none

end Sys2Proof.Machine
end

