-- ==== Sys2Proof/Machine/Kce.lean ====
section
/-! DEFINITION. The keyed check engine: key slots and their loading, counters and marks, requests and suspension
(R448-R467); and how an accepted command of the command channel is taken up (R461, R480, R482). -/

namespace Sys2Proof.Machine

/-! ### Accepted commands -/

def State.slot (s : State) (k : Nat) : KeySlot := s.kce.slots.get k
def State.updSlot (s : State) (k : Nat) (f : KeySlot → KeySlot) : State :=
  { s with kce := { s.kce with slots := s.kce.slots.upd k f } }

/-- R461: the counters of a slot were lost with the Kennel, and it has not been loaded with RESET since. -/
def State.counterLost (s : State) (k : Nat) : Bool := s.regB kce4 R.KCE_STAT 1 && !(s.slot k).fresh

/-- R480, R482: the oldest accepted command of a function, where it is of an opcode and its SEQ lies below the mark. -/
def State.nextCmd (s : State) (f op : Nat) : Option Cmd :=
  match (s.fn f).accepted with
  | [] => none
  | c :: _ => if c.opcode = op && c.seq < s.mark f && !s.inBlockReset hif4 then some c else none

/-- Take up the next command of a function; one of a function whose counters are lost ends with COUNTER_LOST, unless it
is exempt. -/
def State.runCmd (s : State) (f op : Nat) (exempt : Bool) (run : Cmd → State → State) : State :=
  match s.nextCmd f op with
  | none => s
  | some c =>
    let t := s.updFn f fun x => { x with accepted := x.accepted.drop 1 }
    if s.counterLost f && !exempt then t.finish c 9 else run c t

/-! ### Slots (R451-R458) -/

/-- R468: an event of the engine, with its slot. -/
def State.kceEvent (s : State) (k slot : Nat) : State := (s.setRegF kce4 R.KCE_LASTSLOT 0 9 slot).event kce4 k

/-- R451: the roles and algorithms a slot may hold. -/
def slotAllows (slot alg role : Nat) : Bool :=
  slot < 512 && alg ≤ 3 && (
    if slot < 256 then role = 0 && alg ≤ 1
    else if slot < 272 then (role = 1 && alg ≤ 1) || role = 3
    else role = 2 || role = 3)

/-- Bytes of a key of an algorithm, and whether it is GMAC. -/
def algKey (alg : Nat) : Nat := if alg % 2 = 0 then 16 else 32
def isGmac (alg : Nat) : Bool := 2 ≤ alg

/-- R455, R456: the key and salt of a blob, where its wrap is good and names the slot, algorithm and role outside it. -/
def openBlob (b : List Byte) : Option (List Byte × List Byte) :=
  let n := algKey (ofLe (slice b 2 1))
  match unwrap Config.rootKey (slice b 8 (n + 16)) with
  | none => none
  | some p => if slice p (n + 4) 4 = slice b 0 4 then some (slice p 0 n, slice p n 4) else none

/-- R456: every reserved byte of a blob is 0. -/
def blobClean (b : List Byte) : Bool := slice b 4 4 = zeros 4 && slice b 56 8 = zeros 8

/-- R454-R457: a KEY_LOAD of a blob. -/
def State.keyLoad (s : State) (c : Cmd) (b : List Byte) : State :=
  let slot := ofLe (slice b 0 2)
  let alg := ofLe (slice b 2 1)
  let role := ofLe (slice b 3 1)
  if c.bare && slot ≠ 0 then s.finish c 2
  else if !slotAllows slot alg role || !blobClean b then s.finish c 6
  else match openBlob b with
    | none => (s.kceEvent 1 slot).finish c 5
    | some (key, salt) =>
      s.updSlot slot fun x => { x with pendingLoad := some ⟨some (alg, role, key, salt), c.pay 8 1 % 2 = 1, c⟩ }

/-- The slot that the blob of a load names has a load waiting already. -/
def State.loadWaits (s : State) (slot : Nat) : Bool := (s.slot slot).pendingLoad.isSome

/-- R482: a load or clearing that an earlier command of the function asked for has not taken effect. -/
def State.loadsOf (s : State) (f : Nat) : Bool := s.kce.slots.ents.any fun (_, x) => x.pendingLoad.any fun l => l.cmd.fn = f

/-- R454: without the root key every KEY_LOAD ends with UNWRAP_FAIL. -/
def State.noRootKey (s : State) : Bool := !s.regB kce4 R.KCE_STAT 0

/-- R456: take up a KEY_LOAD. [DEDUCED, log 86] -/
def State.takeKeyLoad (s : State) (f : Nat) (blob : Option (List Byte)) : State :=
  let slot := ofLe (slice (blob.getD []) 0 2)
  let rescue := s.noRootKey || match s.nextCmd f 0x40 with
    | some c => c.pay 8 1 % 2 = 1 && blob.isSome && slot = f
    | none => false
  s.runCmd f 0x40 rescue fun c t =>
    if t.noRootKey then (t.kceEvent 1 slot).finish c 5 else
    match blob with
    | none => t.finish c 8
    | some b => t.keyLoad c b

/-- R457, R482: KEY_CLEAR. -/
def execKeyClear (fn : Fin 257) (s : State) : Out :=
  let slot := ((s.nextCmd fn.val 0x41).map fun c => c.pay 0 2).getD 0
  s.done (if s.loadWaits slot || s.loadsOf fn.val || s.inBlockReset kce4 then s else
    s.runCmd fn.val 0x41 false fun c t =>
      t.updSlot (c.pay 0 2) fun x => { x with pendingLoad := some ⟨none, false, c⟩ })

/-- A request accepted under a slot is in the engine. -/
def State.slotBusy (s : State) (slot : Nat) : Bool :=
  let k := s.kce
  (k.cores.ents.filterMap (·.2) ++ k.suspended.ents.filterMap (·.2) ++ k.urgent ++ k.checks ++ k.normal ++ k.waiting).any
    (fun r => decide (r.slot = slot)) || s.hif.load.any fun l => l.keySlot = slot

/-- The slot after a load or clearing. -/
def KeySlot.apply (x : KeySlot) (l : KeyLoad) : KeySlot :=
  match l.key with
  | none => { x with loaded := false, alg := 0, role := 0, key := [], salt := [], pendingLoad := none }
  | some (alg, role, key, salt) =>
    let y := { x with loaded := true, alg := alg, role := role, key := key, salt := salt, pendingLoad := none }
    if l.reset then { y with counter := 0, exhausted := false, fresh := true, writing := none } else y

/-- R460: a mark write starts, unless one as high is in progress. -/
def State.startMark (s : State) (slot h : Nat) : State :=
  s.updSlot slot fun x => { x with writing := some (max h (x.writing.getD 0)) }

/-- R480: an accepted SEQ that reaches the mark less 2^19 has the next mark written. -/
def State.markSeq (s : State) (f seq : Nat) : State :=
  if s.mark f ≤ seq + 2 ^ 19 then s.startMark f ((seq / 2 ^ 20 + 2) * 2 ^ 20) else s

/-- R457, R458, R480: a load or clearing takes effect, and its command completes. A mark that falls to 2^20 is written again for
the commands of its function that are accepted and wait. [DEDUCED, log 89] -/
def State.applyLoad (s : State) (slot : Nat) (l : KeyLoad) : State :=
  let s := s.updSlot slot fun x => x.apply l
  let s := if !l.reset then s else
    let t := s.setMark slot (2 ^ 20)
    if slot < 256 then
      forAll (t.fn slot).accepted (fun c u => u.markSeq slot c.seq) (t.updFn slot fun x => { x with lastSeq := 2 ^ 20, cache := [] })
    else t
  s.finish l.cmd 0

/-- R457: KEY_LOAD_APPLY. -/
def execKeyLoadApply (slot : Fin 512) (s : State) : Out :=
  s.done (match (s.slot slot.val).pendingLoad with
    | none => s
    | some l => if s.slotBusy slot.val then s else s.applyLoad slot.val l)

/-! ### Queues and cores (R463, R464) -/

/-- The places taken in the urgent queue or the normal one: generations that wait for a mark hold theirs. -/
def State.kcePlaces (s : State) (urgent : Bool) : Nat :=
  (if urgent then s.kce.urgent else s.kce.normal).length + (s.kce.waiting.filter fun r => r.urgent = urgent).length

/-- KCE_QOCC follows the queues. -/
def State.syncKce (s : State) : State :=
  ((s.setRegF kce4 R.KCE_QOCC 0 5 (s.kcePlaces true)).setRegF kce4 R.KCE_QOCC 8 7 s.kce.checks.length).setRegF
    kce4 R.KCE_QOCC 16 7 (s.kcePlaces false)

def State.core (s : State) (c : Nat) : Option KceReq := s.kce.cores.get c
def State.parked (s : State) (c : Nat) : Option KceReq := s.kce.suspended.get c
def State.setCore (s : State) (c : Nat) (r : Option KceReq) : State :=
  { s with kce := { s.kce with cores := s.kce.cores.set c r } }
def State.setParked (s : State) (c : Nat) (r : Option KceReq) : State :=
  { s with kce := { s.kce with suspended := s.kce.suspended.set c r } }

/-- A core that is free takes the next request of the highest queue; one with a suspended message takes no normal one. -/
def State.fillCore (s : State) (c : Nat) : State :=
  if (s.core c).isSome || s.inBlockReset kce4 then s else
  match s.kce.urgent, s.kce.checks, s.kce.normal with
  | r :: l, _, _ => { s with kce := { s.kce with urgent := l } }.setCore c (some r)
  | [], r :: l, _ => { s with kce := { s.kce with checks := l } }.setCore c (some r)
  | [], [], r :: l => if (s.parked c).isSome then s else { s with kce := { s.kce with normal := l } }.setCore c (some r)
  | [], [], [] => s

def State.fillCores (s : State) : State := ((s.fillCore 0).fillCore 1).syncKce

/-- A request of the normal queue: not urgent, and not a command check. -/
def KceReq.isNormal (r : KceReq) : Bool :=
  !r.urgent && match r.use with
    | .mac | .image => true
    | .check _ _ | .void => false

/-- The core processes a normal request. -/
def State.coreNormal (s : State) (c : Nat) : Bool := (s.core c).any (·.isNormal)

/-- Suspend the normal message of a core. -/
def State.park (s : State) (c : Nat) : State :=
  if s.coreNormal c && (s.parked c).isNone then
    ((s.setParked c (s.core c)).setCore c none).count kce4 R.KCE_SUSPCNT
  else s

/-- R464: a command check enters while both cores process normal requests: one suspends its message.
[DEDUCED, log 84] -/
def State.parkForCheck (s : State) : State :=
  if s.coreNormal 0 && s.coreNormal 1 then s.park 0 else s

/-- A command check enters the check queue. -/
def State.enqueueCheck (s : State) (r : KceReq) : State :=
  ({ s.parkForCheck with kce := { s.parkForCheck.kce with checks := s.kce.checks ++ [r] } }).fillCores

/-- A request enters its queue; an urgent one suspends the normal messages. -/
def State.enqueueKce (s : State) (r : KceReq) : State :=
  if r.urgent then (((({ s with kce := { s.kce with urgent := s.kce.urgent ++ [r] } }).park 0).park 1)).fillCores
  else { s with kce := { s.kce with normal := s.kce.normal ++ [r] } }.fillCores

/-- R463: the queue of a request is full. -/
def State.kceFull (s : State) (urgent : Bool) : Bool := (if urgent then 16 else 64) ≤ s.kcePlaces urgent

/-- R463: a request that finds its queue full. -/
def State.kceBusy (s : State) (slot : Nat) : State := (s.kceEvent 4 slot).count kce4 R.KCE_BUSYCNT

/-- R464: MESSAGE_RESUME. -/
def execMessageResume (core : Fin 2) (s : State) : Out :=
  s.done (if (s.core core.val).isNone && s.kce.urgent = [] && s.kce.checks = [] && !s.inBlockReset kce4 then
      match s.parked core.val with
      | none => s
      | some r => (s.setParked core.val none).setCore core.val (some r)
    else s)

/-! ### Counters and marks (R459-R461) -/

/-- R460: when the counter is within 2^19 of its mark, the next mark is written. -/
def State.keepAhead (s : State) (slot : Nat) : State :=
  if (s.slot slot).writing.isNone && s.mark slot ≤ (s.slot slot).counter + 2 ^ 19 then
    s.startMark slot (s.mark slot + 2 ^ 20)
  else s

/-- R459, R460: a generation takes the slot's counter and enters its queue, or waits for the mark.
[DEDUCED, log 85] -/
def State.generate (s : State) (r : KceReq) : State :=
  let s := s.keepAhead r.slot
  let x := s.slot r.slot
  if s.mark r.slot ≤ x.counter || s.kce.waiting.any (fun q => q.slot = r.slot) then
    { s with kce := { s.kce with waiting := s.kce.waiting ++ [r] } }.syncKce
  else ((s.updSlot r.slot fun y => { y with counter := y.counter + 1 }).keepAhead r.slot).enqueueKce
    { r with counter := x.counter }

/-- The mark of a slot has been written: the waiting generations go on, oldest first. -/
def State.releaseWaiting (s : State) (slot : Nat) : State :=
  let l := s.kce.waiting.filter fun r => r.slot = slot
  forAll l (fun r t => t.generate r) { s with kce := { s.kce with waiting := s.kce.waiting.filter fun r => r.slot ≠ slot } }

/-- R460: KENNEL_MARK_WRITE_COMPLETE. -/
def execKennelMarkWriteComplete (slot : Fin 512) (s : State) : Out :=
  s.done (match (s.slot slot.val).writing with
    | none => s
    | some h =>
      if !s.boot.vkeep then s
      else ((s.setMark slot.val h).updSlot slot.val fun x => { x with writing := none }).releaseWaiting slot.val)

/-- R460, R480: what has waited 50 µs for a mark write ends with KENNEL. [DEDUCED, log 89] -/
def execKennelMarkTimeout (slot : Fin 512) (s : State) : Out :=
  let gens := s.kce.waiting.filter fun r => r.slot = slot.val
  let cmds := if slot.val < 256 then (s.fn slot.val).accepted.filter fun c => s.mark slot.val ≤ c.seq else []
  s.done (if (s.slot slot.val).writing.isNone then s else
    let s := { s with kce := { s.kce with waiting := s.kce.waiting.filter fun r => r.slot ≠ slot.val } }.syncKce
    let s := forAll gens (fun r t => ((t.kceEvent 6 slot.val).noteFault 94).finish r.cmd 10) s
    if cmds = [] then s else
    let s := s.updFn slot.val fun x => { x with accepted := x.accepted.filter fun c => c.seq < s.mark slot.val }
    forAll cmds (fun c t => t.finish c 10) s)

/-! ### Requests (R452, R459, R462, R466) -/

/-- The length a MAC command names, its trailer's, and its slot. -/
def Cmd.macLen (c : Cmd) : Nat := c.pay 4 4
def Cmd.macSlot (c : Cmd) : Nat := c.pay 0 2
def Cmd.urgent (c : Cmd) : Bool := c.pay 2 1 % 2 = 1

/-- R452, R459, R463: the status with which a request is refused at once. -/
def State.macRefusal (s : State) (c : Cmd) (verify : Bool) (got : Option (List Byte)) : Option Nat :=
  let x := s.slot c.macSlot
  let need := c.macLen + if verify then (if isGmac x.alg then 8 else 0) + c.pay 3 1 else 0
  if !x.loaded then some 2
  else if x.role < 2 || (c.urgent && x.role ≠ 2) then some 4
  else if c.urgent && 512 < c.macLen then some 6
  else if !verify && s.counterLost c.macSlot then some 9
  else if !verify && (x.exhausted || x.counter = 2 ^ 64 - 1) then some 3
  else if (got.getD []).length < need || got.isNone then some 8
  else if s.kceFull c.urgent then some 7
  else none

/-- The events and counts of a refusal. -/
def State.refuseMac (s : State) (c : Cmd) (st : Nat) : State :=
  let s := if st = 9 then s.kceEvent 5 c.macSlot
    else if st = 3 then (s.updSlot c.macSlot fun x => { x with exhausted := true }).kceEvent 2 c.macSlot
    else if st = 7 then s.kceBusy c.macSlot
    else s
  s.finish c st

/-- A MAC command waits while its slot has a load waiting (R457), or its function has asked for one that has not taken effect
(R482). -/
def State.macReady (s : State) (f op : Nat) : Bool :=
  match s.nextCmd f op with
  | none => false
  | some c => !s.loadWaits c.macSlot && !s.loadsOf f && !s.inBlockReset kce4

/-- R459: MAC_GEN. -/
def execMacGen (fn : Fin 257) (msg : Option (List Byte)) (s : State) : Out :=
  s.done (if !s.macReady fn.val 0x42 then s else
    s.runCmd fn.val 0x42 false fun c t =>
      match t.macRefusal c false msg with
      | some st => t.refuseMac c st
      | none => t.generate { cmd := c, slot := c.macSlot, urgent := c.urgent, msg := (msg.getD []).take c.macLen,
                             result := c.pay 16 8, since := t.time })

/-- R462: MAC_VERIFY. -/
def execMacVerify (fn : Fin 257) (msg : Option (List Byte)) (s : State) : Out :=
  s.done (if !s.macReady fn.val 0x43 then s else
    s.runCmd fn.val 0x43 false fun c t =>
      match t.macRefusal c true msg with
      | some st => t.refuseMac c st
      | none => t.enqueueKce { cmd := c, slot := c.macSlot, verify := true, urgent := c.urgent,
                               msg := (msg.getD []).take c.macLen, tagLen := c.pay 3 1,
                               trailer := (msg.getD []).drop c.macLen, since := t.time })

/-- R449: the tag of a message under a slot with a counter. -/
def KeySlot.tag (x : KeySlot) (counter : List Byte) (m : List Byte) : List Byte :=
  if isGmac x.alg then gmac x.key (x.salt ++ counter) m else cmac x.key m

/-- R453: a parity error in key storage empties the slot. -/
def State.keyParity (s : State) (slot : Nat) : State :=
  let t := s.updSlot slot fun x => { x with loaded := false, alg := 0, role := 0, key := [], salt := [] }
  (t.kceEvent 3 slot).noteFault 93

/-- R453, R459, R462, R466, R467: what a MAC request finds; `writable`: its result can be written. -/
def State.endRequest (s : State) (r : KceReq) (writable : Bool) : State :=
  let x := s.slot r.slot
  if !x.loaded then s.finish r.cmd 2
  else if r.verify then
    let n := if isGmac x.alg then 8 else 0
    let s := s.count kce4 R.KCE_VERCNT
    if (x.tag (r.trailer.take n) r.msg).take r.tagLen = (r.trailer.drop n).take r.tagLen then s.finish r.cmd 0
    else ((s.count kce4 R.KCE_FAILCNT).kceEvent 0 r.slot).finish r.cmd 1
  else
    let c := beBytes 8 r.counter
    let t := s.count kce4 R.KCE_GENCNT
    if s.silent r.cmd then t.finish r.cmd 0 (leBytes 8 r.counter)
    else if !writable then t.finish r.cmd 8
    else (t.dma r.result (c ++ x.tag c r.msg)).finish r.cmd 0 (leBytes 8 r.counter)

/-- R465: the longest urgent latency. -/
def State.noteLatency (s : State) (r : KceReq) : State :=
  if r.urgent then s.setRegF kce4 R.KCE_MAXLAT 0 16 (max (s.regF kce4 R.KCE_MAXLAT 0 16) (min (s.time - r.since) 0xFFFF))
  else s

end Sys2Proof.Machine
end

