-- ==== Sys2Proof/Machine/Tsu.lean ====
section
/-! DEFINITION. The time and sync unit: the counter and what moves it, outputs, captures, compares, recovered clocks, and
the Kennel's count (R418-R444). -/

namespace Sys2Proof.Machine

/-! ### The counter (R418, R422-R426) -/

/-- The counter in 2^-48 ns, and the counter at such a number; the seconds wrap. -/
def State.tsu48 (s : State) : Int := ((s.tsuNs * 2 ^ 48 + s.tsu.frac : Nat) : Int)

def State.setTsu48 (s : State) (t : Int) : State :=
  let ns := t / 2 ^ 48
  { s with tsu := { s.tsu with
    sec := BitVec.ofInt 48 (ns / 1000000000), ns := (ns % 1000000000).toNat, frac := (t % 2 ^ 48).toNat } }

/-- R424: the remaining slew, in 2^-48 ns, with TSU_STAT.SLEWING. [DEDUCED, log 81] -/
def State.setSlew (s : State) (v : Int) : State :=
  { s with tsu := { s.tsu with slew := v } }.setRegB tsu4 R.TSU_STAT 3 (decide (v ≠ 0))

/-- R418: one cycle of the TSU clock, which runs from the end of fuse load. -/
def State.tsuCycle (s : State) : State :=
  if !s.regB knl4 R.KNL_BOOT 0 then s else
  let d := slewPart s.tsu.slew
  let t := s.setTsu48 (s.tsu48 + s.cycleGain)
  let t := { t with tsu := { t.tsu with cycles := t.tsu.cycles + 1 } }
  if d = 0 then t else t.setSlew (s.tsu.slew - d)

/-- TSU_STAT.STATE. -/
def State.armed (s : State) : Bool := s.regF tsu4 R.TSU_STAT 0 2 = 1
def State.setArmed (s : State) (b : Bool) : State := s.setRegF tsu4 R.TSU_STAT 0 2 (if b then 1 else 0)

/-- R422: FREQ is limited to ±1,000 ppm. -/
def clampFreq (f : Int) : Int := max (-281474976711) (min 281474976711 f)

/-- A host write of a TSU register. -/
def State.hostTsu (s : State) (off : Nat) (v : Word) (f : State → State) : State :=
  s.access { inst := tsu4, off := off, value := some v } f

/-- A write of TSU_FREQHI: the top byte of the FREQ that the next write of TSU_FREQLO commits. -/
def State.writeFreqHi (s : State) (v : Word) : State :=
  { s.plainWrite tsu4 R.TSU_FREQHI v with tsu := { s.tsu with freqHi := v.setWidth 8 } }

/-- R422: a write of TSU_FREQLO commits FREQ, formed with the last value written to TSU_FREQHI; both registers then read the
FREQ that is stored. [DEDUCED, log 135] -/
def State.writeFreq (s : State) (v : Word) : State :=
  let f := clampFreq (sext (s.tsu.freqHi.toNat * 2 ^ 32 + v.toNat) 40)
  let w := (BitVec.ofInt 40 f).toNat
  { (s.setReg tsu4 R.TSU_FREQLO (BitVec.ofNat 32 w)).setRegF tsu4 R.TSU_FREQHI 0 8 (w / 2 ^ 32) with
    tsu := { s.tsu with freq := f } }

/-- R422: FREQ_COMMIT. -/
def execFreqCommit (v : Word) (s : State) : Out := s.done (s.hostTsu R.TSU_FREQLO v fun t => t.writeFreq v)

/-- R424: JUMPTH in ns; 0 reads as 1, above 1,000,000 as 1,000,000. -/
def State.jumpTh (s : State) : Nat := min (max 1 (s.regF tsu4 R.TSU_JUMPTH 0 20)) 1000000

/-- R424: a phase correction, taken or refused whole. -/
def State.writeOffset (s : State) (v : Word) : State :=
  let new := s.tsu.slew + v.toInt * 2 ^ 44
  if new.natAbs ≤ s.jumpTh * 2 ^ 48 then s.setSlew new
  else (s.setReg tsu4 R.TSU_LASTREF v).event tsu4 0

/-- R424: OFFSET_WRITE. -/
def execOffsetWrite (v : Word) (s : State) : Out := s.done (s.hostTsu R.TSU_OFFSET v fun t => t.writeOffset v)

/-- R424: what remains has been paid out, cycle by cycle: SLEWING reads 0. While something remains nothing completes.
[DEDUCED, log 81] -/
def execSlewComplete (s : State) : Out := s.done (if s.tsu.slew = 0 then s.setSlew 0 else s)

/-- The first whole nanosecond that is not earlier than the counter. -/
def State.tsuCeil (s : State) : Nat := if s.tsu.frac = 0 then s.tsuNs else s.tsuNs + 1

/-! ### Outputs (R436-R439) -/

def toutOff (n off : Nat) : Nat := off + 32 * n

/-- A START or SNAP time in ns, from its three registers. -/
def State.timeAt (s : State) (lo hi ns : Nat) : Nat :=
  (s.regF tsu4 hi 0 16 * 2 ^ 32 + (s.reg tsu4 lo).toNat) * 1000000000 + s.regF tsu4 ns 0 30

def State.updTout (s : State) (n : Nat) (f : ToutSt → ToutSt) : State :=
  { s with tsu := { s.tsu with tout := s.tsu.tout.upd n f } }
def State.tout (s : State) (n : Nat) : ToutSt := s.tsu.tout.get n

/-- R438: PERIOD is 100 ns or more, and WIDTH lies from 8 ns to PERIOD - 8 ns. -/
def clampWidth (period width : Nat) : Nat := max 8 (min width (max period 100 - 8))

/-- The first point of a grid at or after a time. -/
def gridAt (start period t : Nat) : Nat := if t ≤ start then start else start + cdiv (t - start) period * period

/-- R436, R437: commit a schedule. A one-shot that is refused as LATE leaves ARM as it was: the output goes on as it had been
armed, if it had. -/
def State.commitTout (s : State) (n mode : Nat) (armed : Bool) : State :=
  let start := s.timeAt (toutOff n R.TSU_TOUTSLO) (toutOff n R.TSU_TOUTSHI) (toutOff n R.TSU_TOUTNS)
  let period := max 100 (s.reg tsu4 (toutOff n R.TSU_TOUTPER)).toNat
  let width := clampWidth period (s.reg tsu4 (toutOff n R.TSU_TOUTWID)).toNat
  let soon := s.tsuCeil + 100
  let cfg := toutOff n R.TSU_TOUTCFG
  if mode = 1 && start < soon then ((s.setRegB tsu4 cfg 2 armed).setRegB tsu4 cfg 5 true).event tsu4 4
  else
    let s := s.updTout n fun t => { t with
      mode := mode, start := start, period := period, width := width
      next := if mode = 2 then gridAt start period soon else start }
    if mode = 2 && start < soon then (s.setRegB tsu4 cfg 6 true).event tsu4 5 else s

/-- A write of TSU_TOUTnCFG. MODE 3 reads as 0; an output written off drives its pin low. ARM stays 1 under any other write, until
a one-shot fires (R436). -/
def State.writeTout (s : State) (n : Nat) (v : Word) : State :=
  let armed := s.regB tsu4 (toutOff n R.TSU_TOUTCFG) 2
  let s := s.plainWrite tsu4 (toutOff n R.TSU_TOUTCFG) (setBit v 2 (bit v 2 || armed))
  let mode := if fld v 0 2 = 3 then 0 else fld v 0 2
  if mode = 0 then (s.setRegB tsu4 (toutOff n R.TSU_TOUTCFG) 2 false).updTout n fun _ => {}
  else if bit v 2 then s.commitTout n mode armed
  else s

/-- R436: TOUT_ARM. -/
def execToutArm (n : Fin 8) (v : Word) (s : State) : Out := s.done (s.hostTsu (toutOff n.val R.TSU_TOUTCFG) v fun t => t.writeTout n.val v)

/-- ARM of an output. -/
def State.toutArmed (s : State) (n : Nat) : Bool := s.regB tsu4 (toutOff n R.TSU_TOUTCFG) 2

/-- The pin goes high; a one-shot's ARM clears, a periodic output goes to its next point. -/
def State.pulse (s : State) (n : Nat) : State :=
  let t := s.updTout n fun x => { x with pin := true, next := gridAt x.start x.period (max (s.tsuNs + 1) (x.next + 1)) }
  if (s.tout n).mode = 1 then t.setRegB tsu4 (toutOff n R.TSU_TOUTCFG) 2 false else t

/-- R436: the counter has reached a programmed time. [DEDUCED, log 82] -/
def execToutPulse (n : Fin 8) (s : State) : Out :=
  s.done (if s.toutArmed n.val && (s.tout n.val).next ≤ s.tsuNs then s.pulse n.val else s)

/-- R436: TOUT_PULSE_END. -/
def execToutPulseEnd (n : Fin 8) (s : State) : Out := s.done (s.updTout n.val fun x => { x with pin := false })

/-- R438, R513: TOUT[n] and PPS_OUT at their balls: Muzzle drives them low. -/
def State.toutPin (s : State) (n : Nat) : Bool := (s.tout n).pin && !s.muzzled 0
def State.ppsPin (s : State) : Bool := s.tsu.pps && !s.muzzled 0

/-- R439, R442: a whole second of the counter; a block reset of TSU holds PPS_OUT low. -/
def execPpsOutPulse (s : State) : Out :=
  s.done (if s.regB tsu4 R.TSU_PPSOCFG 0 && !s.inBlockReset tsu4 then { s with tsu := { s.tsu with pps := true } } else s)

/-- R439: PPS_OUT_PULSE_END. -/
def execPpsOutPulseEnd (s : State) : Out := s.done { s with tsu := { s.tsu with pps := false } }

/-- A write of TSU_PPSOCFG; off, the pin is low. -/
def State.writePpso (s : State) (v : Word) : State :=
  let t := s.plainWrite tsu4 R.TSU_PPSOCFG v
  if bit v 0 then t else { t with tsu := { t.tsu with pps := false } }

/-- A write of START, PERIOD or WIDTH is ignored while ARM is 1; WIDTH is stored within its limits (R436, R438). -/
def State.writeToutField (s : State) (n off : Nat) (v : Word) : State :=
  if s.toutArmed n then s.event tsu4 12
  else if off = R.TSU_TOUTWID then
    s.setReg tsu4 (toutOff n off) (BitVec.ofNat 32 (clampWidth (s.reg tsu4 (toutOff n R.TSU_TOUTPER)).toNat v.toNat))
  else s.plainWrite tsu4 (toutOff n off) v

/-! ### The snapshot compare (R441) -/

def State.snapArmed (s : State) : Bool := s.regB tsu4 R.TSU_SNAPCFG 0

/-- A write of TSU_SNAPCFG: refused as LATE as a one-shot is, an armed compare staying as it was. It has no MODE, and ARM 0 writes
it off. [DEDUCED, log 82] -/
def State.writeSnapcfg (s : State) (v : Word) : State :=
  let at_ := s.timeAt R.TSU_SNAPSLO R.TSU_SNAPSHI R.TSU_SNAPNS
  let armed := s.snapArmed
  let s := s.plainWrite tsu4 R.TSU_SNAPCFG v
  if !bit v 0 then s
  else if at_ < s.tsuCeil + 100 then ((s.setRegB tsu4 R.TSU_SNAPCFG 0 armed).setRegB tsu4 R.TSU_SNAPCFG 4 true).event tsu4 4
  else { s with tsu := { s.tsu with snapTime := at_ } }

/-- R441: SNAP_ARM. -/
def execSnapArm (v : Word) (s : State) : Out := s.done (s.hostTsu R.TSU_SNAPCFG v fun t => t.writeSnapcfg v)

/-- The compare fires once. -/
def State.fireCompare (s : State) : State := (s.setRegB tsu4 R.TSU_SNAPCFG 0 false).trigger 1 0

/-- R441: SNAP_COMPARE_FIRE. -/
def execSnapCompareFire (s : State) : Out :=
  s.done (if s.snapArmed && s.tsu.snapTime ≤ s.tsuNs then s.fireCompare else s)

/-- As START of an armed output, SNAP is not written while the compare is armed. -/
def State.writeSnapTime (s : State) (off : Nat) (v : Word) : State :=
  if s.snapArmed then s.event tsu4 12 else s.plainWrite tsu4 off v

/-! ### Steps (R425, R426) -/

/-- R426: one output is taken against the new time. -/
def State.stepTout (s : State) (n : Nat) : State :=
  if !s.toutArmed n then s
  else if (s.tout n).mode = 2 then s.updTout n fun x => { x with next := gridAt x.start x.period s.tsuCeil }
  else if (s.tout n).next ≤ s.tsuNs then
    ((s.pulse n).setRegB tsu4 (toutOff n R.TSU_TOUTCFG) 7 true).event tsu4 6
  else s

def State.stepCompare (s : State) : State :=
  if s.snapArmed && s.tsu.snapTime ≤ s.tsuNs then (s.fireCompare.setRegB tsu4 R.TSU_SNAPCFG 6 true).event tsu4 6 else s

/-- R425: a step of time, and every scheduled event against the new time. -/
def State.stepTime (s : State) : State :=
  let sec := sext (s.regF tsu4 R.TSU_STEPSHI 0 16 * 2 ^ 32 + (s.reg tsu4 R.TSU_STEPSLO).toNat) 48
  let s := s.setTsu48 (s.tsu48 + (sec * 1000000000 + s.regF tsu4 R.TSU_STEPNS 0 30) * 2 ^ 48)
  let s := ((s.setSlew 0).setRegB tsu4 R.TSU_STAT 2 false).setArmed false |>.event tsu4 2
  (forAll (List.range 8) (fun n t => t.stepTout n) s).stepCompare.relocateGates

/-- R425: a write of TSU_STEPNS, ignored outside ARMED. -/
def State.writeStep (s : State) (v : Word) : State :=
  if s.armed then (s.plainWrite tsu4 R.TSU_STEPNS v).stepTime else s.event tsu4 1

/-- R425: STEP_WRITE. -/
def execStepWrite (v : Word) (s : State) : Out := s.done (s.hostTsu R.TSU_STEPNS v fun t => t.writeStep v)

/-- R423: ARM_EXPIRY. -/
def execArmExpiry (s : State) : Out := s.done (if s.armed then (s.setArmed false).event tsu4 3 else s)

/-- A write of TSU_ARM. -/
def State.writeArm (s : State) (v : Word) : State :=
  let t := s.plainWrite tsu4 R.TSU_ARM v
  if bit v 0 then t.setArmed false else t

/-- R423: ARM_CANCEL. -/
def execArmCancel (v : Word) (s : State) : Out := s.done (s.hostTsu R.TSU_ARM v fun t => t.writeArm v)

/-! ### Reads and captures (R421, R440) -/

/-- R421: a read of TSU_TNS latches the counter. -/
def State.readTns (s : State) : State :=
  let t := s.setReg tsu4 R.TSU_TNS (BitVec.ofNat 32 s.tsu.ns)
  let t := t.setReg tsu4 R.TSU_TSECLO (BitVec.ofNat 32 s.tsu.sec.toNat)
  let t := t.setReg tsu4 R.TSU_TSECHI (BitVec.ofNat 32 (s.tsu.sec.toNat / 2 ^ 32))
  let t := t.setReg tsu4 R.TSU_TFRAC (BitVec.ofNat 32 (s.tsu.frac / 2 ^ 32))
  { t with hif := { t.hif with readData := BitVec.ofNat 32 s.tsu.ns } }

/-- R421: TIME_LATCH_READ. -/
def execTimeLatchRead (s : State) : Out := s.done (s.access { inst := tsu4, off := R.TSU_TNS } fun t => t.readTns)

def tinOff (n off : Nat) : Nat := off + 16 * n

/-- R440: the edge is selected by EDGE of a TIN; PPS_IN is 4, and takes rising edges while EN. -/
def State.edgeSelected (s : State) (n : Nat) (rising : Bool) : Bool :=
  if n = 4 then s.regB tsu4 R.TSU_PPSIN 0 && rising else s.regB tsu4 (tinOff n R.TSU_TINCFG) (if rising then 0 else 1)

/-- R440: the input has been stable for 8 ns. -/
def State.tinStable (s : State) (n : Nat) : Bool := (s.tsu.edgeAt.get n).all fun t => t + 8 ≤ s.time

/-- R440, R442: TIN_EDGE; a block reset of TSU keeps the latches clear. -/
def execTinEdge (n : Fin 5) (rising : Bool) (s : State) : Out :=
  let l := s.tsu.latches.get n.val
  let taken := s.edgeSelected n.val rising && s.tinStable n.val && !s.inBlockReset tsu4
  let s := { s with tsu := { s.tsu with edgeAt := s.tsu.edgeAt.set n.val (some s.time) } }
  let put := fun (x : Latch) => { s with tsu := { s.tsu with latches := s.tsu.latches.set n.val x } }
  s.done (if !taken then s
    else if l.valid then (put { l with ovr := true }).event tsu4 8
    else (put { l with valid := true, sec := s.tsu.sec, ns := BitVec.ofNat 32 s.tsu.ns }).event tsu4 (if n.val = 4 then 9 else 7))

/-- A read of a latch's NS word. -/
def State.readCapture (s : State) (n : Nat) : State :=
  let l := s.tsu.latches.get n
  { s with tsu := { s.tsu with latches := s.tsu.latches.set n { l with valid := false } }, hif := { s.hif with readData := l.ns } }

/-- R440: CAPTURE_READ. -/
def execCaptureRead (n : Fin 5) (s : State) : Out :=
  s.done (s.access { inst := tsu4, off := tinOff n.val R.TSU_TINNS } fun t => t.readCapture n.val)

/-- A write of a latch's SHI word clears OVR where it is 1. -/
def State.writeTinShi (s : State) (n : Nat) (v : Word) : State :=
  if bit v 30 then { s with tsu := { s.tsu with latches := s.tsu.latches.upd n fun l => { l with ovr := false } } } else s

/-! ### Recovered clocks (R434, R435) -/

/-- A write of TSU_RCLKc; a change of source or of DIV squelches the output until R435 lets it resume. -/
def State.writeRclk (s : State) (c : Nat) (v : Word) : State :=
  let off := R.TSU_RCLK + 4 * c
  let old := s.reg tsu4 off
  let s := s.plainWrite tsu4 off v
  let s := if !bit v 24 || fld old 0 24 ≠ fld v 0 24 then s.squelch c else s
  s.checkRclk c

/-- R435: the source's port has been in UP, with Muzzle released, for 10 ms. -/
def execRecoveredClockResume (c : Fin 2) (s : State) : Out :=
  let off := R.TSU_RCLK + 4 * c.val
  let ok := match s.laneOwner (s.regF tsu4 off 0 8) with
    | none => false
    | some p => s.portUp p && !bit (s.laneReg p R.PRT_PSTAT) 8
  s.done (if s.regB tsu4 off 24 && ok && !s.muzzled 1 && !s.rclkFast c.val then s.setRegB tsu4 off 25 false else s)

/-! ### The Kennel's count (R444) -/

/-- A write of TSU_CTRL. -/
def State.writeTsuCtrl (s : State) (v : Word) : State :=
  let t := s.plainWrite tsu4 R.TSU_CTRL v
  if bit v 1 then { t with tsu := { t.tsu with ksetPending := true } } else t

/-- R444: KSET_WRITE. -/
def execKsetWrite (v : Word) (s : State) : Out := s.done (s.hostTsu R.TSU_CTRL v fun t => t.writeTsuCtrl v)

/-- R444, R549: at a whole second the Kennel's count is set from the counter, and XTAL_FAIL clears. -/
def execKennelTimeFollow (s : State) : Out :=
  s.done (if s.boot.vkeep && (s.tsu.ksetPending || (s.regB tsu4 R.TSU_CTRL 0 && !s.regB tsu4 R.TSU_STAT 2)) then
      ({ s with knl := { s.knl with sec := s.tsu.sec, ticks := 0 }, tsu := { s.tsu with ksetPending := false } }).setRegB
        knl4 R.KNL_STAT 3 false
    else s)

end Sys2Proof.Machine
end

