-- ==== Sys2Proof/Machine/Windows.lean ====
section
/-! DEFINITION. Reading and storing whole window entries, with the rules of each block: versioned banks, stores under lock,
checked configuration, tenant map and ring blocks (R36-R39, R99-R103, R190-R194, R232-R247, R271, R302, R377, R446, R469,
R485, R494, R499, R523, R551). -/

namespace Sys2Proof.Machine

/-- The slice of a slice instance. -/
def sliceOf (i : InstId) : Slice := Fin.ofNat 4 i.inst.val

/-! ### Versioned objects (R192-R194) -/

/-- A bank of versioned objects accepts writes: it is neither active nor retiring. -/
def State.bankOpen (s : State) (b : Bool) : Bool := !s.retiring && b != s.epoch

/-- The valid partition that holds a row. -/
def State.rowPart (s : State) (sl : Slice) (r : Nat) : Option Word :=
  ((List.range 32).map (s.part sl)).find? fun w =>
    partValid w && decide (partFirst w * 2048 ≤ r) && decide (r < (partFirst w + partBanks w) * 2048)

/-- The bank of a row of a versioned partition (R238). -/
def State.rowBank (s : State) (sl : Slice) (r : Nat) : Option Bool :=
  match s.rowPart sl r with
  | none => none
  | some w => if partVersioned w then some (decide (partBanks w / 2 ≤ r / 2048 - partFirst w)) else none

/-- The bank of the versioned object that an entry of a window is, if it is one (R192, R205). -/
def State.entryBank (s : State) (i : InstId) (w e : Nat) : Option Bool :=
  match i.block, w with
  | .pcl, 0 | .pcl, 3 => some false
  | .pcl, 1 | .pcl, 4 => some true
  | .pcl, 5 | .asa, 0 => s.rowBank (sliceOf i) e
  | _, _ => none

/-- R194: the entry lies in a bank that accepts no write. -/
def State.bankRefuses (s : State) (i : InstId) (w e : Nat) : Bool := (s.entryBank i w e).any fun b => !s.bankOpen b

/-! ### Contents that are computed -/

/-- R232: the eleven words of a row. -/
def AsaRow.words (r : AsaRow) : List Word :=
  (List.range 5).map (fun k => r.value.extractLsb' (32 * k) 32) ++
  (List.range 5).map (fun k => r.care.extractLsb' (32 * k) 32) ++
  [setBit (setFld (setFld 0 0 8 r.pf.toNat) 8 8 r.pfcare.toNat) 16 r.valid]

/-- The number that words spell, low word first. -/
def ofWords (l : List Word) : Nat := l.foldr (fun w n => w.toNat + 2 ^ 32 * n) 0

/-- The row that eleven words spell. -/
def asaRowOf (l : List Word) : AsaRow :=
  let k := l[10]?.getD 0
  { value := BitVec.ofNat 160 (ofWords (l.take 5)), care := BitVec.ofNat 160 (ofWords ((l.drop 5).take 5))
    pf := BitVec.ofNat 8 (fld k 0 8), pfcare := BitVec.ofNat 8 (fld k 8 8), valid := bit k 16 }

/-- The 64-bit halves of a number, low word first. -/
def twoWords (n : Nat) : List Word := [BitVec.ofNat 32 n, BitVec.ofNat 32 (n / 2 ^ 32)]

/-- R469: the state of a key slot. -/
def State.slotWords (s : State) (k : Nat) : List Word :=
  let x := s.slot k
  setBit (setBit (setFld (setFld 0 0 2 x.alg) 2 2 x.role) 4 x.loaded) 5 x.exhausted
    :: twoWords x.counter ++ twoWords (s.mark k)

/-- R302: the depth of a queue. -/
def State.queueWords (s : State) (sl : Slice) (q : Nat) : List Word :=
  let l := s.queue sl q
  [setBit (setFld 0 0 19 (sramCells l)) 31 (l.any (·.inDeep)), BitVec.ofNat 32 (min (deepUnits l) (2 ^ 32 - 1))]

/-- R302: what a tenant uses. -/
def State.tenantWords (s : State) (sl : Slice) (t : Nat) : List Word :=
  let x := s.swc sl
  [setFld 0 0 19 (x.tgused.get t + x.tsused.get t), BitVec.ofNat 32 (cdiv (x.spillUse.get t) 65536)]

/-- R523: the word at an index of a bank, from the registers its trigger latched. -/
def snapWord (l : List (Nat × Word)) (e : Nat) : Word :=
  match instOfIndex (e / 1024) with
  | none => 0
  | some i =>
    let w := e % 1024
    let off := match i.block with
      | .prt => some (w / 128 * 512 + 4 * (w % 128))
      | .dtc => if w < 256 then some (w / 64 * 1024 + 4 * (w % 64)) else none
      | _ => if w < 64 then some (4 * w) else none
    match off with
    | none => 0
    | some off => if (regRow i off).isNone then 0 else lookupD (regResetAt (regAddr i off)) (regAddr i off) l

/-- The words that an entry holds. -/
def State.heldEntry (s : State) (i : InstId) (w e : Nat) : List Word :=
  match i.block, w with
  | .asa, 0 => ((s.asa (sliceOf i)).shadow.get e).words
  | .rwr, 7 => [s.sigs.get e]
  | .swc, 8 => s.queueWords (sliceOf i) e
  | .swc, 9 => s.tenantWords (sliceOf i) e
  | .kce, 0 => s.slotWords e
  | .flt, 0 | .flt, 1 | .flt, 2 | .flt, 3 =>
    [((s.flt.banks.get w).map fun l => snapWord l e).getD 0]
  | .knl, 0 => [BitVec.ofNat 32 (s.knlNat (4 * e) 4)]
  | _, _ => s.entry i w e

/-- R212, R213: words of a table of FWD, or of the actions of PCL, are not returned as data where they are damaged. -/
def parityWin (i : InstId) (w : Nat) : Bool :=
  match i.block with
  | .fwd => w ≤ 5
  | .pcl => w = 3 || w = 4 || w = 5 || w = 7
  | _ => false

/-- The words of an entry as a read finds them: in place of a damaged 64-bit word a value that is left open.
[DESIGN CHOICE, log 26] -/
def State.readEntry (s : State) (i : InstId) (w e : Nat) : List Word :=
  let l := shownWords i.block w (s.heldEntry i w e)
  if parityWin i w && s.badEntry i w e then
    l.zipIdx.map fun (v, k) =>
      let a := e * winWords i w + k / 2 * 2
      if s.badWord i w a || s.badWord i w (a + 1) then Config.freeWord (s.free + k) else v
  else l

/-- A read of an entry finds an error in a TMG window (R375) or in the shadow of a row (R243), or has drawn open words.
[DEDUCED, log 26] -/
def State.noteRead (s : State) (i : InstId) (w e : Nat) : State :=
  match i.block with
  | .tmg => s.tmgRead (sliceOf i) w e
  | .asa => if w = 0 then s.shadowRead (sliceOf i) e .clean else s
  | .fwd | .pcl => if parityWin i w && s.badEntry i w e then { s with free := s.free + winWords i w } else s
  | _ => s

/-! ### Stores -/

/-- The words of an entry after a write: the fields a write stores are replaced, the others kept. -/
def State.merged (s : State) (i : InstId) (w e : Nat) (l : List Word) : List Word :=
  l.zipIdx.map fun (v, k) => (s.ent i w e k &&& ~~~winMaskAt i w e k) ||| (v &&& winMaskAt i w e k)

def State.plainEntry (s : State) (i : InstId) (w e : Nat) (l : List Word) : State := s.setEntry i w e 0 (s.merged i w e l)

/-- R99-R103: a window write of the stores and entry banks. -/
def State.writePupEntry (s : State) (sl : Slice) (w e : Nat) (l : List Word) : State :=
  let i := slInst .pup sl
  let run := s.regB i R.PUP_CTRL 0
  let bank := s.regB i R.PUP_CTRL 1
  let code := fun (k : Nat) => s.setRegF i R.PUP_LDSTAT 0 4 k
  let l := l.zipIdx.map fun (v, k) => v &&& winMaskAt i w e k
  if w = 1 ∧ e < 1024 ∧ s.regB i R.PUP_STAT 4 then code (if run then 9 else 4)
  else if w ≤ 1 ∨ w = bankWin bank then
    if run then code 9 else (s.setRegF i R.PUP_STAT 1 2 0).writeStore sl w e l
  else (s.setRegB i R.PUP_STAT (if w = 3 then 2 else 1) false).writeStore sl w e l

/-- A window write of PCL; a word that is written leaves the list of reported words (R213). -/
def State.writePclEntry (s : State) (sl : Slice) (w e : Nat) (l : List Word) : State :=
  let t := s.plainEntry (slInst .pcl sl) w e l
  let table := pclTable w
  if w = 5 || w = 3 || w = 4 || w = 7 then (t.unreport sl table (2 * e)).unreport sl table (2 * e + 1) else t

/-- R244, R247: a window write of FWD. -/
def State.writeFwdEntry (s : State) (sl : Slice) (w e : Nat) (l : List Word) : State :=
  if w = 5 then s else
  let t := s.plainEntry (slInst .fwd sl) w e l
  if w ≤ 4 then
    forAll (List.range (tblWords (w + 2))) (fun k u => u.unreport sl (w + 2) (e * tblWords (w + 2) + k)) t
  else t

/-- R232, R234, R244: a window write of ASA. -/
def State.writeAsaEntry (s : State) (sl : Slice) (w e : Nat) (l : List Word) : State :=
  if w = 0 then
    if (s.rowPart sl e).any partL2 then s.event (asaI sl) 4
    else (s.writeRow sl e (asaRowOf l)).unreport sl 11 e
  else if w = 1 then s.writePart sl e (l[0]?.getD 0)
  else s.plainEntry (asaI sl) w e l

/-- R275, R302: a window write of SWC. -/
def State.writeSwcEntry (s : State) (sl : Slice) (w e : Nat) (l : List Word) : State :=
  if w = 8 ∨ w = 9 then s
  else
    let t := s.plainEntry (swcI sl) w e l
    if 1 < w then t
    else if t.takenCells sl + 4096 ≤ sliceCells then t.syncShared sl else s.event (swcI sl) 0

/-- R344, R353, R363: a window write of TMG. -/
def State.writeTmgEntry (s : State) (sl : Slice) (w e : Nat) (l : List Word) : State :=
  match w with
  | 0 => s.writeNode sl e l
  | 1 => s.writeSvc sl e l
  | 2 => s.writePort sl e l
  | 4 => s.writeGate sl e l
  | 5 => s.writeMeter sl e l
  | _ => s.plainEntry (tmgI sl) w e l

/-! ### Tenant map and ring blocks (R485, R494) -/

/-- The TIDs whose entry gives them a ring. -/
def State.ringTids (s : State) (punt : Bool) (r : Nat) : List Nat :=
  let word := (if punt then 17 else 19) + r / 32
  (s.win.ents.filter fun (k, v) => winKey hif4 0 0 ≤ k && decide (k < winKey hif4 0 (256 * 21)) &&
    (k - winKey hif4 0 0) % 21 = word && bit v (r % 32)).map fun (k, _) => (k - winKey hif4 0 0) / 21

/-- Some ring is given to two TIDs. -/
def State.ringsClash (s : State) : Bool :=
  [true, false].any fun p => (List.range 64).any fun r => 2 ≤ (s.ringTids p r).length

/-- R485: a write to the tenant map. A ring that changes its owner is disabled. -/
def State.writeTenant (s : State) (tid : Nat) (l : List Word) : State :=
  let t := s.plainEntry hif4 0 tid l
  if t.ringsClash then s.event hif4 7 else
  let moved := fun p => (List.range 64).filter fun r => s.ringOwner p r ≠ t.ringOwner p r
  let t := forAll (moved true) (fun r u => u.setRing (puntBlk r) 2 16 1 0) t
  forAll (moved false) (fun r u => u.setRing (injBlk r) 2 8 1 0) t

/-- R494: a write to a ring block. PHASE is 1 on the first pass after EN is set (R293). [DEDUCED, log 92] -/
def State.writeRing (s : State) (e : Nat) (l : List Word) : State :=
  let t := s.plainEntry hif4 1 e l
  let en := if 257 ≤ e && e < 321 then 16 else 8
  if bit (s.ring e 2) en || !bit (t.ring e 2) en then t
  else if e < 257 then t.updFn e fun x => { x with phase := true }
  else if e < 321 then { t with hif := { t.hif with rings := t.hif.rings.upd (e - 257) fun x => { x with phase := true } } }
  else t

/-! ### Fault sources (R499, R500, R527) -/

/-- The class stored by a write of CLASS. -/
def storedClass (src v : Nat) : Nat :=
  if fixedSrc src then 4 else if src = 88 && v < 3 then 3 else min v 3

/-- The word stored for a source by a write. -/
def storedSrc (src : Nat) (v : Word) : Word :=
  let w := setFld (v &&& 0x1F0) 0 3 (storedClass src (fld v 0 3))
  if fixedSrc src then w ||| 0xF8 else w

/-- A window write of FLT. -/
def State.writeFltEntry (s : State) (w e : Nat) (l : List Word) : State :=
  match w with
  | 4 => s.setEnt flt4 4 e 0 (storedSrc e (l[0]?.getD 0))
  | 5 => s.plainEntry flt4 5 e l
  | _ => s

/-! ### Any entry -/

/-- Store an entry of a window, by the rules of its block. -/
def State.storeEntry (s : State) (i : InstId) (w e : Nat) (l : List Word) : State :=
  match i.block with
  | .pup => s.writePupEntry (sliceOf i) w e l
  | .pcl => s.writePclEntry (sliceOf i) w e l
  | .fwd => s.writeFwdEntry (sliceOf i) w e l
  | .asa => s.writeAsaEntry (sliceOf i) w e l
  | .rwr => if w = 7 then s else s.plainEntry i w e l
  | .swc => s.writeSwcEntry (sliceOf i) w e l
  | .tmg => s.writeTmgEntry (sliceOf i) w e l
  | .hif => if w = 0 then s.writeTenant e l else s.writeRing e l
  | .flt => s.writeFltEntry w e l
  | .kce | .knl => s
  | .egv | .tsu | .prt | .bpm | .dtc => s.plainEntry i w e l

/-- R194: a write to an entry in the active or retiring bank is ignored. -/
def State.writeEntry (s : State) (i : InstId) (w e : Nat) (l : List Word) : State :=
  if s.bankRefuses i w e then s.event (slInst .pcl (sliceOf i)) 1 else s.storeEntry i w e l

/-- What parity covers of an entry (R212, R257, R375), by 32-bit word: each word of RWR and TMG, 64 bits of FWD and PCL, and an
entry of another block whole. -/
def parityPart (b : Block) (k : Nat) : Nat :=
  match b with
  | .rwr | .tmg => k
  | .fwd | .pcl => k / 2
  | _ => 0

/-- A damaged word of an entry of which a store writes nothing that its parity covers. -/
def State.staysBad (s : State) (i : InstId) (w e : Nat) (l : List (Nat × Word)) (k : Nat) : Bool :=
  s.badWord i w (e * winWords i w + k) && !l.any fun x => parityPart i.block x.1 = parityPart i.block k

/-- R39: the words that a store did not write are as they were, damage and the report of it included. -/
def State.keepBad (t s : State) (i : InstId) (w e : Nat) (l : List (Nat × Word)) : State :=
  let ks := (List.range (winWords i w)).filter (s.staysBad i w e l)
  if ks = [] then t else
  let t := { t with bad := ks.foldl (fun b k => b.set (winKey i w (e * winWords i w + k)) true) t.bad }
  let kept := fun (r : Nat × Nat) => (t.fwd (sliceOf i)).reported.contains r || match i.block with
    | .fwd => w < 5 && decide (r.1 = w + 2) && ks.any fun k => decide (r.2 = e * tblWords (w + 2) + k / 2)
    | .pcl => decide (r.1 = pclTable w) && ks.any fun k => decide (r.2 = 2 * e + k / 2)
    | _ => false
  if i.block = .fwd ∨ i.block = .pcl then
    t.updFwd (sliceOf i) fun f => { f with reported := (s.fwd (sliceOf i)).reported.filter kept }
  else t

/-- Store some words of an entry; the others keep the contents they hold (R39). -/
def State.writeWords (s : State) (i : InstId) (w e : Nat) (l : List (Nat × Word)) : State :=
  (s.writeEntry i w e ((s.heldEntry i w e).zipIdx.map fun (v, k) =>
    ((l.find? fun x => x.1 = k).map (·.2)).getD v)).keepBad s i w e l

end Sys2Proof.Machine
end

