-- ==== Sys2Proof/Machine/Hif.lean ====
section
/-! DEFINITION. The command channel: the fetch and checks of commands, their execution, batches and completions
(R138, R139, R195, R475-R485, R492, R496). -/

namespace Sys2Proof.Machine

/-! ### Rings (R477, R494) -/

/-- A KCC ring: enabled, entries of the command and completion rings, and their indices. -/
def State.kccOn (s : State) (f : Nat) : Bool := bit (s.ring (kccBlk f) 2) 8
def State.cmdSize (s : State) (f : Nat) : Nat := 2 ^ log2n (fld (s.ring (kccBlk f) 2) 0 5) 4 12
def State.kccCplSize (s : State) (f : Nat) : Nat := 2 ^ log2n (fld (s.ring (kccBlk f) 2) 16 5) 4 12
def State.cmdHead (s : State) (f : Nat) : Nat := fld (s.ring (kccBlk f) 5) 16 12
def State.cmdTail (s : State) (f : Nat) : Nat := fld (s.ring (kccBlk f) 5) 0 12
def State.kccCplHead (s : State) (f : Nat) : Nat := fld (s.ring (kccBlk f) 6) 16 12
def State.kccCplTail (s : State) (f : Nat) : Nat := fld (s.ring (kccBlk f) 6) 0 12

/-- Entries free in the completion ring (R293, R477). -/
def State.kccFree (s : State) (f : Nat) : Nat :=
  let n := s.kccCplSize f
  (s.kccCplTail f + 2 * n - s.kccCplHead f % n - 1) % n

/-- R477: a command of function `f` may be fetched. While the check queue is full HIF holds further commands (R463), and
while a KEY_LOAD awaits its check those that follow it in the ring. -/
def State.mayFetch (s : State) (f : Nat) : Bool :=
  s.kccOn f && s.cmdHead f ≠ s.cmdTail f && decide ((s.fn f).outstanding < 512) &&
    decide (s.regF hif4 R.HIF_INFLIGHT 0 13 < 4096) && decide ((s.fn f).outstanding < s.kccFree f) &&
    decide (s.kce.checks.length < 64) && (s.fn f).unproved.isNone &&
    !s.inBlockReset hif4 && !s.inBlockReset kce4 && !(decide (f < 256) && s.loadWaits f)

/-- R477: the function whose turn it is, of those with a command that may be fetched. -/
def State.fetchTurn (s : State) : Option Nat :=
  ((List.range 257).map fun k => (s.hif.kccRr + k) % 257).find? s.mayFetch

/-! ### Checks (R478-R481) -/

/-- R475: a command as its 64 bytes spell it. -/
def cmdOf (b : List Byte) : Cmd :=
  let tagf := BitVec.ofNat 32 (ofLe (slice b 2 2))
  { opcode := ofLe (slice b 0 2), tag := fld tagf 0 12, batch := bit tagf 12, fn := ofLe (slice b 4 2)
    seq := ofLe (slice b 8 8), payload := slice b 16 32, icv := slice b 48 16 }

/-- R478: an AUTH, REPLAY or DENIED outcome. -/
def State.hifRefusal (s : State) (f ev cnt : Nat) : State :=
  ((s.count hif4 cnt).setRegF hif4 R.HIF_LASTFN 0 9 f).event hif4 ev

/-- R483: the payload bytes that an opcode uses; none for an undefined opcode. [DEDUCED, log 90] -/
def usedBytes (op : Nat) : Option (List Nat) :=
  let r := fun (a b : Nat) => (List.range (b + 1 - a)).map (a + ·)
  match op with
  | 0x000 | 0x018 | 0x019 | 0x01A | 0x020 | 0x050 => some []
  | 0x010 | 0x011 => some (r 0 2 ++ r 4 9 ++ r 16 23)
  | 0x012 => some (r 0 1 ++ r 4 27)
  | 0x030 => some (r 0 12)
  | 0x040 => some (r 0 8)
  | 0x041 => some (r 0 1)
  | 0x042 => some (r 0 2 ++ r 4 23)
  | 0x043 => some (r 0 15)
  | 0x060 | 0x061 => some (r 0 0 ++ r 4 23)
  | 0x070 | 0x071 => some (r 0 15)
  | 0x072 => some (r 0 7)
  | _ => none

/-- R483: the opcodes of the PF. -/
def pfOnly (op : Nat) : Bool := [0x020, 0x030, 0x040, 0x041, 0x042, 0x043, 0x050, 0x060, 0x061, 0x070, 0x071, 0x072].contains op

/-- The instance, window, first entry and number of entries of a TBL command. -/
def Cmd.tblInst (c : Cmd) : Option InstId := if 8192 ≤ c.pay 0 2 then none else instOfIndex (c.pay 0 2)
def Cmd.tblWin (c : Cmd) : Nat := c.pay 2 1
def Cmd.tblFirst (c : Cmd) : Nat := c.pay 4 4
def Cmd.tblCount (c : Cmd) : Nat := c.pay 8 2

/-- The instances an instance number addresses: itself, or the slice instances for the broadcast (R31). -/
def targetsOf (i : InstId) : List InstId := if i.inst.val = 15 then slices.map (slInst i.block) else [i]

/-- A TBL command names a window of its instance, and entries that lie in it. -/
def Cmd.tblLegal (c : Cmd) : Bool :=
  match c.tblInst with
  | none => false
  | some i =>
    if i.inst.val = 15 && c.opcode = 0x011 then false else
    match ((targetsOf i).head?).bind fun j => winDim j c.tblWin with
    | none => false
    | some (n, _) => 1 ≤ c.tblCount && decide (c.tblCount ≤ 256) && decide (c.tblFirst + c.tblCount ≤ n)

/-- R478 step 6: the payload and BATCH are legal for the opcode. -/
def Cmd.legal (c : Cmd) : Bool :=
  let unused := ((List.range 32).filter fun k => !((usedBytes c.opcode).getD []).contains k).all fun k => c.pay k 1 = 0
  unused && (!c.batch || [0x000, 0x010, 0x012].contains c.opcode) && match c.opcode with
    | 0x010 | 0x011 => c.tblLegal
    | 0x012 => c.pay 1 1 ≤ 3 || c.pay 1 1 = 15
    | 0x041 => c.pay 0 2 < 512
    | 0x042 => c.macSlot < 512 && 1 ≤ c.macLen && decide (c.macLen < 2 ^ 24)
    | 0x043 => c.macSlot < 512 && 1 ≤ c.macLen && decide (c.macLen < 2 ^ 24) && 4 ≤ c.pay 3 1 && c.pay 3 1 ≤ 16
    | 0x060 | 0x061 => c.pay 0 1 ≤ 3 && 1 ≤ c.pay 12 4 && decide (c.pay 8 4 + c.pay 12 4 ≤ 65536)
    | 0x070 | 0x071 => 1 ≤ c.pay 4 4 && c.pay 4 4 ≤ 2 ^ 24
    | 0x072 => c.pay 0 4 % 65536 = 0 && c.pay 4 4 % 65536 = 0
    | _ => true

/-! ### The tenant map (R485) -/

/-- A word of a TID's entry. -/
def State.tmap (s : State) (t k : Nat) : Word := s.ent hif4 0 t k

/-- Entries `a` to `b` lie between two limits. -/
def within (lo hi a b : Nat) : Bool := lo ≤ a && b ≤ hi

/-- The number of the valid partition that holds a row. -/
def State.rowPartNo (s : State) (sl : Slice) (r : Nat) : Option Nat :=
  (List.range 32).find? fun p =>
    let w := s.part sl p
    partValid w && decide (partFirst w * 2048 ≤ r) && decide (r < (partFirst w + partBanks w) * 2048)

/-- R342: OWNER of a service node. -/
def ownerOf (w : Word) : Nat := fld w 14 8

/-- R485: entries `a` to `b` of a window of a slice lie in what TID `t` owns. -/
def State.tblAllowed (s : State) (t : Nat) (i : InstId) (w a b : Nat) : Bool :=
  let m := s.tmap t
  let all := fun (p : Nat → Bool) => ((List.range (b + 1 - a)).map (a + ·)).all p
  let rows := fun () => all fun r => (s.rowPartNo (sliceOf i) r).any fun p => bit (m 15) p
  let pair := fun (k n : Nat) => within (fld (m k) 0 n) (fld (m (k + 1)) 0 n) a b
  match i.block, w with
  | .fwd, 0 => pair 0 20
  | .fwd, 1 => pair 2 18
  | .fwd, 2 => pair 4 18
  | .fwd, 3 => within (fld (m 6) 0 8) (fld (m 6) 8 8) (a / 4096) (b / 4096)
  | .fwd, 4 => within (fld (m 7) 0 14) (fld (m 7) 16 14) a b
  | .asa, 0 | .pcl, 5 => rows ()
  | .tmg, 0 => all fun n => ownerOf (s.svcW (sliceOf i) (s.service (sliceOf i) n) 0) = t
  | .tmg, 1 => all fun v => ownerOf (s.svcW (sliceOf i) v 0) = t
  | .tmg, 5 => pair 8 17
  | .rwr, 0 => within (fld (m 10) 0 16) (fld (m 10) 16 16) a b
  | .rwr, 1 => within (fld (m 11) 0 12) (fld (m 11) 16 12) a b
  | .swc, 4 => within (fld (m 12) 0 16) (fld (m 12) 16 16) a b
  | .swc, 5 => pair 13 18
  | _, _ => false

/-- The slices that an FWD_OP addresses, its operation, and its arguments. -/
def Cmd.fwdSlices (c : Cmd) : List Slice := if c.pay 1 1 = 15 then slices else [Fin.ofNat 4 (c.pay 1 1)]
def Cmd.fwdOp (c : Cmd) : FwdOp := ⟨c.pay 0 1, (List.range 6).map fun k => BitVec.ofNat 32 (c.pay (4 + 4 * k) 4)⟩

/-- Route units that TID `t` holds in its instances, as slice S0 reports them. -/
def State.heldUnits (s : State) (t : Nat) : Nat :=
  let w := s.tmap t 16
  (((s.fwd 0).routes.filter fun r => r.inst = (if r.v6 then fld w 8 8 else fld w 0 8)).map routeUnits).sum

/-- R485: a ROUTE_ADD keeps its tenant within its quota. -/
def State.quotaAllows (s : State) (t : Nat) (r : Route) : Bool :=
  let more := if (s.fwd 0).routes.any fun q => r.same q then 0 else routeUnits r
  s.heldUnits t + more ≤ fld (s.tmap t 16) 16 16 * 64

/-- R485: an FWD_OP stays in what TID `t` owns. [DEDUCED, log 45] -/
def State.fwdAllowed (s : State) (t : Nat) (c : Cmd) : Bool :=
  let o := c.fwdOp
  let a := fun (k : Nat) => o.args[k]?.getD 0
  let w := s.tmap t 16
  let bd := fun (b : Nat) => within (fld (s.tmap t 7) 0 14) (fld (s.tmap t 7) 16 14) b b
  let v6 := ofLe ((o.args.take 4).flatMap fun w => leBytes 4 w.toNat)
  match o.op with
  | 1 => fld (a 1) 8 8 = fld w 0 8 && s.quotaAllows t (argRoute false (a 0).toNat (a 1) (a 2))
  | 2 => fld (a 1) 8 8 = fld w 0 8
  | 3 => fld (a 4) 8 8 = fld w 8 8 && s.quotaAllows t (argRoute true v6 (a 4) (a 5))
  | 4 => fld (a 4) 8 8 = fld w 8 8
  | 5 | 6 => bd (fld (a 1) 16 14)
  | 7 => c.fwdSlices.all fun sl =>
    match s.l2Part sl with
    | none => true
    | some p =>
      let row := (s.asa sl).shadow.get (l2First p + (a 0).toNat)
      decide (l2Rows p ≤ (a 0).toNat) || !row.valid || bd (row.value.toNat / 2 ^ 48 % 2 ^ 14)
  | _ => true

/-- R478 step 7: the command is allowed to its function. -/
def State.allowed (s : State) (f : Nat) (c : Cmd) : Bool :=
  if f = 0 then true
  else if pfOnly c.opcode then false
  else match c.opcode with
    | 0x010 | 0x011 => (c.tblInst.map targetsOf).any fun l =>
      l.all fun i => s.tblAllowed f i c.tblWin c.tblFirst (c.tblFirst + c.tblCount - 1)
    | 0x012 => s.fwdAllowed f c
    | _ => true

/-- R478 steps 6 and 7, of an accepted command. -/
def State.checkAccepted (s : State) (f : Nat) (c : Cmd) (clean : Bool) : State :=
  if (usedBytes c.opcode).isNone then s.finish c 19
  else if !clean || !c.legal then s.finish c 6
  else if !s.allowed f c then (s.hifRefusal f 2 R.HIF_DENYCNT).finish c 18
  else s.updFn f fun x => { x with accepted := x.accepted ++ [c] }

/-- R478 step 5, R480: the command is accepted, and its mark kept ahead. -/
def State.acceptCmd (s : State) (f : Nat) (c : Cmd) : State :=
  let s := s.updFn f fun x => { x with
    lastSeq := c.seq, tags := x.tags ++ [(c.no, c.tag)]
    cache := (x.cache ++ [({ seq := c.seq, icv := c.icv, cpl := none, no := c.no } : CacheEnt)]).drop (x.cache.length + 1 - 64) }
  s.markSeq f c.seq

/-- R479: a command whose SEQ is not above the last accepted one. -/
def State.replayed (s : State) (f : Nat) (c : Cmd) : State :=
  match (s.fn f).cache.find? fun e => e.seq = c.seq && decide (e.icv = c.icv) with
  | some e => match e.cpl with
    | some p => s.updFn f fun x => x.answerDup p c
    | none => s.updFn f fun x => { x with dups := x.dups ++ [{ c with no := e.no }] }
  | none => (s.hifRefusal f 1 R.HIF_REPLAYCNT).reject f c 17 (leBytes 8 (s.fn f).lastSeq)

/-- R478 steps 4 and 5. -/
def State.checkTag (s : State) (f : Nat) (c : Cmd) (clean : Bool) : State :=
  if (s.fn f).tags.any fun e => e.2 = c.tag then s.reject f c 21
  else (s.acceptCmd f c).checkAccepted f c clean

/-- R478 steps 2 to 8: what the check of a command of function `f` finds; `b` is the command's bytes 0-47. -/
def State.endCheck (s : State) (f : Nat) (b : List Byte) (c : Cmd) (clean : Bool) : State :=
  let x := s.slot f
  if !x.loaded then s.reject f c 2 else
  let s := s.count kce4 R.KCE_VERCNT
  if cmac x.key b ≠ c.icv then
    (((s.count kce4 R.KCE_FAILCNT).kceEvent 0 f).hifRefusal f 0 R.HIF_AUTHCNT).reject f c 16
  else if c.seq ≤ (s.fn f).lastSeq then s.replayed f c
  else s.checkTag f c clean

/-- R478 step 2 of a command with the right FUNC and KEYSLOT: its check enters the engine. While slot 0 is empty, a
KEY_LOAD of the PF awaits its blob, which shows the slot it names (R481). -/
def State.checkKey (s : State) (f : Nat) (b : List Byte) (c : Cmd) (clean : Bool) : State :=
  let x := s.slot f
  let t := { s with hif := { s.hif with fetchNo := s.hif.fetchNo + 1 } }
  let d := { c with no := s.hif.fetchNo }
  if !x.loaded then
    if f = 0 && c.opcode = 0x040 then t.updFn f fun y => { y with unproved := some ({ d with bare := true }, clean) }
    else s.reject f c 2
  else if x.role ≠ 0 then s.reject f c 4
  else t.enqueueCheck { cmd := d, slot := f, use := .check (slice b 0 48) clean, no := s.hif.fetchNo }

/-- R478: the checks of a fetched command. [DEDUCED, log 87] -/
def State.checkCommand (s : State) (f : Nat) (b : List Byte) : State :=
  let c := cmdOf b
  if f = 256 || c.fn ≠ f || ofLe (slice b 6 2) ≠ f then s.reject f c 20
  else s.checkKey f b c (ofLe (slice b 3 1) < 32)

/-- R477: the function whose turn it is has its next command fetched and checked. -/
def execCommandFetch (fn : Fin 257) (cmd : List Byte) (s : State) : Out :=
  let f := fn.val
  s.done (if s.fetchTurn ≠ some f then s else
    let s := { s with hif := { s.hif with kccRr := (f + 1) % 257 } }
    let s := s.setRing (kccBlk f) 5 16 12 ((s.cmdHead f + 1) % s.cmdSize f)
    let s := (s.updFn f fun x => { x with outstanding := x.outstanding + 1 }).syncOutst f
    s.checkCommand f cmd)

/-- R481: the blob of the KEY_LOAD that waits shows the slot it names: slot 0, with which the command is accepted, or
another, with which it ends with NO_KEY. One whose blob cannot be read, or that comes without the root key, ends with its own
status. [DEDUCED, log 87] -/
def State.proveKeyLoad (s : State) (f : Nat) (blob : Option (List Byte)) : State :=
  match (s.fn f).unproved with
  | none => s
  | some (c, clean) =>
    let s := s.updFn f fun x => { x with unproved := none }
    if !s.noRootKey && blob.any fun b => ofLe (slice b 0 2) ≠ 0 then s.reject f c 2 else s.checkTag f c clean

/-- R456, R482: KEY_LOAD. -/
def execKeyLoad (fn : Fin 257) (blob : Option (List Byte)) (s : State) : Out :=
  let slot := ofLe (slice (blob.getD []) 0 2)
  s.done (if (blob.isSome && s.loadWaits slot) || s.loadsOf fn.val || s.inBlockReset kce4 then s
    else (s.proveKeyLoad fn.val blob).takeKeyLoad fn.val blob)

/-! ### Completions (R476, R477) -/

/-- R476: the bytes of a completion. -/
def Cpl.bytes (c : Cpl) (phase : Bool) : List Byte :=
  let tagf := c.tag % 4096 + (if c.cached then 4096 else 0) + (if c.staged then 8192 else 0) + if phase then 32768 else 0
  leBytes 2 tagf ++ leBytes 2 c.status ++ leBytes 2 c.opcode ++ leBytes 2 c.fn ++ leBytes 8 c.seq ++ slice c.result 0 16

/-- Write the oldest completion of a function. -/
def State.writeCpl (s : State) (f : Nat) (c : Cpl) : State :=
  let h := s.kccCplHead f
  let next := (h + 1) % s.kccCplSize f
  let base := (s.ring (kccBlk f) 4).toNat * 2 ^ 32 + (s.ring (kccBlk f) 3).toNat
  let s := s.dma (base + 32 * h) (c.bytes (s.fn f).phase)
  let s := s.updFn f fun x => { x with
    done := x.done.drop 1, outstanding := x.outstanding - 1
    tags := if c.acc then x.tags.filter (fun e => e.1 ≠ c.no) else x.tags
    phase := if next ≤ h then !x.phase else x.phase }
  ((s.setRing (kccBlk f) 6 16 12 next).syncOutst f).sendMsi f (if f = 0 then 55 else 0)

/-- R477: COMMAND_COMPLETION_WRITE. -/
def execCommandCompletionWrite (fn : Fin 257) (s : State) : Out :=
  s.done (if s.inBlockReset hif4 || s.kccFree fn.val = 0 then s else
    match (s.fn fn.val).done with
    | [] => s
    | c :: _ => s.writeCpl fn.val c)

/-! ### Batches (R484) -/

/-- HELD and BATCH_OPEN of the ring block follow the batch. -/
def State.syncBatch (s : State) (f : Nat) : State :=
  (s.setRing (kccBlk f) 7 16 10 (s.fn f).held.length).setRing (kccBlk f) 7 10 1 (if (s.fn f).batch then 1 else 0)

/-- A command with BATCH = 1 that is not performed at once is held. -/
def State.holdCmd (s : State) (c : Cmd) (l : List Word) : State :=
  let x := s.fn c.fn
  if !x.batch then s.finish c 24
  else if 512 ≤ x.held.length then s.finish c 7
  else ((s.updFn c.fn fun x => { x with held := x.held ++ [(c, l)] }).syncBatch c.fn).complete c.fn { c.cpl 0 with staged := true }

/-- R483: KCC_NOP. -/
def execKccNop (fn : Fin 257) (s : State) : Out :=
  s.done (s.runCmd fn.val 0x000 false fun c t => if c.batch then t.holdCmd c [] else t.finish c 0)

/-- R484: BATCH_OPEN. -/
def execBatchOpen (fn : Fin 257) (s : State) : Out :=
  s.done (s.runCmd fn.val 0x018 false fun c t =>
    if (t.fn c.fn).batch then t.finish c 25
    else ((t.updFn c.fn fun x => { x with batch := true, held := [], batchWrote := false }).syncBatch c.fn).finish c 0)

/-- R484: BATCH_ABORT. -/
def execBatchAbort (fn : Fin 257) (s : State) : Out :=
  s.done (s.runCmd fn.val 0x01A false fun c t =>
    if !(t.fn c.fn).batch then t.finish c 24
    else
      let n := (t.fn c.fn).held.length
      ((t.updFn c.fn fun x => { x with batch := false, held := [], batchWrote := false }).syncBatch c.fn).finish c 0 (leBytes 4 n))

/-! ### Table commands (R194, R483) -/

/-- R482: an earlier command of the function still acts on the instance: its image load on PUP, its key loads and MAC
requests on KCE. -/
def State.instBusy (s : State) (f : Nat) (i : InstId) : Bool :=
  match i.block with
  | .pup => s.hif.load.any fun l => l.cmd.fn = f
  | .kce =>
    let k := s.kce
    (k.cores.ents.filterMap (·.2) ++ k.suspended.ents.filterMap (·.2) ++ k.urgent ++ k.normal ++ k.waiting).any
        (fun r => decide (r.use = .mac) && decide (r.cmd.fn = f))
      || s.loadsOf f
  | _ => false

/-- Every instance of a TBL command can be accessed, and no earlier command of the function acts on it. -/
def State.tblReady (s : State) (c : Cmd) : Bool :=
  (c.tblInst.map targetsOf).all fun l => l.all fun i => s.reachable i && !s.instBusy c.fn i

/-- Ask for the wakes that a TBL command waits for. -/
def State.tblWake (s : State) (c : Cmd) : State := forAll ((c.tblInst.map targetsOf).getD []) (fun i t => t.wakeFor i) s

/-- The entries of a TBL command. -/
def Cmd.entries (c : Cmd) : List Nat := (List.range c.tblCount).map (c.tblFirst + ·)

/-- The words of the entry `e` in the data of a TBL_WRITE. -/
def Cmd.words (c : Cmd) (i : InstId) (data : List Word) (e : Nat) : List Word :=
  let n := winWords i c.tblWin
  (List.range n).map fun k => data[(e - c.tblFirst) * n + k]?.getD 0

/-- The command writes a versioned object. [DEDUCED, log 40] -/
def State.versioned (s : State) (c : Cmd) : Bool :=
  (c.tblInst.map targetsOf).any fun l => l.any fun i => c.entries.any fun e => (s.entryBank i c.tblWin e).isSome

/-- The command writes an entry of a bank that accepts writes. -/
def State.writesBank (s : State) (c : Cmd) : Bool :=
  (c.tblInst.map targetsOf).any fun l => l.any fun i => c.entries.any fun e => (s.entryBank i c.tblWin e).any s.bankOpen

/-- R194: the command writes a bank that accepts no write. -/
def State.tblRefused (s : State) (c : Cmd) : Bool :=
  (c.tblInst.map targetsOf).any fun l => l.any fun i => c.entries.any fun e => s.bankRefuses i c.tblWin e

/-- R485: a tenant's write of service nodes leaves their OWNER as it is. [DEDUCED, log 93] -/
def State.keepsOwner (s : State) (c : Cmd) (data : List Word) : Bool :=
  c.fn = 0 || match c.tblInst with
    | some i => i.block ≠ .tmg || c.tblWin ≠ 1 || (targetsOf i).all fun j => c.entries.all fun e =>
      ownerOf ((c.words j data e)[0]?.getD 0) = ownerOf (s.svcW (sliceOf j) e 0)
    | none => true

/-- Perform a TBL_WRITE: its status, and the state after. -/
def State.performTbl (s : State) (c : Cmd) (data : List Word) : Nat × State :=
  if !s.keepsOwner c data then (18, s.hifRefusal c.fn 2 R.HIF_DENYCNT) else
  let l := (c.tblInst.map targetsOf).getD []
  let t := forAll c.entries (fun e u => forAll l (fun i v => v.writeEntry i c.tblWin e (c.words i data e)) u) s
  (if s.tblRefused c then 7 else 0, t)

/-- R483, R484: a TBL_WRITE whose data has been read: step 7 of R478 comes before its staging. -/
def State.tblWrite (s : State) (c : Cmd) (data : List Word) : State :=
  if !s.keepsOwner c data then (s.hifRefusal c.fn 2 R.HIF_DENYCNT).finish c 18
  else if c.batch && !(s.fn c.fn).batch then s.finish c 24
  else if c.batch && !s.versioned c then s.holdCmd c data
  else
    let (st, t) := s.performTbl c data
    let t := if c.batch && s.writesBank c then t.updFn c.fn fun x => { x with batchWrote := true } else t
    t.complete c.fn { c.cpl st with staged := c.batch }

/-- R483: TBL_WRITE. -/
def execTblWrite (fn : Fin 257) (data : Option (List Word)) (s : State) : Out :=
  s.done (match s.nextCmd fn.val 0x010 with
    | none => s
    | some c =>
      if !s.tblReady c then s.tblWake c else
      s.runCmd fn.val 0x010 false fun c t => match data with
        | none => t.finish c (if c.batch && !(t.fn c.fn).batch then 24 else 8)
        | some l => t.tblWrite c l)

/-- R483: TBL_READ. -/
def execTblRead (fn : Fin 257) (writable : Bool) (s : State) : Out :=
  s.done (match s.nextCmd fn.val 0x011, (s.nextCmd fn.val 0x011).bind Cmd.tblInst with
    | some c, some i =>
      if !s.tblReady c then s.tblWake c else
      s.runCmd fn.val 0x011 false fun c t =>
        if !writable then t.finish c 8 else
        let words := c.entries.flatMap fun e => t.readEntry i c.tblWin e
        let t := forAll c.entries (fun e u => u.noteRead i c.tblWin e) t
        let t := t.dma (c.pay 16 8) (words.flatMap fun w => leBytes 4 w.toNat)
        t.finish c 0
    | _, _ => s)

/-! ### FWD operations (R229, R483) -/

/-- FWD of a slice can run an operation now. -/
def State.fwdFree (s : State) (sl : Slice) : Bool :=
  s.awake sl && !s.inBlockReset (fwdI sl) && (s.fwd sl).run.isNone && (s.fwd sl).queue = []

/-- Run an operation to its end: status, row and state. -/
def State.fwdNow (s : State) (sl : Slice) (o : FwdOp) : (Nat × Nat) × State :=
  let t := s.fwdStart sl o
  ((t.fwd sl).res, t.fwdComplete sl)

/-- Run the operation of an FWD_OP in each slice it addresses: the RESULT words and the state. -/
def State.performFwd (s : State) (c : Cmd) : List Byte × State :=
  slices.foldl (fun (l, t) sl =>
    if c.fwdSlices.contains sl then
      let ((st, _), u) := t.fwdNow sl c.fwdOp
      (l ++ leBytes 4 (st % 16 + 16 + u.regF (fwdI sl) R.FWD_OPRES 0 15 * 32), u)
    else (l ++ zeros 4, t)) ([], s)

/-- Ask for the wakes that an FWD_OP waits for. -/
def State.fwdWake (s : State) (c : Cmd) : State := forAll c.fwdSlices (fun sl t => t.requestWake sl) s

/-- R483: FWD_OP. -/
def execFwdOp (fn : Fin 257) (s : State) : Out :=
  s.done (match s.nextCmd fn.val 0x012 with
    | none => s
    | some c =>
      if !c.batch && !c.fwdSlices.all s.fwdFree then s.fwdWake c else
      s.runCmd fn.val 0x012 false fun c t =>
        if c.batch then t.holdCmd c [] else
        let (r, t) := t.performFwd c
        t.finish c 0 r)

/-- A held command can be performed now. -/
def State.heldReady (s : State) (c : Cmd) : Bool :=
  match c.opcode with
  | 0x010 => s.tblReady c
  | 0x012 => c.fwdSlices.all s.fwdFree
  | _ => true

/-- Perform a held command: its status and the state after. -/
def State.performHeld (s : State) (c : Cmd) (data : List Word) : Nat × State :=
  match c.opcode with
  | 0x010 => s.performTbl c data
  | 0x012 => (0, (s.performFwd c).2)
  | _ => (0, s)

/-- Perform the held commands in order, from position `k`: commands applied and failed, the first failure and its
status. [DEDUCED, log 41] -/
def State.commitHeld : List (Cmd × List Word) → Nat → (Nat × Nat × Option (Nat × Nat)) → State →
    (Nat × Nat × Option (Nat × Nat)) × State
  | [], _, r, s => (r, s)
  | (c, l) :: rest, k, (ok, bad, first), s =>
    let (st, t) := s.performHeld c l
    if st = 0 then State.commitHeld rest (k + 1) (ok + 1, bad, first) t
    else State.commitHeld rest (k + 1) (ok, bad + 1, some (first.getD (k, st))) t

/-- R484: BATCH_COMMIT. -/
def execBatchCommit (fn : Fin 257) (s : State) : Out :=
  s.done (match s.nextCmd fn.val 0x019 with
    | none => s
    | some _ =>
      let held := (s.fn fn.val).held
      if !held.all fun (c, _) => s.heldReady c then
        forAll held (fun (c, _) t => if c.opcode = 0x012 then t.fwdWake c else t.tblWake c) s
      else s.runCmd fn.val 0x019 false fun c t =>
        if !(t.fn c.fn).batch then t.finish c 24 else
        let ((ok, bad, first), t) := State.commitHeld held 0 (0, 0, none) t
        let (pos, st) := first.getD (0xFFFFFFFF, 0)
        let t := (t.updFn c.fn fun x => { x with batch := false, held := [], batchWrote := false }).syncBatch c.fn
        t.finish c 0 (leBytes 4 ok ++ leBytes 4 bad ++ leBytes 4 pos ++ leBytes 2 st))

/-! ### Commits (R195, R196, R201) -/

/-- STALE is set in some slice. -/
def State.stale (s : State) : Bool := slices.any fun sl => s.regB (slInst .pcl sl) R.PCL_VSTAT 0

/-- R195: VERSION and the epoch of every slice advance, and the previous bank retires. [DEDUCED, log 39] -/
def State.commitVersion (s : State) : State :=
  let v := (s.version + 1) % 65536
  let s := forAll slices (fun sl t => t.setReg (slInst .pcl sl) R.PCL_VERSION
    (setBit (setBit (BitVec.ofNat 32 v) 16 (v % 2 = 1)) 17 true)) s
  { s with commitAt := s.time }.tryRetire

/-- R195: COMMIT_VERSION. -/
def execCommitVersion (fn : Fin 257) (s : State) : Out :=
  s.done (s.runCmd fn.val 0x020 false fun c t =>
    if t.retiring then (forAll slices (fun sl u => u.event (slInst .pcl sl) 3) t).finish c 7
    else if t.stale then t.finish c 22
    else
      let t := t.commitVersion
      t.finish c 0 (leBytes 2 t.version))

/-! ### Time (R423) -/

/-- R423: TIME_ARM. -/
def execTimeArm (fn : Fin 257) (s : State) : Out :=
  s.done (if s.inBlockReset tsu4 then s else s.runCmd fn.val 0x050 false fun c t => (t.setArmed true).finish c 0)

/-! ### Images (R136-R139) -/

/-- The fields of a .zxi header. -/
def imgAt (img : List Byte) (off n : Nat) : Nat := ofLe (slice img off n)

def imgBase (img : List Byte) : Bool := (imgAt img 6 2).testBit 0
def imgHasEnt (img : List Byte) : Bool := (imgAt img 6 2).testBit 1

/-- R139: a section of `n` bytes at `off` lies between the header and the ICV. One without bytes lies anywhere, and sections
may overlap. [DESIGN CHOICE, log 143] -/
def sectionOk (img : List Byte) (off n : Nat) : Bool :=
  n = 0 || (64 ≤ off && decide (off + n + 16 ≤ imgAt img 44 4))

/-- R139 code 1: the header is consistent. -/
def imgHeaderOk (img : List Byte) (len : Nat) : Bool :=
  slice img 0 4 = [0x5A, 0x58, 0x49, 0x31] && imgAt img 4 2 = 1 && decide (imgAt img 6 2 < 4) && imgAt img 44 4 = len &&
    80 ≤ len && decide (slice img 48 16 = zeros 16) &&
    sectionOk img (imgAt img 32 4) (4 * imgAt img 18 2) && sectionOk img (imgAt img 36 4) (32 * imgAt img 22 2) &&
    (!imgHasEnt img || sectionOk img (imgAt img 40 4) (4 * imgAt img 24 2))

/-- The words of `n` entries of `w` words in a section. -/
def imgEntries (img : List Byte) (off n w : Nat) : List (List Word) :=
  (List.range n).map fun k => (List.range w).map fun j => BitVec.ofNat 32 (imgAt img (off + 4 * (w * k + j)) 4)

def imgMw (img : List Byte) : List (List Word) := imgEntries img (imgAt img 32 4) (imgAt img 18 2) 1
def imgNw (img : List Byte) : List (List Word) := imgEntries img (imgAt img 36 4) (imgAt img 22 2) 8
def imgEnt (img : List Byte) : List (List Word) :=
  if imgHasEnt img then imgEntries img (imgAt img 40 4) (imgAt img 24 2) 1 else []

/-- R139 code 2: every section fits its store, and no nanoword has a reserved bit set. -/
def imgRangeOk (img : List Byte) : Bool :=
  decide (imgAt img 16 2 + imgAt img 18 2 ≤ 16384) && decide (imgAt img 20 2 + imgAt img 22 2 ≤ 4096) &&
    decide (imgAt img 24 2 ≤ 256) && (imgNw img).all fun l => !(nanoOf l).reserved

/-- A customer image writes a nanoword of the base set. -/
def imgTouchesBase (img : List Byte) : Bool := 0 < imgAt img 22 2 && decide (imgAt img 20 2 < 1024)

/-- R136-R139: the code with which an image is refused before anything is written, a nanoword with a reserved bit in it
included [DESIGN CHOICE, log 143]. A slot 256-271 that holds a loaded key of another role than IMAGE is refused as one that is
not loaded. BASE_REQ of a base image, for which R136 says 0 and R139 names no code, is not looked at. [DESIGN CHOICE, log 118;
DEDUCED, log 91; DESIGN CHOICE, log 140] -/
def State.imgRefusal (s : State) (img : List Byte) (len : Nat) : Option Nat :=
  let slot := imgAt img 26 2
  let locked := s.regB (slInst .pup 0) R.PUP_STAT 4
  if !imgHeaderOk img len then some 1
  else if !imgRangeOk img then some 2
  else if slot < 256 || 271 < slot || !(s.slot slot).loaded || (s.slot slot).role ≠ 1 then some 7
  else if (imgBase img && locked) || (!imgBase img && imgTouchesBase img) then some 4
  else if !imgBase img && !locked then some 6
  else if !imgBase img && imgAt img 28 4 ≠ s.baseImg then some 5
  else none

/-- The result of a load in every slice, and the completion of its command. -/
def State.endLoad (s : State) (c : Cmd) (code : Nat) : State :=
  let s := forAll slices (fun sl t =>
    (t.setRegF (slInst .pup sl) R.PUP_LDSTAT 0 4 code).setRegB (slInst .pup sl) R.PUP_STAT 3 false) s
  { s with hif := { s.hif with load := none } }.finish c (if code = 0 then 0 else 23) [BitVec.ofNat 8 code]

/-- Write entries of a store in every slice, from an index on. -/
def State.loadStore (s : State) (win start : Nat) (l : List (List Word)) : State :=
  forAll l.zipIdx (fun (w, k) t => forAll slices (fun sl u => u.writeStore sl win (start + k) w) t) s

/-- The slices' EBANK fields differ. -/
def State.bankSplit (s : State) : Bool :=
  slices.any fun sl => s.regB (slInst .pup sl) R.PUP_CTRL 1 != s.regB (slInst .pup 0) R.PUP_CTRL 1

/-- R138: a load starts: the inactive bank loses VERIFIED, the header is checked, and the sections are written. Of an image that
cannot be read to its end nothing is written: the spec does not say whether the sections read before are.
[DESIGN CHOICE, log 140] -/
def State.startLoad (s : State) (c : Cmd) (image : Option (List Byte)) : State :=
  if s.bankSplit then s.endLoad c 10 else
  let bank := !s.regB (slInst .pup 0) R.PUP_CTRL 1
  let s := forAll slices (fun sl t =>
    (t.setRegB (slInst .pup sl) R.PUP_STAT (if bank then 2 else 1) false).setRegB (slInst .pup sl) R.PUP_STAT 3 true) s
  match image with
  | none => s.endLoad c 8
  | some b =>
    let len := c.pay 8 4
    let img := slice b 0 len
    match s.imgRefusal img len with
    | some code => s.endLoad c code
    | none =>
      let s := s.loadStore 0 (imgAt img 16 2) (imgMw img)
      let s := s.loadStore 1 (imgAt img 20 2) (imgNw img)
      let s := s.loadStore (bankWin bank) 0 ((imgEnt img).map fun l => l.map (· &&& 0x00FFFFFF))
      { s with hif := { s.hif with load := some ⟨c.fn, imgBase img, imgAt img 8 4, bank, img, imgAt img 26 2, c⟩ }
        }.enqueueKce { cmd := c, slot := imgAt img 26 2, use := .image, since := s.time }

/-- The PUP instances of all slices can be accessed. -/
def State.pupsReady (s : State) : Bool := slices.all fun sl => s.reachable (slInst .pup sl)

/-- R138: IMAGE_LOAD. With the normal queue of the engine full it completes with BUSY and nothing begins. [DESIGN CHOICE, log
143] -/
def execImageLoad (fn : Fin 257) (image : Option (List Byte)) (s : State) : Out :=
  s.done (if (s.nextCmd fn.val 0x030).isNone || s.hif.load.isSome || s.inBlockReset kce4 || s.loadsOf fn.val
        || image.any (fun b => s.loadWaits (imgAt b 26 2)) then s
    else if !s.pupsReady then forAll slices (fun sl t => t.requestWake sl) s
    else s.runCmd fn.val 0x030 false fun c t =>
      if c.pay 12 1 % 2 = 1 && t.hif.flashBusy then t.finish c 7
      else if t.kceFull false then (t.kceBusy (imgAt (image.getD []) 26 2)).finish c 7
      else t.startLoad c image)

/-- R138: the CMAC of an image is compared with its ICV. -/
def State.verifyLoad (s : State) (l : LoadSt) : State :=
  if !(s.slot l.keySlot).loaded then s.endLoad l.cmd 7 else
  let n := l.image.length - 16
  let s := s.count kce4 R.KCE_VERCNT
  if cmac (s.slot l.keySlot).key (l.image.take n) ≠ l.image.drop n then
    ((s.count kce4 R.KCE_FAILCNT).kceEvent 0 l.keySlot).endLoad l.cmd 3
  else
    let s := forAll slices (fun sl t =>
      let i := slInst .pup sl
      let t := t.setRegB i R.PUP_STAT (if l.bankB then 2 else 1) true
      let t := if l.base then t.setRegB i R.PUP_STAT 4 true else t
      t.setRegF i R.PUP_LDSTAT 16 16 l.imgId) s
    let s := if l.base then { s with baseImg := l.imgId } else s
    s.endLoad l.cmd 0

/-- The core that processes the image. -/
def State.imageCore (s : State) : Option Nat := (List.range 2).find? fun c => (s.core c).any fun r => r.use = .image

/-- The image's request ends on a core: its CMAC is known. -/
def State.endImage (s : State) (core : Nat) (l : LoadSt) (keyPar : Bool) : State :=
  let s := s.setCore core none
  let s := if keyPar then s.keyParity l.keySlot else s
  (s.verifyLoad l).fillCores

/-- R138: IMAGE_LOAD_VERIFY. `keyPar`: the key slot's parity is wrong (R453). -/
def execImageLoadVerify (keyPar : Bool) (s : State) : Out :=
  s.done (if s.inBlockReset kce4 || !s.pupsReady then s else
    match s.hif.load, s.imageCore with
    | some l, some c => s.endImage c l keyPar
    | _, _ => s)

/-! ### Requests of the keyed check engine (R453, R466, R478) -/

/-- An earlier command of the function is still under check on another core: checks end in the order of the ring (R478). -/
def State.olderCheck (s : State) (r : KceReq) : Bool :=
  (List.range 2).any fun c => (s.core c).any fun q => match q.use with
    | .check _ _ => decide (q.slot = r.slot) && decide (q.no < r.no)
    | _ => false

/-- R466: KCE_REQUEST_COMPLETE. `keyPar`: the key slot's parity is wrong (R453); `writable`: the result of a generation can
be written (R467). -/
def execKceRequestComplete (core : Fin 2) (keyPar writable : Bool) (s : State) : Out :=
  s.done (match s.core core.val with
    | none => s
    | some r =>
      let t := (s.setCore core.val none).noteLatency r
      let t := if keyPar then t.keyParity r.slot else t
      match r.use with
      | .mac => (t.endRequest r writable).fillCores
      | .check b clean => if s.olderCheck r then s else (t.endCheck r.slot b r.cmd clean).fillCores
      | .image => match s.hif.load with
        | some l => if s.pupsReady then s.endImage core.val l keyPar else s
        | none => t.fillCores
      | .void => t.fillCores)

/-! ### The deep tier and the flash (R483, R492) -/

/-- The channels that hold the bytes of a DEEP command. -/
def State.deepChans (s : State) (c : Cmd) : List Nat :=
  (s.members c.deepSlice).filter fun ch => (List.range (c.deepLen / 256 + 2)).any fun k =>
    decide ((c.deepAddr / 256 + k) * 256 < c.deepAddr + c.deepLen) &&
      decide (s.blockChannel c.deepSlice (c.deepAddr / 256 + k) = some ch)

/-- Every byte lies in a channel that is ONLINE. [DEDUCED, log 62] -/
def State.deepReachable (s : State) (c : Cmd) : Bool :=
  c.pay 4 4 < s.deepPages c.deepSlice && (s.deepChans c).all s.chOnline

/-- R314, R336: the command can use requester port 3 of its slice now. -/
def State.deepReady (s : State) (c : Cmd) : Bool :=
  s.awake c.deepSlice && !s.inBlockReset (slInst .dtc c.deepSlice)
    && s.deepServes c.deepSlice 3 c.deepAddr c.deepLen

/-- The blocks that hold the bytes of a DEEP command. -/
def Cmd.deepBlocks (c : Cmd) : Nat := cdiv (c.deepAddr % 256 + c.deepLen) 256

/-- R328: a DEEP_READ is served, and one of its blocks found an error, if any. -/
def State.deepFetch (s : State) (c : Cmd) (ecc : Ecc) (block : Nat) (dev : BitVec 5) : State :=
  (s.serveDeep c.deepSlice 3 c.deepAddr c.deepLen).blockError c.deepSlice (c.deepAddr / 256 + block % c.deepBlocks) ecc dev

/-- The bytes of a range; those that DEEP_WRITE has not written are open. [DESIGN CHOICE, log 61] -/
def State.deepBytes (s : State) (sl : Slice) (a n : Nat) : List Byte × State :=
  ((List.range n).map fun k => ((s.deepKey sl (a + k)).bind s.deepMem.get).getD (Config.freeByte (s.free + k)),
    { s with free := s.free + n })

/-- R483: DEEP_READ. `block`: the block that an error lies in; `writable`: the host address can be written. -/
def execDeepRead (fn : Fin 257) (ecc : Ecc) (block : Fin 512) (dev : BitVec 5) (writable : Bool) (s : State) : Out :=
  s.done (match s.nextCmd fn.val 0x060 with
    | none => s
    | some c =>
      if !s.deepReady c then s.requestWake c.deepSlice else
      s.runCmd fn.val 0x060 false fun c t =>
        if !t.deepReachable c then t.finish c 8 else
        let ecc := if c.deepBlocks = 0 then .clean else ecc
        let t := t.deepFetch c ecc block.val dev
        if ecc = .uncorrectable || !writable then t.finish c 8 else
        let (l, t) := t.deepBytes c.deepSlice c.deepAddr c.deepLen
        (t.dma (c.pay 16 8) l).finish c 0)

/-- A page of a slice that BPM holds free or retired. -/
def State.pageWritable (s : State) (sl : Slice) (page : Nat) : Bool :=
  let b := s.bpm sl
  page < s.deepPages sl && b.pageOwner.get page = 0 && (b.retired.contains page || !b.quarantined.contains page)

/-- R309: store bytes of the deep tier, each where its block lies; a rank in MPSM keeps none (R333). [DEDUCED, log 61] -/
def State.deepStore (s : State) (sl : Slice) (a : Nat) (l : List Byte) : State :=
  { s with deepMem := l.zipIdx.foldl (fun t (b, k) => match s.deepKey sl (a + k) with
    | some p => if s.placeLost p then t else t.set p (some b)
    | none => t) s.deepMem }

/-- R483: DEEP_WRITE. -/
def execDeepWrite (fn : Fin 257) (data : Option (List Byte)) (s : State) : Out :=
  s.done (match s.nextCmd fn.val 0x061 with
    | none => s
    | some c =>
      if !s.deepReady c then s.requestWake c.deepSlice else
      s.runCmd fn.val 0x061 false fun c t =>
        if !t.pageWritable c.deepSlice (c.pay 4 4) then t.finish c 6 else
        match data with
        | none => t.finish c 8
        | some l =>
          if !t.deepReachable c then t.finish c 8
          else ((t.serveDeep c.deepSlice 3 c.deepAddr c.deepLen).deepStore c.deepSlice c.deepAddr (slice l 0 c.deepLen)).finish c 0)

/-- A FLASH command: BUSY while the device reads the flash at start. -/
def State.flashCmd (s : State) (f op : Nat) (run : Cmd → State → State) : State :=
  s.runCmd f op false fun c t => if t.hif.flashBusy then t.finish c 7 else run c t

/-- R483: FLASH_READ. `writable`: the host address can be written. -/
def execFlashRead (fn : Fin 257) (data : Option (List Byte)) (writable : Bool) (s : State) : Out :=
  s.done (s.flashCmd fn.val 0x070 fun c t => match data with
    | none => t.finish c 8
    | some l => if !writable then t.finish c 8 else (t.dma (c.pay 8 8) (slice l 0 (c.pay 4 4))).finish c 0)

/-- R483: FLASH_WRITE. -/
def execFlashWrite (fn : Fin 257) (data : Option (List Byte)) (s : State) : Out :=
  s.done (s.flashCmd fn.val 0x071 fun c t => t.finish c (if data.isNone then 8 else 0))

/-- R483: FLASH_ERASE. -/
def execFlashErase (fn : Fin 257) (s : State) : Out := s.done (s.flashCmd fn.val 0x072 fun c t => t.finish c 0)

end Sys2Proof.Machine
end

