-- ==== Sys2Proof/Machine/Flt.lean ====
section
/-! DEFINITION. The commands of the fault collector: detections, ERR_N, Muzzle, requests for resets, the snapshot banks and
the status freeze (R497-R527). -/

namespace Sys2Proof.Machine

/-! ### Detections (R504, R512) -/

/-- A block reports a fault source; `group` is the pup group of PUP_POSTCMT. -/
def execFaultDetect (src : Fin 96) (group : Fin 16) (s : State) : Out := s.done (s.noteFault src.val group.val)

/-- R504: the condition of a condition source lasts. -/
def State.conditionLasts (s : State) (src : Nat) : Bool :=
  if src / 4 = 19 then (List.range 4).any fun j => s.chF (src % 4 * 4 + j) R.DTC_REFSTAT 8 8 ≠ 0
  else match src with
    | 85 => slices.any s.avsFail
    | 87 => s.hot
    | 88 => s.flt.t115
    | 91 => s.links.ents.any fun (_, l) => l.dead
    | _ => false

/-- R504: CONDITION_REDETECT. [DEDUCED, log 96] -/
def execConditionRedetect (src : Fin 96) (s : State) : Out :=
  s.done (if s.conditionLasts src.val then s.noteFault src.val else s)

/-- R512: at the end of the pulse ERR_N follows HOLD. -/
def execBarkPulseEnd (s : State) : Out :=
  s.done (if !s.flt.bark then s else
    { s with flt := { s.flt with bark := false } }.setRegB flt4 R.FLT_ERRPIN 1 (s.regB flt4 R.FLT_ERRPIN 0))

/-- A write of FLT_ERRPIN: HOLD = 0 lets go of ERR_N outside a pulse. -/
def State.writeErrpin (s : State) (v : Word) : State :=
  let t := s.plainWrite flt4 R.FLT_ERRPIN v
  if !bit v 0 && !s.flt.bark then t.setRegB flt4 R.FLT_ERRPIN 1 false else t

/-- A host write, or read, of a register of FLT. -/
def State.hostFlt (s : State) (off : Nat) (v : Option Word) (f : State → State) : State :=
  s.access { inst := flt4, off := off, value := v } f

/-! ### INT_N (R511) -/

/-- Where an instance's event registers stand: of each macro, of each channel, or of the instance. -/
def eventBases (i : InstId) : List Nat :=
  match i.block with
  | .prt => (List.range 8).map (512 * ·)
  | .dtc => (List.range 4).map (1024 * ·)
  | _ => [0]

/-- An event bit of the instance is set and unmasked. -/
def State.eventShown (s : State) (i : InstId) : Bool :=
  (eventRegs i).any fun (e, m) => (eventBases i).any fun b => s.reg i (b + e) &&& ~~~s.reg i (b + m) ≠ 0

/-- The instances with events. -/
def eventInsts : List InstId :=
  [Block.prt, .pcl, .fwd, .asa, .rwr, .swc, .bpm, .dtc, .tmg].flatMap (fun b => slices.map (slInst b)) ++
    [swc4, egv4, tsu4, kce4, hif4]

/-- Completions of the PF's KCC ring, or of a punt ring that it owns, wait for the host. -/
def State.cplWaits (s : State) : Bool :=
  s.kccCplHead 0 ≠ s.kccCplTail 0 || (List.range 64).any fun r =>
    decide (s.ringOwner true r = 0) && decide (s.cplHead r ≠ fld (s.ring (puntBlk r) 6) 0 14)

/-- R508, R511: the INT_N ball is asserted. It is a level, whatever MSI-X does. -/
def State.intN (s : State) : Bool :=
  s.regB flt4 R.FLT_CTRL 0 && (
    (List.range 96).any (fun k => s.latched k && bit (s.srcCfg k) 4) || eventInsts.any s.eventShown
      || (List.range 13).any (fun f => decide (1 ≤ (s.fifo f).items)) || s.cplWaits || s.regB hif4 R.HIF_INJPROG 0)

/-! ### Muzzle (R513, R514) -/

/-- A latched source muzzles. -/
def State.muzzlerLatched (s : State) : Bool := (List.range 96).any fun k => s.latched k && bit (s.srcCfg k) 7

/-- R514: release, or refusal. -/
def State.releaseMuzzle (s : State) : State :=
  if s.muzzlerLatched then s.setRegB flt4 R.FLT_MUZZLE 2 true
  else forAll ((List.range 256).filter fun p => bit (s.laneReg p R.PRT_PSTAT) 11) (fun p t => t.setLane p R.PRT_PSTAT 11 1 0)
    ((s.setRegB flt4 R.FLT_MUZZLE 0 false).setRegB flt4 R.FLT_MUZZLE 7 false)

/-- A write of FLT_MUZZLE: its fields are stored, then RELEASE acts, then FORCE. [DEDUCED, log 98] -/
def State.writeMuzzle (s : State) (v : Word) : State :=
  let s := s.plainWrite flt4 R.FLT_MUZZLE v
  let s := if bit v 1 then s.releaseMuzzle else s
  if bit v 3 then s.muzzle else s.syncMuzzle

/-- R513: MUZZLE_FORCE. -/
def execMuzzleForce (v : Word) (s : State) : Out := s.done (s.hostFlt R.FLT_MUZZLE (some v) fun t => t.writeMuzzle v)

/-- R514: MUZZLE_RELEASE. -/
def execMuzzleRelease (v : Word) (s : State) : Out := s.done (s.hostFlt R.FLT_MUZZLE (some v) fun t => t.writeMuzzle v)

/-! ### Requested resets (R516, R517, R533) -/

/-- R517: the instance and group a request names, if it is not refused. -/
def State.resetAsked (s : State) (v : Word) : Option (InstId × Nat) :=
  let g := fld v 13 4
  match instOfIndex (fld v 0 13) with
  | none => none
  | some i =>
    if !hasReset i || s.resetRuns i g || g = 13 || g = 14 || (g ≤ 12 && i.block ≠ .pup) then none else some (i, g)

/-- A write of FLT_BRST. -/
def State.writeBrst (s : State) (v : Word) : State :=
  let s := s.plainWrite flt4 R.FLT_BRST v
  if !bit v 20 then s else
  match s.resetAsked v with
  | none => s.setRegB flt4 R.FLT_BRST 22 true
  | some (i, g) => (s.setRegB flt4 R.FLT_BRST 21 true).startReset i g true

/-- R517: BLOCK_RESET_REQUEST. -/
def execBlockResetRequest (v : Word) (s : State) : Out := s.done (s.hostFlt R.FLT_BRST (some v) fun t => t.writeBrst v)

/-- R286: the fabric links that come up: those between two slices that passed self-test (R537). [DEDUCED, log 58] -/
def State.fabricUp (s : State) : Nat :=
  let ok := fun n => !s.regB knl4 R.KNL_BOOT (12 + n)
  ((List.range 16).filter fun k => k / 4 ≠ k % 4 && ok (k / 4) && ok (k % 4)).foldl (fun m k => m + 2 ^ k) 0

/-- The entries of a window that hold a damaged word. -/
def State.damagedEntries (s : State) (i : InstId) (w : Nat) : List Nat :=
  let first := winKey i w 0
  let size := ((winDim i w).map fun d => d.1 * d.2).getD 0
  ((s.bad.ents.filter fun (k, b) => b && decide (first ≤ k ∧ k < first + size)).map fun (k, _) => (k - first) / winWords i w).dedup

/-- R516: the stores of a slice are verified in full: each word that is damaged is repaired (R134, R135). [DEDUCED, log 134] -/
def State.verifyStores (s : State) (sl : Slice) : State :=
  forAll [false, true] (fun nano t =>
    forAll (t.damagedEntries (slInst .pup sl) (if nano then 1 else 0)) (fun e u => u.repairEnd sl nano e) t) s

/-- What a block reset changes at its end (R126, R286, R322, R417, R516). -/
def State.resetEnd (s : State) (i : InstId) (group : Nat) : State :=
  match i.block with
  | .pup => if group < 13 then s.updPup (sliceOf i) fun p => { p with groupReset := p.groupReset.filter (· ≠ group) }
    else s.verifyStores (sliceOf i)
  | .egv =>
    let s := s.setRegB i R.EGV_SSTAT 18 false
    (s.setBucket (sliceOf i) (1024 * (s.regF i R.EGV_TOKRATE 0 24 : Nat))).syncCap (sliceOf i)
  | .swc => if i.inst.val = 4 then s.setRegF swc4 R.SWC_FABSTAT 0 16 s.fabricUp else s
  | .pcl => s.tryRetire
  | .fwd => s.fwdNext (sliceOf i)
  | .dtc => forAll (((List.range 4).map (4 * i.inst.val + ·)).filter fun c => s.chOnline c || s.chState c = 1) (fun c t => t.unrestRanks c) s
  | _ => s

/-- A block reset ends. -/
def State.endReset (s : State) (i : InstId) (group : Nat) : State :=
  let l := s.flt.resets.filter fun r => !(decide (r.target = instIndex i) && decide (r.group = group))
  let s := { s with flt := { s.flt with resets := l } }
  let s := s.setRegB flt4 R.FLT_BRST 21 ((l ++ s.flt.waiting).any (·.asked))
  let s := (s.count flt4 R.FLT_RSTCNT).setReg flt4 R.FLT_LASTRST (BitVec.ofNat 32 (group * 8192 + instIndex i))
  s.resetEnd i group

/-- R533: a write of FLT_CRST. -/
def State.writeCrst (s : State) (v : Word) : State := if fld v 0 8 = 0xC5 then s.chipReset 2 else s

/-- R533: CHIP_RESET_REQUEST. -/
def execChipResetRequest (v : Word) (s : State) : Out := s.done (s.hostFlt R.FLT_CRST (some v) fun t => t.writeCrst v)

/-! ### Snapshots (R520-R524, R526) -/

/-- A write of FLT_SNAPCTL. -/
def State.writeSnapctl (s : State) (v : Word) : State := if bit v 0 then s.trigger 3 0 else s

/-- R520: SNAP_FIRE_WRITE. -/
def execSnapFireWrite (v : Word) (s : State) : Out := s.done (s.hostFlt R.FLT_SNAPCTL (some v) fun t => t.writeSnapctl v)

/-- R524: SNAP_IN_EDGE. -/
def execSnapInEdge (s : State) : Out := s.done (if s.regB flt4 R.FLT_SNAPCFG 0 then s.trigger 0 0 else s)

/-- R524: SNAP_OUT_END. -/
def execSnapOutEnd (s : State) : Out := s.done { s with flt := { s.flt with snapOut := false } }

/-- R522: the copy is complete; a chip reset that waited for it begins (R501). -/
def State.copyDone (s : State) (b : Nat) (l : List (Nat × Word)) : State :=
  let s := { s with flt := { s.flt with shadow := none, banks := s.flt.banks.set b (some l) } }
  let s := (s.setRegB flt4 R.FLT_SNAPSTAT (4 + b) false).setRegB flt4 R.FLT_SNAPSTAT b true
  let s := forAll slices (fun sl t => t.updPup sl fun p => { p with freeze := false }) s
  match s.flt.chipPending with
  | none => s
  | some cause => s.chipReset cause

/-- R522: SNAPSHOT_COPY_COMPLETE. -/
def execSnapshotCopyComplete (s : State) : Out :=
  s.done (match s.flt.shadow with
    | none => s
    | some (b, l) => if slices.any fun sl => s.sleep sl = 3 then s else s.copyDone b l)

/-- Free a bank. [DEDUCED, log 99] -/
def State.freeBank (s : State) (b : Nat) : State :=
  if s.regB flt4 R.FLT_SNAPSTAT (4 + b) then s else
  { s with flt := { s.flt with banks := s.flt.banks.set b none, bankOrder := s.flt.bankOrder.filter (· ≠ b) }
    }.setRegB flt4 R.FLT_SNAPSTAT b false

/-- A write of FLT_SNAPSTAT. -/
def State.writeSnapstat (s : State) (v : Word) : State :=
  forAll ((List.range 4).filter fun b => bit v (8 + b)) (fun b t => t.freeBank b) s

/-- R526: SNAP_BANK_FREE. -/
def execSnapBankFree (v : Word) (s : State) : Out := s.done (s.hostFlt R.FLT_SNAPSTAT (some v) fun t => t.writeSnapstat v)

/-! ### The status words (R504, R505) -/

/-- Data of a register read. -/
def State.answer (s : State) (v : Word) : State := { s with hif := { s.hif with readData := v } }

/-- A read of FLT_STAT0. -/
def State.readStat0 (s : State) : State :=
  { s with flt := { s.flt with frozen := some (s.reg flt4 R.FLT_STAT1, s.reg flt4 R.FLT_STAT2) } }.answer (s.reg flt4 R.FLT_STAT0)

/-- A read of FLT_STAT1. -/
def State.readStat1 (s : State) : State := s.answer ((s.flt.frozen.map Prod.fst).getD (s.reg flt4 R.FLT_STAT1))

/-- A read of FLT_STAT2. -/
def State.readStat2 (s : State) : State :=
  State.answer { s with flt := { s.flt with frozen := none } } ((s.flt.frozen.map Prod.snd).getD (s.reg flt4 R.FLT_STAT2))

/-- R505: STATUS_FREEZE_READ. -/
def execStatusFreezeRead (s : State) : Out := s.done (s.hostFlt R.FLT_STAT0 none fun t => t.readStat0)

/-- R505: STATUS_THAW_READ. -/
def execStatusThawRead (s : State) : Out := s.done (s.hostFlt R.FLT_STAT2 none fun t => t.readStat2)

end Sys2Proof.Machine
end

