-- ==== Sys2Proof/Machine/Boot.lean ====
section
/-! DEFINITION. The host's link, the event FIFOs and the tenant map, the Kennel and its two-wire interface, resets and
start-up, and the configuration signatures (R266-R268, R471-R473, R485-R491, R533-R551). -/

namespace Sys2Proof.Machine

/-! ### The link (R471, R486, R534, R537) -/

def State.linkUp (s : State) : Bool := s.regB hif4 R.HIF_STAT 7
def State.fuseDone (s : State) : Bool := s.regB knl4 R.KNL_BOOT 0
def State.selfTested (s : State) : Bool := s.regB knl4 R.KNL_BOOT 1
def State.setTraining (s : State) (b : Bool) : State := { s with hif := { s.hif with training := b } }

/-- R485: the tenant map. -/
def execTenantMapWrite (tid : Fin 256) (w : List Word) (s : State) : Out :=
  s.done (s.access { inst := hif4, store := some (0, tid.val, numbered w) } fun t => t.writeEntry hif4 0 tid.val w)

/-- R486: FUNCTION_LEVEL_RESET. -/
def execFunctionLevelReset (fn : Fin 257) (s : State) : Out := s.done (s.functionLoss fn.val)

/-- R486: the link is lost, with its effects on every function. [DEDUCED, log 94] -/
def State.loseLink (s : State) : State :=
  if s.linkUp then ((s.setReg hif4 R.HIF_STAT 0).event hif4 4).resetHif else s

/-- The link trains again by itself. -/
def execPcieLinkLoss (s : State) : Out := s.done (if s.linkUp then s.loseLink.setTraining (!s.boot.perstLow) else s)

/-- R534: 2 ms after fuse load, with PERST_N high. -/
def execLtssmStart (s : State) : Out :=
  s.done (if s.fuseDone && !s.boot.perstLow && !s.linkUp then s.setTraining true else s)

/-- R531: the highest SPEED that the PCIE_MAX straps allow. -/
def State.maxSpeed (s : State) : Nat :=
  match s.regF knl4 R.KNL_STRAP 2 2 with
  | 0 => 5
  | 1 => 4
  | 2 => 3
  | _ => 1

/-- R471: PCIE_LINK_UP. -/
def execPcieLinkUp (speed : Fin 6) (width : Fin 9) (s : State) : Out :=
  s.done (if s.hif.training && !s.boot.perstLow && decide (speed.val ≤ s.maxSpeed) then
      (s.setReg hif4 R.HIF_STAT (BitVec.ofNat 32 (128 + speed.val * 16 + width.val))).setTraining false
    else s)

/-- R471-R473: the value that a configuration read of a function finds, where the spec states one: the PF's SR-IOV
capability, the size of a BAR in bytes (0: the function has none) and whether it is 64-bit and prefetchable, MSI-X vectors, and what the endpoint supports. -/
def cfgAnswer (fn : Nat) : CfgReq → Option Nat
  | .totalVfs => if fn = 0 then some 256 else none
  | .firstVfOffset | .vfStride => if fn = 0 then some 1 else none
  | .barBytes n => some (if n.val ≠ 0 then 0 else if fn = 0 then 2 ^ 28 else 2 ^ 16)
  | .bar64 n => some (if n.val = 0 then 1 else 0)
  | .barPrefetch _ => some 0
  | .msixVectors => some (if fn = 0 then 64 else 4)
  | .maxPayload => some 512
  | .maxReadRequest => some 4096
  | .hasAri | .hasAer | .hasFlr => some 1
  | .hasAts | .hasPri | .hasPasid => some 0
  | .msixControl _ _ | .msixVectorMask _ _ | .other => none

/-- R510: what a configuration write does to the interrupts of a function. [PRESUMED, log 110] -/
def State.cfgWrite (s : State) (fn : Nat) : CfgReq → State
  | .msixControl en mask =>
    { s with hif := { s.hif with msixOn := s.hif.msixOn.set fn en, msixMask := s.hif.msixMask.set fn mask } }.releaseVectors fn
  | .msixVectorMask v mask =>
    if fn = 0 || v.val < 4 then
      { s with hif := { s.hif with msixOpen := s.hif.msixOpen.set (64 * fn + v.val) (!mask) } }.releaseVectors fn
    else s
  | .totalVfs | .firstVfOffset | .vfStride | .barBytes _ | .bar64 _ | .barPrefetch _ | .msixVectors | .maxPayload | .maxReadRequest | .hasAri | .hasAer
  | .hasFlr | .hasAts | .hasPri | .hasPasid | .other => s

/-- R537: a configuration request is answered, with CRS, and without effect, before the end of self-test. -/
def execConfigurationRequest (fn : Fin 257) (req : CfgReq) (s : State) : Out :=
  s.done (if !s.linkUp then s
    else if !s.selfTested then { s with hif := { s.hif with crs := true, cfgData := none } }
    else { s with hif := { s.hif with crs := false, cfgData := cfgAnswer fn.val req } }.cfgWrite fn.val req)

/-! ### Event FIFOs (R490) -/

/-- The oldest waiting item of a FIFO enters once there is room. -/
def State.fifoAdmit (s : State) (f : Nat) : State :=
  match (s.fifo f).waiting with
  | [] => s
  | item :: r => if (s.fifo f).room item then (s.updFifo f fun x => { x with waiting := r }).fifoEnter f item else s

/-- R490: FIFO_ITEM_POST. -/
def execFifoItemPost (f : Fin 13) (s : State) : Out := s.done (s.fifoAdmit f.val)

/-- A read of FDATA removes the head word; of an empty FIFO, it returns the last word read. -/
def State.readFifo (s : State) (f : Nat) : State :=
  match (s.fifo f).words with
  | [] => ((s.setRegB hif4 (R.HIF_FSTAT + 8 * f) 30 true).event hif4 5).answer (s.fifo f).last
  | w :: r => (s.updFifo f fun x => { x with words := r, last := w.data }).answer w.data

/-- R490: FIFO_READ. -/
def execFifoRead (f : Fin 13) (s : State) : Out :=
  s.done (s.access { inst := hif4, off := R.HIF_FDATA + 8 * f.val } fun t => t.readFifo f.val)

/-! ### The Kennel (R443, R491, R544-R551) -/

/-- FLAGS of the record store as KNL_STAT shows them. -/
def State.syncKnlStat (s : State) : State := s.setRegF knl4 R.KNL_STAT 0 3 (s.knlNat 6 2)

/-- R548: the Kennel initialises itself. -/
def State.initKennel (s : State) : State :=
  ({ s with knl := { s.knl with
      store := ({} : KnlSt).store, sec := 0, ticks := 0, inten := 0, intstat := 0, freshInit := true } }.setKnlFlag 2 true).syncKnlStat

/-- R545: MAGIC is intact. -/
def State.magicIntact (s : State) : Bool := s.knlRead 0 4 = [0x4B, 0x4E, 0x4C, 0x31]

/-- R548: VKEEP falls below 1.5 V. -/
def execVkeepLoss (s : State) : Out :=
  s.goesOn ({ s with boot := { s.boot with vkeep := false }, knl := { s.knl with store := {}, sec := 0, ticks := 0 } }).syncKnlStat

/-- R548: VKEEP_RISE. -/
def execVkeepRise (s : State) : Out :=
  s.goesOn (if s.boot.vkeep && s.magicIntact then s else { s with boot := { s.boot with vkeep := true } }.initKennel)

/-- R549: no edge for 125 ms. -/
def execXtalFail (s : State) : Out :=
  s.done (if !s.boot.vkeep || s.knl.stopped then s else
    ({ s with knl := { s.knl with stopped := true } }.setRegB knl4 R.KNL_STAT 3 true).knlEvent 3)

/-- R549: XTAL_RETURN. -/
def execXtalReturn (s : State) : Out := s.done { s with knl := { s.knl with stopped := false } }

/-- R550: SEALED and S6HALT are cleared. -/
def State.ackKennel (s : State) : State := if s.boot.vkeep then (s.setKnlFlag 0 false).setKnlFlag 1 false else s

/-- A write of the ACK byte. -/
def State.writeAck (s : State) (v : Byte) : State := if v = 0x5A then s.ackKennel else s

/-- R550: KENNEL_ACK. -/
def execKennelAck (v : Byte) (s : State) : Out := s.done (s.writeAck v)

/-- A write of KNL_CTRL. -/
def State.writeKnlCtrl (s : State) (v : Word) : State := if bit v 0 then s.ackKennel else s

/-- R551: KNL_CTRL_ACK. -/
def execKnlCtrlAck (v : Word) (s : State) : Out :=
  s.done (s.access { inst := knl4, off := R.KNL_CTRL, value := some v } fun t => t.writeKnlCtrl v)

/-- R550: a write of SETGO. -/
def State.writeSetgo (s : State) (v : Byte) : State :=
  if v = 0xA5 && !s.boot.vaon && s.boot.vkeep then { s with knl := { s.knl with sec := s.knl.setsec, ticks := 0 } } else s

/-- R550: SETGO. -/
def execSetgo (v : Byte) (s : State) : Out := s.done (s.writeSetgo v)

/-- R550: STATUS of the control page. -/
def State.knlStatus (s : State) : Byte :=
  BitVec.ofNat 8 ((if s.boot.vaon then 1 else 0) + 2 * (s.knlNat 6 2 % 8) + if s.regB knl4 R.KNL_STAT 3 then 16 else 0)

/-- R550: a byte of the control page; reserved and write-only bytes read 0. -/
def State.controlByte (s : State) (k : Nat) : Byte :=
  let part := fun (v base : Nat) => BitVec.ofNat 8 (v / 256 ^ (k - base))
  if k < 2 then part 0x2564 0
  else if k = 2 then 1
  else if k = 3 then s.knlStatus
  else if k = 4 then s.knl.inten
  else if k = 5 then s.knl.intstat
  else if 8 ≤ k && k < 14 then part s.knl.sec.toNat 8
  else if 14 ≤ k && k < 16 then part s.knl.ticks 14
  else if 16 ≤ k && k < 22 then part s.knl.setsec.toNat 16
  else 0

/-- R491: the byte at a pointer, and the state after; pointers that reach nothing read free bytes. -/
def State.twoWireByte (s : State) (p : Nat) : Byte × State :=
  if p < 0x2000 then (s.knl.store.get p, s)
  else if p < 0x2100 then (s.controlByte (p - 0x2000), s)
  else (Config.freeByte s.free, { s with free := s.free + 1 })

/-- The bytes from the pointer on; the pointer increments. -/
def State.twoWireBytes (s : State) : Nat → List Byte × State
  | 0 => ([], s)
  | n + 1 =>
    let (b, t) := s.twoWireByte s.knl.ptr.toNat
    let (l, u) := State.twoWireBytes { t with knl := { t.knl with ptr := t.knl.ptr + 1 } } n
    (b :: l, u)

/-- A transaction writes the pointer, or goes on at the one it finds. Without VKEEP nothing answers. -/
def execTwoWireRead (ptr : Option (BitVec 16)) (n : Nat) (s : State) : Out :=
  s.done (if !s.boot.vkeep then { s with knl := { s.knl with nack := true, readBytes := [] } } else
    let s := { s with knl := { s.knl with nack := false, ptr := ptr.getD s.knl.ptr } }
    let (l, t) := s.twoWireBytes n
    { t with knl := { t.knl with readBytes := l } })

/-- R550: a write of a byte of the control page. [DEDUCED, log 104] -/
def State.writeControl (s : State) (k : Nat) (v : Byte) : State :=
  if k = 4 then { s with knl := { s.knl with inten := v &&& 0x0F } }
  else if k = 5 then { s with knl := { s.knl with intstat := s.knl.intstat &&& ~~~v } }
  else if 16 ≤ k && k < 22 then
    let old := leBytes 6 s.knl.setsec.toNat
    { s with knl := { s.knl with setsec := BitVec.ofNat 48 (ofLe (old.set (k - 16) v)) } }
  else if k = 0x17 then s.writeSetgo v
  else if k = 0x18 then s.writeAck v
  else s

/-- R491: bytes are written from the pointer on, until one lies outside the control page. -/
def State.twoWirePut (s : State) : List Byte → State
  | [] => s
  | b :: r =>
    let p := s.knl.ptr.toNat
    if 0x2000 ≤ p && p < 0x2100 then
      let t := s.writeControl (p - 0x2000) b
      State.twoWirePut { t with knl := { t.knl with ptr := t.knl.ptr + 1 } } r
    else { s with knl := { s.knl with nack := true } }

/-- R491: TWO_WIRE_WRITE. -/
def execTwoWireWrite (ptr : BitVec 16) (bytes : List Byte) (s : State) : Out :=
  s.done (if !s.boot.vkeep then { s with knl := { s.knl with nack := true } }
    else { s with knl := { s.knl with nack := false, ptr := ptr } }.twoWirePut bytes)

/-- R550: KEEP_INT_N is asserted. -/
def State.keepInt (s : State) : Bool := s.boot.vkeep && s.knl.intstat &&& s.knl.inten ≠ 0

/-- R443: the Kennel counts 32,768 Hz ticks; a nanosecond ends at `time`. -/
def State.knlTick (s : State) (time : Nat) : State :=
  if !s.boot.vkeep || s.knl.stopped || time * 32768 / 10 ^ 9 = (time - 1) * 32768 / 10 ^ 9 then s
  else if s.knl.ticks + 1 < 32768 then { s with knl := { s.knl with ticks := s.knl.ticks + 1 } }
  else { s with knl := { s.knl with ticks := 0, sec := s.knl.sec + 1 } }

/-- R178: a frame of the slice waits for a slot of its reorder buffer: one that waits for assignment, or one of an absorption
buffer whose drain waits for PCL (R70). -/
def State.robWaits (s : State) (sl : Slice) : Bool :=
  s.awake sl && !s.inBlockReset (slInst .pcl sl) && decide (4096 ≤ (s.pcl sl).rob.length) &&
    (decide ((s.pcl sl).waiting ≠ []) || (List.range 64).any fun k =>
      decide ((s.port (64 * sl.val + k)).released ≠ []) ||
        (s.port (64 * sl.val + k)).absorb.head?.any fun f => s.releasable (64 * sl.val + k) f)

/-- R178: the P-clock cycles of the nanosecond that ends at `time` count while a frame waits for a slot. -/
def State.robTick (s : State) (sl : Slice) (time : Nat) : State :=
  if !s.robWaits sl then s else
  forAll (List.range (time * s.pMhz sl / 1000 - (time - 1) * s.pMhz sl / 1000)) (fun _ t =>
    t.count (slInst .pcl sl) R.PCL_ROBFULL) s

/-! ### The test access port (R565) -/

/-- The controller's next state at a rising edge of TCK, by TMS. [PRESUMED, log 137] -/
def TapState.next : TapState → Bool → TapState
  | .testLogicReset, tms => if tms then .testLogicReset else .runTestIdle
  | .runTestIdle, tms | .updateDr, tms | .updateIr, tms => if tms then .selectDr else .runTestIdle
  | .selectDr, tms => if tms then .selectIr else .captureDr
  | .captureDr, tms | .shiftDr, tms => if tms then .exit1Dr else .shiftDr
  | .exit1Dr, tms => if tms then .updateDr else .pauseDr
  | .pauseDr, tms => if tms then .exit2Dr else .pauseDr
  | .exit2Dr, tms => if tms then .updateDr else .shiftDr
  | .selectIr, tms => if tms then .testLogicReset else .captureIr
  | .captureIr, tms | .shiftIr, tms => if tms then .exit1Ir else .shiftIr
  | .exit1Ir, tms => if tms then .updateIr else .pauseIr
  | .pauseIr, tms => if tms then .exit2Ir else .pauseIr
  | .exit2Ir, tms => if tms then .updateIr else .shiftIr

/-- The inputs take levels. TRST_N low resets the port; a rising edge of TCK moves the controller and shifts the bypass register, the
one data register that every such port has; a falling edge moves TDO. The instructions are not the spec's: a bit of the instruction
register that is shifted out is `ir`. [PRESUMED, log 137] -/
def TapSt.drive (t : TapSt) (tck tms tdi trstN ir : Bool) : TapSt :=
  let u := { t with tck := tck, tms := tms, tdi := tdi, trstN := trstN }
  if !trstN then { u with state := .testLogicReset, bypass := false, tdo := none }
  else if tck && !t.tck then
    { u with state := t.state.next tms, bypass := if t.state = .captureDr then false else if t.state = .shiftDr then tdi else t.bypass }
  else if t.tck && !tck then
    { u with tdo := if t.state = .shiftDr then some t.bypass else if t.state = .shiftIr then some ir else none }
  else u

/-- The board's levels of the inputs stay: no command of the table moves them. -/
def TapSt.settle (t : TapSt) : TapSt := t.drive t.tck t.tms t.tdi t.trstN false

/-- A nanosecond passes: a cycle of the TSU clock where it runs (R41, R418) and the crystal's, the waits for a slot (R178) and the
waiting writes of the housekeeping port (R314). -/
def State.tick (s : State) : State :=
  let t := { s with time := s.time + 1, boot := { s.boot with tap := s.boot.tap.settle } }
  let t := (if s.ctlRuns then t.tsuCycle else t).knlTick (s.time + 1)
  forAll slices (fun sl t => t.hkTick sl) (forAll slices (fun sl t => t.robTick sl (s.time + 1)) t)

/-! ### VAON, PORST_N, SYSRST_N, PERST_N (R530-R535) -/

/-- Removal of VAON: all but the Kennel is lost, and a Sealed hold ends. -/
def execVaonRemove (s : State) : Out :=
  let t := s.finishMarks.kennelOnly
  let t := { t with boot := { s.boot with vaon := false, inReset := true, fullStart := true, avs := false, warm := [] } }.syncKnlStat
  s.goesOn (if s.boot.vkeep && s.boot.vaon then t.knlEvent 0 else t)

/-- R550: VAON_RISE. -/
def execVaonRise (s : State) : Out :=
  s.goesOn (if s.boot.vaon then s else
    let t := { s with boot := { s.boot with vaon := true } }
    if s.boot.vkeep then t.knlEvent 1 else t)

/-- The reset pins act: VAON is up and the device is not Sealed (R503). [DEDUCED, log 101] -/
def State.pinsAct (s : State) : Bool := s.boot.vaon && !s.flt.sealed

/-- R534: PORST_N_ASSERT. -/
def execPorstNAssert (s : State) : Out :=
  let t := { s with boot := { s.boot with porstLow := true, warm := [] } }
  s.goesOn (if s.pinsAct then
      let u := t.chipReset 0
      { u with boot := { u.boot with fullStart := true } }
    else t)

/-- R531, R532: the straps as KNL_STRAP shows them. -/
def strapWord (v : Byte) : Word :=
  setBit (v.setWidth 32) 8 (v &&& 0xC0 ≠ 0 || (v.getLsbD 1 && !v.getLsbD 0))

/-- R545, R548: a release of PORST_N is counted, and LOST ends with the second one after an initialisation. -/
def State.countPowerup (s : State) : State :=
  if !s.boot.vkeep then s else
  let s := s.knlWrite 8 (leBytes 4 (s.knlNat 8 4 + 1))
  if s.knl.freshInit then { s with knl := { s.knl with freshInit := false } }
  else if s.magicIntact then s.setKnlFlag 2 false else s

/-- R5: PORST_N holds the part, which it does not while Sealed (R503, R535), and each of its valid sensors, of which there is one, was last read at or above 0 °C in that hold.
[DEDUCED, log 18] -/
def State.heldWarm (s : State) : Bool :=
  let valid := slices.flatMap fun sl => ((List.range 6).filter fun k => !s.regB (egvI sl) (R.EGV_SENSOR + 4 * k) 16).map (6 * sl.val + ·)
  s.boot.porstLow && !s.flt.sealed && valid ≠ [] && valid.all s.boot.warm.contains

/-- R5: the guarantee returns with the release of a part held so. -/
def State.guaranteeBack (s : State) : State := if s.heldWarm then { s with boot := { s.boot with unrated := false } } else s

/-- R536: PORST_N_RELEASE. -/
def execPorstNRelease (straps : Byte) (s : State) : Out :=
  let t := { s.guaranteeBack with boot := { s.guaranteeBack.boot with porstLow := false } }
  s.goesOn (if s.pinsAct && s.boot.porstLow then (t.setReg knl4 R.KNL_STRAP (strapWord straps)).countPowerup else t)

/-- R534: SYSRST_N_ASSERT. -/
def execSysrstNAssert (s : State) : Out :=
  let t := { s with boot := { s.boot with sysrstLow := true } }
  s.done (if s.pinsAct then t.chipReset 1 else t)

/-- R536: SYSRST_N_RELEASE. -/
def execSysrstNRelease (s : State) : Out := s.done { s with boot := { s.boot with sysrstLow := false } }

/-- R534: PERST_N holds HIF in reset and takes the link down as for link loss. -/
def execPerstNAssert (s : State) : Out :=
  let t := { s with boot := { s.boot with perstLow := true } }
  s.done (if s.pinsAct then t.loseLink.setTraining false else t)

/-- R534: PERST_N_RELEASE. -/
def execPerstNRelease (s : State) : Out := s.done { s with boot := { s.boot with perstLow := false } }

/-! ### Outputs while the device is not running (R567) -/

/-- R502, R512: an open-drain output: asserted, it pulls low. -/
def openDrain (asserted : Bool) : PinLevel := if asserted then .low else .highZ

/-- R565, R567: the level of an output pin; the chip reset lasts to the end of its fuse load (R533). [DEDUCED, log 137] -/
def State.outPin (s : State) (p : OutPin) : PinLevel :=
  let held := !s.ctlRuns
  let level := fun (b : Bool) => if b then PinLevel.high else PinLevel.low
  if p = .keepIntN then openDrain s.keepInt else if p = .spiCsN && !(s.boot.vaon && s.ctlRuns) then .high
  else if !s.boot.vaon then .highZ else
  match p with
  | .ethTx | .pcieTx => if held then .idle else .running
  | .tout n => if held then .low else level (s.toutPin n.val)
  | .ppsOut => if held then .low else level s.ppsPin
  | .synceClk c => if held || s.regB tsu4 (R.TSU_RCLK + 4 * c.val) 25 then .low else .running
  | .snapOut => if held then .low else level s.flt.snapOut
  | .errN => openDrain s.errN
  | .nmiN => openDrain s.nmiN
  | .intN => openDrain s.intN
  | .thermtripN => openDrain s.flt.thermtrip
  | .ddrResetN c => if held || s.chState c.val = 0 then .low else .high
  | .ddrOther _ => if held then .low else .running
  | .avs _ => if held then .high else .running
  | .spi => if held then .highZ else .running
  | .tdo => if held then .highZ else match s.boot.tap.tdo with
    | some b => level b
    | none => .highZ
  | .spiCsN => .running
  | .keepIntN => openDrain s.keepInt

/-! ### Start-up (R443, R454, R461, R492, R536-R538) -/

/-- R535, R536: nothing holds the device in chip reset. -/
def State.released (s : State) : Bool :=
  s.pinsAct && !s.boot.porstLow && !s.boot.sysrstLow && !s.gov.s6Held && !s.gov.t115Held

/-- R461: after fuse load the counter of each slot is its mark, and the next mark is being written. -/
def State.loadCounters (s : State) : State :=
  let used := (List.range 512).filter fun k => s.mark k ≠ 0
  let load := fun (k : Nat) (x : KeySlot) => { x with counter := s.mark k, fresh := false }
  let s := forAll (List.range 512) (fun k t => { t with kce := { t.kce with slots := t.kce.slots.upd k (load k) } }) s
  forAll (used.filter (256 ≤ ·)) (fun k t => t.startMark k (t.mark k + 2 ^ 20)) s

/-- R443: the counter starts at the Kennel's time. -/
def State.loadTime (s : State) : State :=
  { s with tsu := { s.tsu with sec := s.knl.sec, ns := s.knl.ticks * 1000000000 / 32768, frac := 0 } }.setRegB tsu4 R.TSU_STAT 2 true

/-- R317, R538: training of the channels that the flash item describes starts at the end of phase 3. -/
def State.autoTrain (s : State) : State :=
  if s.regB knl4 R.KNL_BOOT 4 && s.selfTested then
    forAll (List.range 16) (fun c t => if t.dimms c = [] || t.failed (chSlice c) then t else t.writeTrnctl c (setBit (t.chReg c R.DTC_TRNCTL) 0 true)) s
  else s

/-- R286, R536: self-test has ended or is skipped: the fabric's links come up. -/
def State.endSelfTest (s : State) : State :=
  let s := s.setRegB knl4 R.KNL_BOOT 1 true
  (s.setRegF swc4 R.SWC_FABSTAT 0 16 s.fabricUp).autoTrain

/-- A port whose EN was written before the end of lane calibration leaves OFF. -/
def State.startHeldPort (s : State) (p : Nat) : State :=
  if (s.port p).waitCal then ((s.updPort p fun x => { x with waitCal := false }).setLane p R.PRT_PSTAT 0 4 1).syncShed else s

def State.endCalibration (s : State) : State :=
  forAll (List.range 256) (fun p t => t.startHeldPort p) (s.setRegB knl4 R.KNL_BOOT 5 true)

/-- R537: the ports of a slice that failed stay in OFF with CFG_ERR. -/
def State.failSlicePorts (s : State) (sl : Slice) : State :=
  forAll (List.range 64) (fun k t =>
    (t.setLane (64 * sl.val + k) R.PRT_PSTAT 7 1 1).updPort (64 * sl.val + k) fun x => { x with waitCal := false }) s

/-- The end of phase 1, after which phases 3 and 4 are skipped unless PORST_N caused the reset. A slice that failed the last
self-test stays held. -/
def State.endFuseLoad (s : State) (rootOk : Bool) : State :=
  let full := s.boot.fullStart
  let wasHeld := s.boot.inReset
  let s := { s with boot := { s.boot with inReset := false, fullStart := false } }
  let s := s.setRegB knl4 R.KNL_BOOT 0 true
  let s := (s.setRegB kce4 R.KCE_STAT 0 rootOk).setRegB kce4 R.KCE_STAT 1 (s.regB knl4 R.KNL_STAT 2)
  let s := s.loadCounters.loadTime
  let s := { s with hif := { s.hif with
    fns := if wasHeld then s.seqsFromMarks else s.hif.fns, flashBusy := s.regB knl4 R.KNL_STRAP 0 } }
  let s := if !full || s.regB knl4 R.KNL_STRAP 4 then s.endSelfTest else s
  let s := if full then s else s.endCalibration
  let s := forAll (slices.filter s.failed) (fun sl t => t.failSlicePorts sl) s
  if rootOk then s else s.noteFault 92

/-- R536: FUSE_LOAD_COMPLETE. -/
def execFuseLoadComplete (rootOk : Bool) (s : State) : Out :=
  s.done (if s.fuseDone || !s.released then s else s.endFuseLoad rootOk)

/-- A word of the training item. -/
def itemWord (l : List Byte) (c k : Nat) : Word := BitVec.ofNat 32 (ofLe (slice l (336 * c + 4 * k) 4))

/-- R538: the device writes a channel's words of the item; a slice that failed self-test is held in reset (R537).
[DEDUCED, log 103] -/
def State.applyItem (s : State) (l : List Byte) (c : Nat) : State :=
  if s.failed (chSlice c) then s else
  let s := (s.writeDimm c 0 (itemWord l c 1)).writeDimm c 1 (itemWord l c 2)
  let s := s.writeCcfg c (itemWord l c 0)
  let s := forAll (List.range 80) (fun k t => t.plainWrite (chInst c) (chOff c (R.DTC_TSAV + 4 * k)) (itemWord l c (3 + k))) s
  s.setChF c R.DTC_TRNCTL 1 1 1

/-- R492: the entry `k` of the flash's directory, as TYPE and item; none where the CRC-32 fails. [PRESUMED, log 115] -/
def flashEntry (flash : List Byte) (k : Nat) : Option (Nat × List Byte) :=
  let e := slice flash (16 + 16 * k) 16
  let item := slice flash (ofLe (slice e 4 4)) (ofLe (slice e 8 4))
  if fcsOf item = slice e 12 4 then some (ofLe (slice e 0 4), item) else none

/-- R492: the items of a TYPE that the directory at offset 0 lists, in its order. -/
def flashItems (flash : List Byte) (type : Nat) : List (List Byte) :=
  if slice flash 0 4 ≠ [0x4B, 0x53, 0x46, 0x31] then [] else
  (List.range (ofLe (slice flash 4 2))).filterMap fun k =>
    ((flashEntry flash k).filter fun (t, _) => t = type).map (·.2)

/-- R492, R538: phase 2 ends. -/
def State.endFlashRead (s : State) (flash : List Byte) : State :=
  let s := { s with hif := { s.hif with flashBusy := false } }.setRegB knl4 R.KNL_BOOT 3 true
  match (flashItems flash 3).head? with
  | none => s
  | some l =>
    if s.regB knl4 R.KNL_STRAP 1 && l.length = 5376 then
      ((forAll (List.range 16) (fun c t => t.applyItem l c) s).setRegB knl4 R.KNL_BOOT 4 true).autoTrain
    else s

/-- R538: FLASH_BOOT_READ_DONE; `flash` is the content of the flash. -/
def execFlashBootReadDone (flash : List Byte) (s : State) : Out :=
  s.done (if s.fuseDone && s.regB knl4 R.KNL_STRAP 0 && !s.regB knl4 R.KNL_BOOT 3 then s.endFlashRead flash else s)

/-- R537: SELF_TEST_COMPLETE. -/
def execSelfTestComplete (failed : BitVec 4) (s : State) : Out :=
  s.done (if !s.fuseDone || s.selfTested then s else
    let s := (s.setRegF knl4 R.KNL_BOOT 12 4 failed.toNat).setRegB knl4 R.KNL_BOOT 6 (failed ≠ 0)
    let s := forAll (slices.filter fun sl => failed.getLsbD sl.val) (fun sl t => t.failSlicePorts sl) s
    s.endSelfTest)

/-- R536: LANE_CALIBRATION_COMPLETE. -/
def execLaneCalibrationComplete (s : State) : Out :=
  s.done (if s.selfTested && !s.regB knl4 R.KNL_BOOT 5 then s.endCalibration else s)

/-- R529, R536: the governor takes AVSBus control of regulators that stand at 0.66 V, the voltage of L2.
[DEDUCED, log 76] -/
def State.takeAvs (s : State) : State :=
  let s := { s with boot := { s.boot with avs := true } }
  (forAll slices (fun sl t => t.setRegF (egvI sl) R.EGV_SSTAT 0 3 2) s).syncCaps

/-- R536: AVSBUS_TAKEOVER. -/
def execAvsbusTakeover (s : State) : Out := s.done (if s.selfTested && !s.boot.avs then s.takeAvs else s)

/-! ### Configuration signatures (R266-R268) -/

/-- R267: the bits of a register that the signature leaves out beyond their access code. -/
def sigExcluded (i : InstId) (off : Nat) : Word :=
  match i.block with
  | .tsu => if R.TSU_TOUTCFG ≤ off && off < R.TSU_TINCFG && off % 32 = 0 then 4 else if off = R.TSU_SNAPCFG then 1 else 0
  | .egv => if i.inst.val = 4 && off = R.EGV_STAGECTL then 7 else 0
  | .hif => if R.HIF_PCMDTAIL ≤ off then 0xFFFFFFFF else 0
  | _ => 0

/-- What a defined register contributes: its RW and RWS fields. -/
def State.sigWord (s : State) (i : InstId) (off : Nat) : Option Word :=
  (regRow i off).map fun r => s.reg i off &&& (r.rw ||| r.rws) &&& ~~~sigExcluded i off

/-- R266: the signature of an instance now. [DEDUCED, log 49] -/
def State.sigNow (s : State) (i : InstId) : Word :=
  signature ((List.range 1024).filterMap fun k => s.sigWord i (4 * k))

/-- R41, R266, R392: the clock domain of an instance runs. -/
def State.clocked (s : State) (i : InstId) : Bool :=
  let sl : Slice := Fin.ofNat 4 i.inst.val
  match i.block with
  | .egv | .flt | .knl => s.boot.vaon
  | .kce | .hif | .tsu => s.ctlRuns
  | .prt => (List.range 64).any fun l => bit (s.laneReg (64 * sl.val + l) R.PRT_PCFG) 0
  | .dtc => s.sleep sl < 2 && (List.range 4).any fun j => s.chOnline (4 * sl.val + j)
  | .swc => if i.inst.val = 4 then slices.any fun e => s.sleep e < 2 else s.awake sl
  | .pup | .pcl | .rwr | .fwd | .asa | .bpm | .tmg => s.awake sl

/-- R266: CONFIG_SIGNATURE_RECOMPUTE. -/
def execConfigSignatureRecompute (i : InstId) (s : State) : Out :=
  s.done (if i.present && s.clocked i then { s with sigs := s.sigs.set (instIndex i) (s.sigNow i) } else s)

end Sys2Proof.Machine
end

