-- ==== Sys2Proof/Machine/Access.lean ====
section
/-! DEFINITION. Register accesses of the host: decoding of addresses, broadcasts, the functions' windows, the indirect
windows, the effects of reads and writes of every register, accesses that are held, and the end of a block reset
(R13, R27-R40, R474, R493, R516, R580). -/

namespace Sys2Proof.Machine

/-! ### Indirect windows (R36-R39, R580) -/

/-- The address after a data access: AINC acts whatever was accessed. -/
def WinState.advance (x : WinState) : WinState := if x.ainc then { x with addr := x.addr + 1 } else x

/-- R36: a write of BLK_WSEL. -/
def WinState.writeSel (x : WinState) (v : Word) : WinState :=
  { x with
    win := v.setWidth 8, ainc := bit v 8, partialLost := (x.partialLost && !bit v 9) || !x.staged.isEmpty
    capture := none, staged := [] }

/-- R37: a write of BLK_WADDR. -/
def WinState.writeAddr (x : WinState) (v : Word) : WinState :=
  { x with addr := v, partialLost := x.partialLost || !x.staged.isEmpty, staged := [] }

/-- BLK_WSEL as it reads. -/
def WinState.selWord (x : WinState) : Word := setBit (setBit (x.win.setWidth 32) 8 x.ainc) 9 x.partialLost

/-- The entry and word that ADDR names, if the selected window is defined and ADDR lies within it. -/
def State.winPlace (s : State) (i : InstId) : Option (Nat × Nat) :=
  let x := s.wsOf i
  match winDim i x.win.toNat with
  | none => none
  | some (n, k) => if x.addr.toNat < n * k then some (x.addr.toNat / k, x.addr.toNat % k) else none

/-- R39: a read of BLK_WDATA: from the capture where it holds the entry and the word is not word 0, else from a new one. -/
def State.readWdata (s : State) (i : InstId) : State :=
  let x := s.wsOf i
  let w := x.win.toNat
  match s.winPlace i with
  | none => (s.setWs i x.advance).answer 0
  | some (e, j) =>
    match x.capture.filter fun (cw, ce, _) => cw = w && ce = e && j ≠ 0 with
    | some (_, _, l) => (s.setWs i x.advance).answer (l[j]?.getD 0)
    | none =>
      let l := s.readEntry i w e
      ((s.noteRead i w e).setWs i { x.advance with capture := some (w, e, l) }).answer (l[j]?.getD 0)

/-- The staged words of an entry, by word number, newest first. [DEDUCED, log 24] -/
def stagedOf (l : List (Nat × Word)) (e k : Nat) : List (Nat × Word) :=
  (l.filter fun (a, _) => a / k = e).map fun (a, v) => (a % k, v)

/-- R39: a write of BLK_WDATA stages a word; the last word of an entry stores it. -/
def State.writeWdata (s : State) (i : InstId) (v : Word) : State :=
  let x := { s.wsOf i with capture := none }
  let w := x.win.toNat
  match s.winPlace i with
  | none => s.setWs i x.advance
  | some (e, j) =>
    let k := winWords i w
    let l := (x.addr.toNat, v) :: x.staged
    if j + 1 = k then
      (s.setWs i { x.advance with staged := l.filter fun (a, _) => a / k ≠ e }).writeWords i w e (stagedOf l e k)
    else s.setWs i { x.advance with staged := l }

/-- An offset of the window registers. -/
def isWinReg (i : InstId) (off : Nat) : Bool := i.hasWindow && (off = R.WSEL || off = R.WADDR || off = R.WDATA)

/-! ### The ring registers of the PF (R493) -/

/-- The block, word and width of the field that a register at 0x200-0x6FF mirrors; none for a ring of another owner. -/
def State.mirror (s : State) (off : Nat) : Option (Nat × Nat × Nat) :=
  if off = R.HIF_PCMDTAIL then some (kccBlk 0, 5, 12)
  else if off = R.HIF_PCPLTAIL then some (kccBlk 0, 6, 12)
  else if off < R.HIF_PFREETAIL then none
  else if off < R.HIF_PINJTAIL then
    let r := (off - R.HIF_PFREETAIL) / 8
    if s.ringOwner true r = 0 then some (puntBlk r, if off % 8 = 0 then 5 else 6, 14) else none
  else
    let r := (off - R.HIF_PINJTAIL) / 4
    if s.ringOwner false r = 0 then some (injBlk r, 3, 14) else none

/-- R490: HIF_FSTATf. -/
def State.fstat (s : State) (f : Nat) : Word :=
  let l := (s.fifo f).words
  let w := setFld (setFld 0 0 7 (s.fifo f).items) 16 7 l.length
  let w := setBit (setBit w 29 (l.head?.any (·.start))) 28 (l.head?.any (·.fin))
  setBit (setBit w 31 l.isEmpty) 30 (s.regB hif4 (R.HIF_FSTAT + 8 * f) 30)

/-! ### Reads -/

/-- R440: SHI and SLO of a capture latch. -/
def State.latchWord (s : State) (n : Nat) (hi : Bool) : Word :=
  let l := s.tsu.latches.get n
  if hi then setBit (setBit (setFld 0 0 16 (l.sec.toNat / 2 ^ 32)) 30 l.ovr) 31 l.valid else l.sec.setWidth 32

/-- A read of a register: its value, and RC fields return to their reset values (R13). -/
def State.readPlain (s : State) (i : InstId) (off : Nat) : State := (s.answer (s.reg i off)).clearRc i off

def State.readTsu (s : State) (off : Nat) : State :=
  if off = R.TSU_TNS then s.readTns
  else if off = R.TSU_KSECLO || off = R.TSU_KSECHI then s.syncKsec.readPlain tsu4 off
  else if R.TSU_TINCFG ≤ off && off < R.TSU_PPSOCFG then
    let n := (off - R.TSU_TINCFG) / 16
    match off % 16 with
    | 0 => s.readPlain tsu4 off
    | 4 => s.answer (s.latchWord n true)
    | 8 => s.answer (s.latchWord n false)
    | _ => s.readCapture n
  else s.readPlain tsu4 off

def State.readHif (s : State) (off : Nat) : State :=
  if R.HIF_FSTAT ≤ off && off < R.HIF_PCMDTAIL then
    let f := (off - R.HIF_FSTAT) / 8
    if off % 8 = 0 then s.answer (s.fstat f) else s.readFifo f
  else if R.HIF_PCMDTAIL ≤ off then
    s.answer (match s.mirror off with
      | none => 0
      | some (e, k, n) => setFld 0 0 n (fld (s.ring e k) 0 n))
  else s.readPlain hif4 off

def State.readFlt (s : State) (off : Nat) : State :=
  if off = R.FLT_STAT0 then s.readStat0
  else if off = R.FLT_STAT1 then s.readStat1
  else if off = R.FLT_STAT2 then s.readStat2
  else s.readPlain flt4 off

/-- A read of a defined register of an instance. -/
def State.performRead (s : State) (i : InstId) (off : Nat) : State :=
  if isWinReg i off then
    if off = R.WSEL then s.answer (s.wsOf i).selWord
    else if off = R.WADDR then s.answer (s.wsOf i).addr
    else s.readWdata i
  else match i.block with
    | .tsu => s.readTsu off
    | .hif => s.readHif off
    | .flt => s.readFlt off
    | .egv | .knl | .prt | .pup | .pcl | .rwr | .fwd | .asa | .swc | .bpm | .dtc | .tmg | .kce => s.readPlain i off

/-! ### Writes -/

/-- R509: the block's vector is sent when a set event is unmasked. -/
def State.unmasked (s : State) (i : InstId) (base : Nat) (old : Word) : State :=
  match eventRegs i with
  | none => s
  | some (e, m) => if old &&& ~~~ s.reg i (base + m) &&& s.reg i (base + e) ≠ 0 then s.sendMsi 0 (vectorOf i) else s

/-- A write of a register without effects of its own beyond its fields (R13); a mask register may send its vector. -/
def State.writePlain (s : State) (i : InstId) (off : Nat) (v : Word) : State :=
  let t := s.plainWrite i off v
  if (eventRegs i).any fun (_, m) => m = subOff i.block off then t.unmasked i (off - subOff i.block off) (s.reg i off) else t

def State.writePrt (s : State) (i : InstId) (off : Nat) (v : Word) : State :=
  if R.PRT_PCFG ≤ off % 512 && off % 32 = 0 then
    s.writePcfg (64 * i.inst.val + off / 512 * 8 + (off % 512 - R.PRT_PCFG) / 32) v
  else s.writePlain i off v

/-- R206: STALE, RETIRED and BUSY are one bit each, shown in all four instances. -/
def State.writePcl (s : State) (i : InstId) (off : Nat) (v : Word) : State :=
  let t := s.writePlain i off v
  if off = R.PCL_VSTAT then forAll slices (fun sl u => u.plainWrite (slInst .pcl sl) R.PCL_VSTAT (v &&& 0xD)) t else t

/-- R246: a nonzero OP starts an operation with the arguments of FWD_OPARG, unless one is running.
[DEDUCED, log 43] -/
def State.writeOpctl (s : State) (sl : Slice) (v : Word) : State :=
  if fld v 0 4 = 0 || s.regB (fwdI sl) R.FWD_OPCTL 12 then s
  else s.fwdRequest sl ⟨fld v 0 4, (List.range 8).map fun k => s.reg (fwdI sl) (R.FWD_OPARG + 4 * k)⟩

def State.writeSwc (s : State) (i : InstId) (off : Nat) (v : Word) : State :=
  if i.inst.val = 4 then (if off = R.SWC_HRCFG then s.writeHrcfg v else s.writePlain i off v)
  else if off = R.SWC_INGRSV then s.writePool (sliceOf i) .ingRsv v
  else if off = R.SWC_PUNTRSV then s.writePool (sliceOf i) .puntRsv v
  else s.writePlain i off v

/-- R338: the registers of a channel whose RWS fields are written only in OFF, READY and FAILED. -/
def dtcLocked (o : Nat) : Bool := o = R.DTC_RPRROW || (R.DTC_TSAV ≤ o && o < R.DTC_TRN)

def State.writeDtc (s : State) (i : InstId) (off : Nat) (v : Word) : State :=
  let c := 4 * i.inst.val + off / 1024
  let o := off % 1024
  if o = R.DTC_CCFG then s.writeCcfg c v
  else if o = R.DTC_DIMM || o = R.DTC_DIMM + 4 then s.writeDimm c ((o - R.DTC_DIMM) / 4) v
  else if o = R.DTC_TRNCTL then s.writeTrnctl c v
  else if o = R.DTC_RPRCTL then s.writeRprctl c v
  else if dtcLocked o && !s.chOpen c then s
  else if o = R.DTC_HEELCFG || (R.DTC_REG0 ≤ o && o < R.DTC_RPRCTL) then s.writePortRate c o v
  else s.writePlain i off v

/-- R376: an overhead outside -64 to +63 is stored as the nearer limit. -/
def clampOvhd (v : Word) : Word :=
  (List.range 4).foldl (fun w k => setFld w (8 * k) 8 (BitVec.ofInt 8 (max (-64) (min 63 (sext (fld v (8 * k) 8) 8)))).toNat) 0

def State.writeTmg (s : State) (i : InstId) (off : Nat) (v : Word) : State :=
  if off = R.TMG_SRCFG then s.writeSrcfg (sliceOf i) v
  else if R.TMG_OVHD ≤ off && off < R.TMG_SRBASE_LO then s.plainWrite i off (clampOvhd v)
  else s.writePlain i off v

/-- R414: THRESH is stored as the nearer of 10 and 100 when outside them. -/
def clampDroop (v : Word) : Word := setFld v 0 7 (max 10 (min 100 (fld v 0 7)))

def State.writeEgv (s : State) (i : InstId) (off : Nat) (v : Word) : State :=
  if i.inst.val = 4 then
    if off = R.EGV_STAGECTL then s.writeStagectl v
    else if R.EGV_STH ≤ off && off < R.EGV_STH + 24 then s.writeThreshold ((off - R.EGV_STH) / 4) v
    else if off = R.EGV_TAMB then
      { s.plainWrite i off v with gov := { s.gov with tambAt := some s.time } }
    else if off = R.EGV_DCTRL then (s.plainWrite i off v).syncCaps
    else s.writePlain i off v
  else if off = R.EGV_DROOP then s.plainWrite i off (clampDroop v)
  else s.writePlain i off v

/-- R445: TSU_TXCFG, as SWC_HRCFG. -/
def State.writeTxcfg (s : State) (v : Word) : State :=
  let t := s.plainWrite tsu4 R.TSU_TXCFG v
  if bit v 8 then { t.setReg tsu4 R.TSU_TXHEAD 0 with tsu := { t.tsu with txPhase := true } } else t

def State.writeTsu (s : State) (off : Nat) (v : Word) : State :=
  if off = R.TSU_CTRL then s.writeTsuCtrl v
  else if off = R.TSU_FREQHI then s.writeFreqHi v
  else if off = R.TSU_FREQLO then s.writeFreq v
  else if off = R.TSU_OFFSET then s.writeOffset v
  else if off = R.TSU_STEPNS then s.writeStep v
  else if off = R.TSU_ARM then s.writeArm v
  else if R.TSU_TOUTCFG ≤ off && off < R.TSU_TINCFG then
    let n := (off - R.TSU_TOUTCFG) / 32
    if off % 32 = 0 then s.writeTout n v else s.writeToutField n (R.TSU_TOUTCFG + off % 32) v
  else if R.TSU_TINCFG ≤ off && off < R.TSU_PPSOCFG then
    if off % 16 = 4 then s.writeTinShi ((off - R.TSU_TINCFG) / 16) v else s.writePlain tsu4 off v
  else if off = R.TSU_PPSOCFG then s.writePpso v
  else if off = R.TSU_SNAPCFG then s.writeSnapcfg v
  else if R.TSU_SNAPSLO ≤ off && off ≤ R.TSU_SNAPNS then s.writeSnapTime off v
  else if off = R.TSU_RCLK then s.writeRclk 0 v
  else if off = R.TSU_RCLK + 4 then s.writeRclk 1 v
  else if off = R.TSU_TXCFG then s.writeTxcfg v
  else s.writePlain tsu4 off v

def State.writeHif (s : State) (off : Nat) (v : Word) : State :=
  if R.HIF_PCMDTAIL ≤ off then
    match s.mirror off with
    | none => s
    | some (e, k, _) => s.writeWords hif4 1 e [(k, v)]
  else s.writePlain hif4 off v

def State.writeFlt (s : State) (off : Nat) (v : Word) : State :=
  if off = R.FLT_ERRPIN then s.writeErrpin v
  else if off = R.FLT_MUZZLE then s.writeMuzzle v
  else if off = R.FLT_BRST then s.writeBrst v
  else if off = R.FLT_CRST then s.writeCrst v
  else if off = R.FLT_SNAPCTL then s.writeSnapctl v
  else if off = R.FLT_SNAPSTAT then s.writeSnapstat v
  else s.writePlain flt4 off v

/-- A write of a defined register of an instance. -/
def State.performWrite (s : State) (i : InstId) (off : Nat) (v : Word) : State :=
  if isWinReg i off then
    if off = R.WSEL then s.setWs i ((s.wsOf i).writeSel v)
    else if off = R.WADDR then s.setWs i ((s.wsOf i).writeAddr v)
    else s.writeWdata i v
  else match i.block with
    | .prt => s.writePrt i off v
    | .pup => if off = R.PUP_CTRL then s.writePupCtrl (sliceOf i) v else s.writePlain i off v
    | .pcl => s.writePcl i off v
    | .fwd => if off = R.FWD_OPCTL then s.writeOpctl (sliceOf i) v else s.writePlain i off v
    | .swc => s.writeSwc i off v
    | .bpm => if off = R.BPM_CTRL then s.writeBpmCtrl (sliceOf i) v else s.writePlain i off v
    | .dtc => s.writeDtc i off v
    | .tmg => s.writeTmg i off v
    | .egv => s.writeEgv i off v
    | .tsu => s.writeTsu off v
    | .hif => s.writeHif off v
    | .flt => s.writeFlt off v
    | .knl => if off = R.KNL_CTRL then s.writeKnlCtrl v else s.writePlain i off v
    | .rwr | .asa | .kce => s.writePlain i off v

/-! ### The window of a VF (R472, R474) -/

/-- The ring block and word at an offset of the window of function `f`. -/
def State.vfPlace (s : State) (f off : Nat) : Option (Nat × Nat) :=
  let r := off / 32 % 64
  if off < 0x20 then some (kccBlk f, off / 4)
  else if 256 ≤ f then none
  else if 0x1000 ≤ off && off < 0x1800 then (if s.ringOwner true r = f then some (puntBlk r, off % 32 / 4) else none)
  else if 0x2000 ≤ off && off < 0x2800 then (if s.ringOwner false r = f then some (injBlk r, off % 32 / 4) else none)
  else none

/-- HIF_BADADDR counts a write to a reserved address. -/
def State.badAddr (s : State) : State := s.count hif4 R.HIF_BADADDR

def State.vfWrite (s : State) (f off : Nat) (v : Word) : State :=
  match s.vfPlace f off with
  | none => s.badAddr
  | some (e, k) => s.writeWords hif4 1 e [(k, v)]

def State.vfRead (s : State) (f off : Nat) : State :=
  s.answer (match s.vfPlace f off with
    | none => 0
    | some (e, k) => if 256 ≤ f then 0 else s.ring e k)

/-! ### Performing and holding accesses (R27-R33, R516) -/

/-- R28: a read of a reserved address returns 0; a write is ignored and counted. -/
def State.reservedAddr (s : State) (v : Option Word) : State := if v.isSome then s.badAddr else s.answer 0

/-- Perform an access. -/
def State.performAccess (s : State) (a : Access) : State :=
  if a.reserved then s.reservedAddr a.value else
  match a.store, a.value with
  | some (w, e, l), _ => s.writeWords a.inst w e l
  | none, some v => if a.fn = 0 then s.performWrite a.inst a.off v else s.vfWrite a.fn a.off v
  | none, none => if a.fn = 0 then s.performRead a.inst a.off else s.vfRead a.fn a.off

/-- The offset is defined for the instance (R28). -/
def defined (i : InstId) (off : Nat) : Bool := (regRow i off).isSome || isWinReg i off

/-- The instance and offset that an address decodes to, if bits [27:25] are 0 and the block exists. -/
def decodeAddr (addr : BitVec 28) : Option (InstId × Nat) :=
  if addr.toNat / 2 ^ 25 ≠ 0 then none else (instOfIndex (addr.toNat / 4096)).map fun i => (i, addr.toNat % 4096)

/-- An access of the PF to instance 15 or to a defined register of a present instance. -/
def State.hostAccess (s : State) (i : InstId) (off : Nat) (v : Option Word) : State :=
  s.access { inst := i, off := off, value := v } fun t => t.performAccess { inst := i, off := off, value := v }

/-- R28, R41: an access to a reserved address, which HIF answers. [DEDUCED, log 109] -/
def State.hostReserved (s : State) (v : Option Word) : State :=
  s.access { inst := hif4, value := v, reserved := true } fun t => t.reservedAddr v

/-- R31: a write to instance 15, in the order of the slices. -/
def State.broadcastWrite (s : State) (b : Block) (off : Nat) (v : Word) : State :=
  s.accessSlices b 15 { inst := ⟨b, 15⟩, off := off, value := some v } fun sl t => t.performWrite (slInst b sl) off v

/-- A host write at an address. -/
def State.hostWriteAt (s : State) (fn : Nat) (addr : BitVec 28) (v : Word) : State :=
  if fn ≠ 0 then s.access { fn := fn, inst := hif4, off := addr.toNat, value := some v } fun t => t.vfWrite fn addr.toNat v
  else match decodeAddr addr with
    | none => s.hostReserved (some v)
    | some (i, off) =>
      if i.inst.val = 15 && i.block.sliced && defined (slInst i.block 0) off then s.broadcastWrite i.block off v
      else if defined i off then s.hostAccess i off (some v)
      else s.hostReserved (some v)

/-- A host read at an address. -/
def State.hostReadAt (s : State) (fn : Nat) (addr : BitVec 28) : State :=
  if fn ≠ 0 then s.access { fn := fn, inst := hif4, off := addr.toNat } fun t => t.vfRead fn addr.toNat
  else match decodeAddr addr with
    | none => s.hostReserved none
    | some (i, off) => if defined i off then s.hostAccess i off none else s.hostReserved none

/-- R27: REGISTER_WRITE. -/
def execRegisterWrite (fn : Fin 257) (addr : BitVec 28) (v : Word) (s : State) : Out := s.done (s.hostWriteAt fn.val addr v)

/-- R33: REGISTER_READ. -/
def execRegisterRead (fn : Fin 257) (addr : BitVec 28) (s : State) : Out := s.done (s.hostReadAt fn.val addr)

/-- R13: READ_CLEAR. -/
def execReadClear (fn : Fin 257) (addr : BitVec 28) (s : State) : Out := s.done (s.hostReadAt fn.val addr)

/-- A write of a window register: of one instance, or of the four slice instances. [DEDUCED, log 23] -/
def State.hostWinWrite (s : State) (i : InstId) (off : Nat) (v : Word) : State :=
  if i.inst.val = 15 then s.broadcastWrite i.block off v else s.hostAccess i off (some v)

/-- R36: WSEL_WRITE. -/
def execWselWrite (i : InstId) (v : Word) (s : State) : Out := s.done (s.hostWinWrite i R.WSEL v)

/-- R37: WADDR_WRITE. -/
def execWaddrWrite (i : InstId) (v : Word) (s : State) : Out := s.done (s.hostWinWrite i R.WADDR v)

/-- R39: WDATA_WRITE. [DEDUCED, log 19] -/
def execWdataWrite (i : InstId) (v : Word) (s : State) : Out := s.done (s.hostWinWrite i R.WDATA v)

/-- R31: a read of instance 15 returns 0, after the parts of an earlier broadcast write. -/
def execWdataRead (i : InstId) (s : State) : Out :=
  s.done (if i.inst.val = 15 then s.hostReserved none else s.hostAccess i R.WDATA none)

/-- The first held access that can be performed, with those before it and after it. -/
def State.nextHeld (s : State) : List Access → List Access → Option (Access × List Access)
  | _, [] => none
  | before, a :: r =>
    if s.reachable a.inst && !before.any a.waitsFor then some (a, before ++ r) else s.nextHeld (before ++ [a]) r

/-- R32, R33: one held access is performed. -/
def State.performNext (s : State) : State :=
  match s.nextHeld [] s.held with
  | none => s
  | some (a, rest) => { s with held := rest }.performAccess a

/-- R32: HELD_ACCESS_PERFORM. -/
def execHeldAccessPerform (s : State) : Out := s.done s.performNext

/-- Perform held accesses until none can be. -/
def State.performReady : Nat → State → State
  | 0, s => s
  | n + 1, s => (s.performNext).performReady n

/-- R32, R516: a block reset ends, and the accesses held for it are performed. -/
def execBlockResetEnd (target : BitVec 13) (group : Fin 16) (s : State) : Out :=
  s.done (match instOfIndex target.toNat with
    | none => s
    | some i =>
      if s.inBlockReset i group.val then
        let t := s.endReset i group.val
        t.performReady t.held.length
      else s)

end Sys2Proof.Machine
end

