-- ==== Sys2Proof/Machine/Instrs.lean ====
section
/-! DEFINITION. The Zenrex base instructions: the nanoword of each as its group table gives it (R146-R172), customer
nanowords and unassigned indices. A command names the context that issues and the operand fields of its microword. -/

namespace Sys2Proof.Machine

/-- R149: register forms of the ALU: operation, FLAGMASK, destination. -/
def nanoAluR (op flags : Nat) (dst : Nat := 1) : Nano := { aluop := op, flagmask := flags, dstsel := dst, tailok := true }

/-- R150: immediate forms of the ALU. -/
def nanoAluI (op flags : Nat) (dst : Nat := 1) (bsel : Nat := 1) : Nano :=
  { opf := 1, aluop := op, flagmask := flags, dstsel := dst, bsel := bsel, tailok := true }

/-- R151: wide moves. -/
def nanoWide (op asel immsh flags : Nat) : Nano :=
  { opf := 4, aluop := op, asel := asel, bsel := 1, immsh := immsh, flagmask := flags, dstsel := 1, tailok := true }

/-- R152: window extracts: first bit and width. -/
def nanoExt (xbit width : Nat) : Nano :=
  { opf := 2, xoffsrc := 1, asel := 2, dstsel := 1, xbit := xbit, xwid := width - 1, tailok := true }

/-- R153: extracts from MD, from a key register, from a register offset, into a key lane, and deposits. -/
def nanoExtMd (width : Nat) : Nano := { nanoExt 0 width with xsrc := 1 }
def nanoExtKey (k : Nat) : Nano := { nanoExt 0 32 with xsrc := 2, lkkey := k }
def nanoExtReg (width : Nat) : Nano := { nanoExt 0 width with opf := 1, xoffsrc := 3 }
def nanoExtLane (k lane width : Nat) : Nano := { nanoExt 0 width with dstsel := 2, lkkey := k, klane := lane }
def nanoDep (width : Nat) : Nano := { opf := 1, xdir := true, xoffsrc := 2, xwid := width - 1 }

/-- R157: compares. -/
def nanoCmp (op : Nat) : Nano := { cmpop := op, tailok := true }
def nanoCmpI (op : Nat) : Nano := { opf := 1, bsel := 1, cmpop := op, tailok := true }

/-- R159: branches and loops. -/
def nanoBr (cond : Nat) : Nano := { opf := 3, brcond := cond, dslotok := false, tailok := true }
def nanoLoop (reg : Bool) : Nano := { opf := 3, loopctl := 1, loopcntsrc := reg, dslotok := false }

/-- R160, R162: lookups. -/
def nanoLk (table width res : Nat) (ctxok : Nat := 3) (tailok : Bool := false) : Nano :=
  { lken := true, lktagmw := true, lktable := table, lkwidth := width, lkres := res, ctxok := ctxok, tailok := tailok }

/-- R163: searches. -/
def nanoSrch (p width res : Nat) : Nano := { nanoLk (8 + p) width res with lkmask := p }

/-- R165: RD stores and MD writes. -/
def nanoRdst (size : Nat) : Nano := { opf := 2, asel := 1, rdwe := true, rdoffmw := true, rdsize := size, ctxok := 1 }
def nanoMd (field : Nat) : Nano := { mdwe := true, mdfield := field, ctxok := 1 }
def nanoMdI (field : Nat) : Nano := { opf := 1, aluop := 15, bsel := 1, mdwe := true, mdfield := field, ctxok := 1 }

/-- R170, R172: raw table accesses. -/
def nanoRaw (t width res : Nat) : Nano :=
  { priv := true, ctxok := 2, lken := true, lktagmw := true, lktable := t, lkwidth := width, lkres := res }


/-! ### Move and ALU (R148-R151) -/

/-- R148: NOP. -/
def execNop (x : CtxId) (s : State) : Out :=
  s.done (s.runMw x { tailok := true } (mwF0 0x000 0 0 0 0))

/-- R149: MOV. -/
def execMov (x : CtxId) (d a : Reg) (s : State) : Out :=
  s.done (s.runMw x (nanoAluR 0 0) (mwF0 0x010 d a 0 0))

/-- R149: ADD. -/
def execAdd (x : CtxId) (d a b : Reg) (s : State) : Out :=
  s.done (s.runMw x (nanoAluR 1 15) (mwF0 0x011 d a b 0))

/-- R149: SUB. -/
def execSub (x : CtxId) (d a b : Reg) (s : State) : Out :=
  s.done (s.runMw x (nanoAluR 2 15) (mwF0 0x012 d a b 0))

/-- R149: AND. -/
def execAnd (x : CtxId) (d a b : Reg) (s : State) : Out :=
  s.done (s.runMw x (nanoAluR 3 5) (mwF0 0x013 d a b 0))

/-- R149: OR. -/
def execOr (x : CtxId) (d a b : Reg) (s : State) : Out :=
  s.done (s.runMw x (nanoAluR 4 5) (mwF0 0x014 d a b 0))

/-- R149: XOR. -/
def execXor (x : CtxId) (d a b : Reg) (s : State) : Out :=
  s.done (s.runMw x (nanoAluR 5 5) (mwF0 0x015 d a b 0))

/-- R149: ANDN. -/
def execAndn (x : CtxId) (d a b : Reg) (s : State) : Out :=
  s.done (s.runMw x (nanoAluR 6 5) (mwF0 0x016 d a b 0))

/-- R149: SHL. -/
def execShl (x : CtxId) (d a b : Reg) (s : State) : Out :=
  s.done (s.runMw x (nanoAluR 7 7) (mwF0 0x017 d a b 0))

/-- R149: SHR. -/
def execShr (x : CtxId) (d a b : Reg) (s : State) : Out :=
  s.done (s.runMw x (nanoAluR 8 7) (mwF0 0x018 d a b 0))

/-- R149: SAR. -/
def execSar (x : CtxId) (d a b : Reg) (s : State) : Out :=
  s.done (s.runMw x (nanoAluR 9 7) (mwF0 0x019 d a b 0))

/-- R149: ROL. -/
def execRol (x : CtxId) (d a b : Reg) (s : State) : Out :=
  s.done (s.runMw x (nanoAluR 10 5) (mwF0 0x01A d a b 0))

/-- R149: MINU. -/
def execMinu (x : CtxId) (d a b : Reg) (s : State) : Out :=
  s.done (s.runMw x (nanoAluR 11 5) (mwF0 0x01B d a b 0))

/-- R149: MAXU. -/
def execMaxu (x : CtxId) (d a b : Reg) (s : State) : Out :=
  s.done (s.runMw x (nanoAluR 12 5) (mwF0 0x01C d a b 0))

/-- R149: ADC. -/
def execAdc (x : CtxId) (d a b : Reg) (s : State) : Out :=
  s.done (s.runMw x (nanoAluR 13 15) (mwF0 0x01D d a b 0))

/-- R149: SBC. -/
def execSbc (x : CtxId) (d a b : Reg) (s : State) : Out :=
  s.done (s.runMw x (nanoAluR 14 15) (mwF0 0x01E d a b 0))

/-- R149: TST. -/
def execTst (x : CtxId) (a : Reg) (s : State) : Out :=
  s.done (s.runMw x (nanoAluR 0 5 0) (mwF0 0x01F 0 a 0 0))

/-- R149: CMPF. -/
def execCmpf (x : CtxId) (a b : Reg) (s : State) : Out :=
  s.done (s.runMw x (nanoAluR 2 15 0) (mwF0 0x020 0 a b 0))

/-- R150: MOVI. -/
def execMovi (x : CtxId) (d : Reg) (i : BitVec 12) (s : State) : Out :=
  s.done (s.runMw x (nanoAluI 15 0) (mwF1 0x028 d 0 i.toNat))

/-- R150: ADDI. -/
def execAddi (x : CtxId) (d a : Reg) (i : BitVec 12) (s : State) : Out :=
  s.done (s.runMw x (nanoAluI 1 15) (mwF1 0x029 d a i.toNat))

/-- R150: SUBI. -/
def execSubi (x : CtxId) (d a : Reg) (i : BitVec 12) (s : State) : Out :=
  s.done (s.runMw x (nanoAluI 2 15) (mwF1 0x02A d a i.toNat))

/-- R150: ANDI. -/
def execAndi (x : CtxId) (d a : Reg) (i : BitVec 12) (s : State) : Out :=
  s.done (s.runMw x (nanoAluI 3 5) (mwF1 0x02B d a i.toNat))

/-- R150: ORI. -/
def execOri (x : CtxId) (d a : Reg) (i : BitVec 12) (s : State) : Out :=
  s.done (s.runMw x (nanoAluI 4 5) (mwF1 0x02C d a i.toNat))

/-- R150: XORI. -/
def execXori (x : CtxId) (d a : Reg) (i : BitVec 12) (s : State) : Out :=
  s.done (s.runMw x (nanoAluI 5 5) (mwF1 0x02D d a i.toNat))

/-- R150: SHLI. -/
def execShli (x : CtxId) (d a : Reg) (i : BitVec 12) (s : State) : Out :=
  s.done (s.runMw x (nanoAluI 7 7) (mwF1 0x02E d a i.toNat))

/-- R150: SHRI. -/
def execShri (x : CtxId) (d a : Reg) (i : BitVec 12) (s : State) : Out :=
  s.done (s.runMw x (nanoAluI 8 7) (mwF1 0x02F d a i.toNat))

/-- R150: SARI. -/
def execSari (x : CtxId) (d a : Reg) (i : BitVec 12) (s : State) : Out :=
  s.done (s.runMw x (nanoAluI 9 7) (mwF1 0x030 d a i.toNat))

/-- R150: ROLI. -/
def execRoli (x : CtxId) (d a : Reg) (i : BitVec 12) (s : State) : Out :=
  s.done (s.runMw x (nanoAluI 10 5) (mwF1 0x031 d a i.toNat))

/-- R150: MINUI. -/
def execMinui (x : CtxId) (d a : Reg) (i : BitVec 12) (s : State) : Out :=
  s.done (s.runMw x (nanoAluI 11 5) (mwF1 0x032 d a i.toNat))

/-- R150: MAXUI. -/
def execMaxui (x : CtxId) (d a : Reg) (i : BitVec 12) (s : State) : Out :=
  s.done (s.runMw x (nanoAluI 12 5) (mwF1 0x033 d a i.toNat))

/-- R150: ADDSI. -/
def execAddsi (x : CtxId) (d a : Reg) (i : BitVec 12) (s : State) : Out :=
  s.done (s.runMw x (nanoAluI 1 15 1 2) (mwF1 0x034 d a i.toNat))

/-- R150: CMPFI. -/
def execCmpfi (x : CtxId) (a : Reg) (i : BitVec 12) (s : State) : Out :=
  s.done (s.runMw x (nanoAluI 2 15 0) (mwF1 0x035 0 a i.toNat))

/-- R150: SETHP. -/
def execSethp (x : CtxId) (a : Reg) (i : BitVec 12) (s : State) : Out :=
  s.done (s.runMw x (nanoAluI 1 0 3) (mwF1 0x03C 0 a i.toNat))

/-- R150: SETHPI. -/
def execSethpi (x : CtxId) (i : BitVec 12) (s : State) : Out :=
  s.done (s.runMw x (nanoAluI 15 0 3) (mwF1 0x03D 0 0 i.toNat))

/-- R151: MOVW. -/
def execMovw (x : CtxId) (d : Reg) (i : BitVec 16) (s : State) : Out :=
  s.done (s.runMw x (nanoWide 15 0 0 0) (mwF4 0x038 d i.toNat))

/-- R151: ORH. -/
def execOrh (x : CtxId) (d : Reg) (i : BitVec 16) (s : State) : Out :=
  s.done (s.runMw x (nanoWide 4 1 2 0) (mwF4 0x039 d i.toNat))

/-- R151: ADDW. -/
def execAddw (x : CtxId) (d : Reg) (i : BitVec 16) (s : State) : Out :=
  s.done (s.runMw x (nanoWide 1 1 0 15) (mwF4 0x03A d i.toNat))

/-- R151: MOVK. -/
def execMovk (x : CtxId) (k lane : Fin 4) (a : Reg) (s : State) : Out :=
  s.done (s.runMw x { dstsel := 2, lkkey := k.val, klane := lane.val, tailok := true } (mwF0 (0x040 + 4 * k.val + lane.val) 0 a 0 0))


/-! ### Extract and deposit (R152-R156) -/

/-- R152: EXT8. -/
def execExt8 (x : CtxId) (d : Reg) (off : BitVec 8) (s : State) : Out :=
  s.done (s.runMw x (nanoExt 0 8) (mwF2 0x050 d off.toNat 0))

/-- R152: EXT16. -/
def execExt16 (x : CtxId) (d : Reg) (off : BitVec 8) (s : State) : Out :=
  s.done (s.runMw x (nanoExt 0 16) (mwF2 0x051 d off.toNat 0))

/-- R152: EXT24. -/
def execExt24 (x : CtxId) (d : Reg) (off : BitVec 8) (s : State) : Out :=
  s.done (s.runMw x (nanoExt 0 24) (mwF2 0x052 d off.toNat 0))

/-- R152: EXT32. -/
def execExt32 (x : CtxId) (d : Reg) (off : BitVec 8) (s : State) : Out :=
  s.done (s.runMw x (nanoExt 0 32) (mwF2 0x053 d off.toNat 0))

/-- R152: EXTNH. -/
def execExtnh (x : CtxId) (d : Reg) (off : BitVec 8) (s : State) : Out :=
  s.done (s.runMw x (nanoExt 0 4) (mwF2 0x058 d off.toNat 0))

/-- R152: EXTNL. -/
def execExtnl (x : CtxId) (d : Reg) (off : BitVec 8) (s : State) : Out :=
  s.done (s.runMw x (nanoExt 4 4) (mwF2 0x059 d off.toNat 0))

/-- R152: EXT12. -/
def execExt12 (x : CtxId) (d : Reg) (off : BitVec 8) (s : State) : Out :=
  s.done (s.runMw x (nanoExt 4 12) (mwF2 0x05A d off.toNat 0))

/-- R152: EXT3. -/
def execExt3 (x : CtxId) (d : Reg) (off : BitVec 8) (s : State) : Out :=
  s.done (s.runMw x (nanoExt 0 3) (mwF2 0x05B d off.toNat 0))

/-- R152: EXT20. -/
def execExt20 (x : CtxId) (d : Reg) (off : BitVec 8) (s : State) : Out :=
  s.done (s.runMw x (nanoExt 0 20) (mwF2 0x05C d off.toNat 0))

/-- R152: EXT6. -/
def execExt6 (x : CtxId) (d : Reg) (off : BitVec 8) (s : State) : Out :=
  s.done (s.runMw x (nanoExt 0 6) (mwF2 0x05D d off.toNat 0))

/-- R152: EXT13. -/
def execExt13 (x : CtxId) (d : Reg) (off : BitVec 8) (s : State) : Out :=
  s.done (s.runMw x (nanoExt 3 13) (mwF2 0x05E d off.toNat 0))

/-- R153: EXTR8. -/
def execExtr8 (x : CtxId) (d a : Reg) (s : State) : Out :=
  s.done (s.runMw x (nanoExtReg 8) (mwF1 0x060 d a 0))

/-- R153: EXTR16. -/
def execExtr16 (x : CtxId) (d a : Reg) (s : State) : Out :=
  s.done (s.runMw x (nanoExtReg 16) (mwF1 0x061 d a 0))

/-- R153: EXTR32. -/
def execExtr32 (x : CtxId) (d a : Reg) (s : State) : Out :=
  s.done (s.runMw x (nanoExtReg 32) (mwF1 0x062 d a 0))

/-- R153: XMD8. -/
def execXmd8 (x : CtxId) (d : Reg) (off : BitVec 8) (s : State) : Out :=
  s.done (s.runMw x (nanoExtMd 8) (mwF2 0x064 d off.toNat 0))

/-- R153: XMD16. -/
def execXmd16 (x : CtxId) (d : Reg) (off : BitVec 8) (s : State) : Out :=
  s.done (s.runMw x (nanoExtMd 16) (mwF2 0x065 d off.toNat 0))

/-- R153: XMD32. -/
def execXmd32 (x : CtxId) (d : Reg) (off : BitVec 8) (s : State) : Out :=
  s.done (s.runMw x (nanoExtMd 32) (mwF2 0x066 d off.toNat 0))

/-- R153: XK32. -/
def execXk32 (x : CtxId) (k : Fin 4) (d : Reg) (off : BitVec 8) (s : State) : Out :=
  s.done (s.runMw x (nanoExtKey k.val) (mwF2 (0x068 + k.val) d off.toNat 0))

/-- R153: XTK32. -/
def execXtk32 (x : CtxId) (k lane : Fin 4) (off : BitVec 8) (s : State) : Out :=
  s.done (s.runMw x (nanoExtLane k.val lane.val 32) (mwF2 (0x070 + 4 * k.val + lane.val) 0 off.toNat 0))

/-- R153: XTK16. -/
def execXtk16 (x : CtxId) (k lane : Fin 4) (off : BitVec 8) (s : State) : Out :=
  s.done (s.runMw x (nanoExtLane k.val lane.val 16) (mwF2 (0x080 + 4 * k.val + lane.val) 0 off.toNat 0))

/-- R153: DEP8. -/
def execDep8 (x : CtxId) (a : Reg) (s : State) : Out :=
  s.done (s.runMw x (nanoDep 8) (mwF1 0x090 0 a 0))

/-- R153: DEP16. -/
def execDep16 (x : CtxId) (a : Reg) (s : State) : Out :=
  s.done (s.runMw x (nanoDep 16) (mwF1 0x091 0 a 0))

/-- R153: DEP32. -/
def execDep32 (x : CtxId) (a : Reg) (s : State) : Out :=
  s.done (s.runMw x (nanoDep 32) (mwF1 0x092 0 a 0))


/-! ### Compare and range (R157, R158) -/

/-- R157: CMP_EQ. -/
def execCmpEq (x : CtxId) (a b : Reg) (s : State) : Out :=
  s.done (s.runMw x (nanoCmp 1) (mwF0 0x0A0 0 a b 0))

/-- R157: CMP_NE. -/
def execCmpNe (x : CtxId) (a b : Reg) (s : State) : Out :=
  s.done (s.runMw x (nanoCmp 2) (mwF0 0x0A1 0 a b 0))

/-- R157: CMP_LTU. -/
def execCmpLtu (x : CtxId) (a b : Reg) (s : State) : Out :=
  s.done (s.runMw x (nanoCmp 3) (mwF0 0x0A2 0 a b 0))

/-- R157: CMP_LEU. -/
def execCmpLeu (x : CtxId) (a b : Reg) (s : State) : Out :=
  s.done (s.runMw x (nanoCmp 4) (mwF0 0x0A3 0 a b 0))

/-- R157: CMP_GTU. -/
def execCmpGtu (x : CtxId) (a b : Reg) (s : State) : Out :=
  s.done (s.runMw x (nanoCmp 5) (mwF0 0x0A4 0 a b 0))

/-- R157: CMP_GEU. -/
def execCmpGeu (x : CtxId) (a b : Reg) (s : State) : Out :=
  s.done (s.runMw x (nanoCmp 6) (mwF0 0x0A5 0 a b 0))

/-- R157: CMP_LT. -/
def execCmpLt (x : CtxId) (a b : Reg) (s : State) : Out :=
  s.done (s.runMw x (nanoCmp 7) (mwF0 0x0A6 0 a b 0))

/-- R157: CMP_LE. -/
def execCmpLe (x : CtxId) (a b : Reg) (s : State) : Out :=
  s.done (s.runMw x (nanoCmp 8) (mwF0 0x0A7 0 a b 0))

/-- R157: CMP_GT. -/
def execCmpGt (x : CtxId) (a b : Reg) (s : State) : Out :=
  s.done (s.runMw x (nanoCmp 9) (mwF0 0x0A8 0 a b 0))

/-- R157: CMP_GE. -/
def execCmpGe (x : CtxId) (a b : Reg) (s : State) : Out :=
  s.done (s.runMw x (nanoCmp 10) (mwF0 0x0A9 0 a b 0))

/-- R157: CMP_ANY. -/
def execCmpAny (x : CtxId) (a b : Reg) (s : State) : Out :=
  s.done (s.runMw x (nanoCmp 11) (mwF0 0x0AA 0 a b 0))

/-- R157: CMP_ALL. -/
def execCmpAll (x : CtxId) (a b : Reg) (s : State) : Out :=
  s.done (s.runMw x (nanoCmp 12) (mwF0 0x0AB 0 a b 0))

/-- R157: CMPI_EQ. -/
def execCmpiEq (x : CtxId) (a : Reg) (i : BitVec 12) (s : State) : Out :=
  s.done (s.runMw x (nanoCmpI 1) (mwF1 0x0B0 0 a i.toNat))

/-- R157: CMPI_NE. -/
def execCmpiNe (x : CtxId) (a : Reg) (i : BitVec 12) (s : State) : Out :=
  s.done (s.runMw x (nanoCmpI 2) (mwF1 0x0B1 0 a i.toNat))

/-- R157: CMPI_LTU. -/
def execCmpiLtu (x : CtxId) (a : Reg) (i : BitVec 12) (s : State) : Out :=
  s.done (s.runMw x (nanoCmpI 3) (mwF1 0x0B2 0 a i.toNat))

/-- R157: CMPI_LEU. -/
def execCmpiLeu (x : CtxId) (a : Reg) (i : BitVec 12) (s : State) : Out :=
  s.done (s.runMw x (nanoCmpI 4) (mwF1 0x0B3 0 a i.toNat))

/-- R157: CMPI_GTU. -/
def execCmpiGtu (x : CtxId) (a : Reg) (i : BitVec 12) (s : State) : Out :=
  s.done (s.runMw x (nanoCmpI 5) (mwF1 0x0B4 0 a i.toNat))

/-- R157: CMPI_GEU. -/
def execCmpiGeu (x : CtxId) (a : Reg) (i : BitVec 12) (s : State) : Out :=
  s.done (s.runMw x (nanoCmpI 6) (mwF1 0x0B5 0 a i.toNat))

/-- R157: CMPI_LT. -/
def execCmpiLt (x : CtxId) (a : Reg) (i : BitVec 12) (s : State) : Out :=
  s.done (s.runMw x (nanoCmpI 7) (mwF1 0x0B6 0 a i.toNat))

/-- R157: CMPI_LE. -/
def execCmpiLe (x : CtxId) (a : Reg) (i : BitVec 12) (s : State) : Out :=
  s.done (s.runMw x (nanoCmpI 8) (mwF1 0x0B7 0 a i.toNat))

/-- R157: CMPI_GT. -/
def execCmpiGt (x : CtxId) (a : Reg) (i : BitVec 12) (s : State) : Out :=
  s.done (s.runMw x (nanoCmpI 9) (mwF1 0x0B8 0 a i.toNat))

/-- R157: CMPI_GE. -/
def execCmpiGe (x : CtxId) (a : Reg) (i : BitVec 12) (s : State) : Out :=
  s.done (s.runMw x (nanoCmpI 10) (mwF1 0x0B9 0 a i.toNat))

/-- R157: CMPI_ANY. -/
def execCmpiAny (x : CtxId) (a : Reg) (i : BitVec 12) (s : State) : Out :=
  s.done (s.runMw x (nanoCmpI 11) (mwF1 0x0BA 0 a i.toNat))

/-- R157: CMPI_ALL. -/
def execCmpiAll (x : CtxId) (a : Reg) (i : BitVec 12) (s : State) : Out :=
  s.done (s.runMw x (nanoCmpI 12) (mwF1 0x0BB 0 a i.toNat))

/-- R158: RNG. -/
def execRng (x : CtxId) (p : Fin 64) (d a : Reg) (s : State) : Out :=
  s.done (s.runMw x { cmpop := 13, rcsel := p.val, cmpdst := 1, cmpbit := p.val % 32 } (mwF0 (0x0C0 + p.val) d a 0 0))


/-! ### Branch, loop and WAIT (R159) -/

/-- R159: BR. -/
def execBr (x : CtxId) (tgt : BitVec 14) (s : State) : Out :=
  s.done (s.runMw x (nanoBr 1) (mwF3 0x100 0 tgt.toNat))

/-- R159: BZ. -/
def execBz (x : CtxId) (tgt : BitVec 14) (s : State) : Out :=
  s.done (s.runMw x (nanoBr 2) (mwF3 0x101 0 tgt.toNat))

/-- R159: BNZ. -/
def execBnz (x : CtxId) (tgt : BitVec 14) (s : State) : Out :=
  s.done (s.runMw x (nanoBr 3) (mwF3 0x102 0 tgt.toNat))

/-- R159: BC. -/
def execBc (x : CtxId) (tgt : BitVec 14) (s : State) : Out :=
  s.done (s.runMw x (nanoBr 4) (mwF3 0x103 0 tgt.toNat))

/-- R159: BNC. -/
def execBnc (x : CtxId) (tgt : BitVec 14) (s : State) : Out :=
  s.done (s.runMw x (nanoBr 5) (mwF3 0x104 0 tgt.toNat))

/-- R159: BN. -/
def execBn (x : CtxId) (tgt : BitVec 14) (s : State) : Out :=
  s.done (s.runMw x (nanoBr 6) (mwF3 0x105 0 tgt.toNat))

/-- R159: BNN. -/
def execBnn (x : CtxId) (tgt : BitVec 14) (s : State) : Out :=
  s.done (s.runMw x (nanoBr 7) (mwF3 0x106 0 tgt.toNat))

/-- R159: BV. -/
def execBv (x : CtxId) (tgt : BitVec 14) (s : State) : Out :=
  s.done (s.runMw x (nanoBr 8) (mwF3 0x107 0 tgt.toNat))

/-- R159: BNV. -/
def execBnv (x : CtxId) (tgt : BitVec 14) (s : State) : Out :=
  s.done (s.runMw x (nanoBr 9) (mwF3 0x108 0 tgt.toNat))

/-- R159: BLT. -/
def execBlt (x : CtxId) (tgt : BitVec 14) (s : State) : Out :=
  s.done (s.runMw x (nanoBr 10) (mwF3 0x109 0 tgt.toNat))

/-- R159: BGE. -/
def execBge (x : CtxId) (tgt : BitVec 14) (s : State) : Out :=
  s.done (s.runMw x (nanoBr 11) (mwF3 0x10A 0 tgt.toNat))

/-- R159: BHI. -/
def execBhi (x : CtxId) (tgt : BitVec 14) (s : State) : Out :=
  s.done (s.runMw x (nanoBr 12) (mwF3 0x10B 0 tgt.toNat))

/-- R159: BLS. -/
def execBls (x : CtxId) (tgt : BitVec 14) (s : State) : Out :=
  s.done (s.runMw x (nanoBr 13) (mwF3 0x10C 0 tgt.toNat))

/-- R159: JR. -/
def execJr (x : CtxId) (n : Reg) (s : State) : Out :=
  s.done (s.runMw x (nanoBr 14) (mwF3 0x10D n 0))

/-- R116: LOOP. -/
def execLoop (x : CtxId) (count : BitVec 14) (aux : BitVec 6) (s : State) : Out :=
  s.done (s.runMw x (nanoLoop false) (mwF3 0x110 aux.toNat count.toNat))

/-- R116: LOOPR. -/
def execLoopr (x : CtxId) (n : Reg) (aux : BitVec 6) (s : State) : Out :=
  s.done (s.runMw x (nanoLoop true) (mwF3 0x111 aux.toNat n))

/-- R159: WAIT. -/
def execWait (x : CtxId) (mask : BitVec 4) (s : State) : Out :=
  s.done (s.runMw x { opf := 3, waitmw := true, tailok := true } (mwF3 0x112 0 mask.toNat))


/-! ### Lookups (R160-R164) -/

/-- R162: LPM4. -/
def execLpm4 (x : CtxId) (d a : Reg) (s : State) : Out :=
  s.done (s.runMw x (nanoLk 0 0 0) (mwF0 0x120 d a 0 0))

/-- R162: LBL. -/
def execLbl (x : CtxId) (d a : Reg) (s : State) : Out :=
  s.done (s.runMw x (nanoLk 2 0 0) (mwF0 0x125 d a 0 0))

/-- R162: NH. -/
def execNh (x : CtxId) (d a : Reg) (s : State) : Out :=
  s.done (s.runMw x (nanoLk 3 0 1) (mwF0 0x126 d a 0 0))

/-- R162: SESS. -/
def execSess (x : CtxId) (d a : Reg) (s : State) : Out :=
  s.done (s.runMw x (nanoLk 4 0 1) (mwF0 0x127 d a 0 0))

/-- R162: PVLAN. -/
def execPvlan (x : CtxId) (d a : Reg) (s : State) : Out :=
  s.done (s.runMw x (nanoLk 5 0 0) (mwF0 0x128 d a 0 0))

/-- R162: BD. -/
def execBd (x : CtxId) (d a : Reg) (s : State) : Out :=
  s.done (s.runMw x (nanoLk 6 0 0) (mwF0 0x129 d a 0 0))

/-- R222: L2. -/
def execL2 (x : CtxId) (d a : Reg) (s : State) : Out :=
  s.done (s.runMw x (nanoLk 7 1 0) (mwF0 0x12A d a 0 0))

/-- R162: LPM6. -/
def execLpm6 (x : CtxId) (k : Fin 4) (d : Reg) (s : State) : Out :=
  s.done (s.runMw x { nanoLk 1 2 0 with lkkey := k.val } (mwF0 (0x121 + k.val) d 0 0 0))

/-- R356: METER. -/
def execMeter (x : CtxId) (d a : Reg) (s : State) : Out :=
  s.done (s.runMw x (nanoLk 24 0 0 1) (mwF0 0x12B d a 0 0))

/-- R359: COUNT. -/
def execCount (x : CtxId) (d a : Reg) (s : State) : Out :=
  s.done (s.runMw x (nanoLk 25 0 2 3 true) (mwF0 0x12C d a 0 0))

/-- R290: SAMPLE. -/
def execSample (x : CtxId) (d a : Reg) (s : State) : Out :=
  s.done (s.runMw x (nanoLk 26 0 2 1 true) (mwF0 0x12D d a 0 0))

/-- R163: SRCH160. -/
def execSrch160 (x : CtxId) (p : Reg) (d a : Reg) (s : State) : Out :=
  s.done (s.runMw x (nanoSrch p.val 3 0) (mwF0 (0x130 + p.val) d a 0 0))

/-- R163: SRCH320. -/
def execSrch320 (x : CtxId) (p : Reg) (d a : Reg) (s : State) : Out :=
  s.done (s.runMw x (nanoSrch p.val 4 1) (mwF0 (0x140 + p.val) d a 0 0))

/-- R163: SRCH640. -/
def execSrch640 (x : CtxId) (p : Reg) (d a : Reg) (s : State) : Out :=
  s.done (s.runMw x (nanoSrch p.val 5 1) (mwF0 (0x150 + p.val) d a 0 0))


/-! ### Descriptor and metadata (R165, R166) -/

/-- R165: RDST1. -/
def execRdst1 (x : CtxId) (d : Reg) (off : BitVec 8) (s : State) : Out :=
  s.done (s.runMw x (nanoRdst 0) (mwF2 0x160 d off.toNat 0))

/-- R165: RDST2. -/
def execRdst2 (x : CtxId) (d : Reg) (off : BitVec 8) (s : State) : Out :=
  s.done (s.runMw x (nanoRdst 1) (mwF2 0x161 d off.toNat 0))

/-- R165: RDST4. -/
def execRdst4 (x : CtxId) (d : Reg) (off : BitVec 8) (s : State) : Out :=
  s.done (s.runMw x (nanoRdst 2) (mwF2 0x162 d off.toNat 0))

/-- R165: RDST8. -/
def execRdst8 (x : CtxId) (d : Reg) (off : BitVec 8) (s : State) : Out :=
  s.done (s.runMw x (nanoRdst 3) (mwF2 0x163 d off.toNat 0))

/-- R165: RDSTI1. -/
def execRdsti1 (x : CtxId) (off : BitVec 8) (i : BitVec 8) (s : State) : Out :=
  s.done (s.runMw x { nanoRdst 0 with asel := 0, aluop := 15, bsel := 1 } (mwF2 0x164 0 off.toNat i.toNat))

/-- R165: SETCOL. -/
def execSetcol (x : CtxId) (a : Reg) (s : State) : Out :=
  s.done (s.runMw x (nanoMd 1) (mwF0 0x168 0 a 0 0))

/-- R165: SETDP. -/
def execSetdp (x : CtxId) (a : Reg) (s : State) : Out :=
  s.done (s.runMw x (nanoMd 2) (mwF0 0x169 0 a 0 0))

/-- R165: SETUSR. -/
def execSetusr (x : CtxId) (n : Fin 4) (a : Reg) (s : State) : Out :=
  s.done (s.runMw x (nanoMd (3 + n.val)) (mwF0 (0x16A + n.val) 0 a 0 0))

/-- R165: SETCOLI. -/
def execSetcoli (x : CtxId) (i : BitVec 12) (s : State) : Out :=
  s.done (s.runMw x (nanoMdI 1) (mwF1 0x16E 0 0 i.toNat))

/-- R165: SETDPI. -/
def execSetdpi (x : CtxId) (i : BitVec 12) (s : State) : Out :=
  s.done (s.runMw x (nanoMdI 2) (mwF1 0x16F 0 0 i.toNat))


/-! ### MODE, COMMIT, END and DROP (R167-R169) -/

/-- R117: MODE. -/
def execMode (x : CtxId) (i : BitVec 12) (s : State) : Out :=
  s.done (s.runMw x { opf := 1, modeen := true, ctxok := 1 } (mwF1 0x180 0 0 i.toNat))

/-- R167: MODER. -/
def execModer (x : CtxId) (a : Reg) (i : BitVec 12) (s : State) : Out :=
  s.done (s.runMw x { opf := 1, modeen := true, modetidreg := true, ctxok := 1 } (mwF1 0x181 0 a i.toNat))

/-- R118: COMMIT. -/
def execCommit (x : CtxId) (s : State) : Out :=
  s.done (s.runMw x { opf := 3, commit := true, dslotok := false } (mwF3 0x184 0 0))

/-- R167: END. -/
def execEnd (x : CtxId) (s : State) : Out :=
  s.done (s.runMw x { opf := 3, fin := true, dslotok := false, tailok := true } (mwF3 0x185 0 0))

/-- R168: CMTEND. -/
def execCmtend (x : CtxId) (s : State) : Out :=
  s.done (s.runMw x { opf := 3, commit := true, fin := true, dslotok := false } (mwF3 0x186 0 0))

/-- R120: DROP. -/
def execDrop (x : CtxId) (s : State) : Out :=
  s.done (s.runMw x { opf := 3, drop := true, ctxok := 1, dslotok := false } (mwF3 0x187 0 0))


/-! ### Privileged (R170-R172) -/

/-- R170: TRD. -/
def execTrd (x : CtxId) (t : Fin 8) (d a : Reg) (s : State) : Out :=
  s.done (s.runMw x (nanoRaw t.val 0 0) (mwF0 (0x1C0 + t.val) d a 0 0))

/-- R170: TRD2. -/
def execTrd2 (x : CtxId) (t : Fin 8) (d a : Reg) (s : State) : Out :=
  s.done (s.runMw x (nanoRaw t.val 0 1) (mwF0 (0x1C8 + t.val) d a 0 0))

/-- R170: TWR. -/
def execTwr (x : CtxId) (t : Fin 8) (d a : Reg) (s : State) : Out :=
  s.done (s.runMw x (nanoRaw t.val 0 2) (mwF0 (0x1D0 + t.val) d a 0 0))

/-- R170: TWR2. -/
def execTwr2 (x : CtxId) (t : Fin 8) (d a : Reg) (s : State) : Out :=
  s.done (s.runMw x (nanoRaw t.val 2 2) (mwF0 (0x1D8 + t.val) d a 0 0))

/-- R130: SAFE. -/
def execSafe (x : CtxId) (s : State) : Out :=
  s.done (s.runMw x { opf := 3, priv := true, ctxok := 2, safe := true, dslotok := false } (mwF3 0x1E0 0 0))

/-- R130: YIELD. -/
def execYield (x : CtxId) (s : State) : Out :=
  s.done (s.runMw x { opf := 3, priv := true, ctxok := 2, yield := true } (mwF3 0x1E1 0 0))


/-! ### Customer nanowords and unassigned indices (R93, R94, R98, R102, R147) -/

/-- The nanowords of the base set from an index on: move and ALU (R148-R151). -/
def baseAlu : List (Nat × List Nano) :=
  [(0x000, [{ tailok := true }]),
   (0x010, [nanoAluR 0 0, nanoAluR 1 15, nanoAluR 2 15, nanoAluR 3 5, nanoAluR 4 5, nanoAluR 5 5, nanoAluR 6 5, nanoAluR 7 7,
     nanoAluR 8 7, nanoAluR 9 7, nanoAluR 10 5, nanoAluR 11 5, nanoAluR 12 5, nanoAluR 13 15, nanoAluR 14 15, nanoAluR 0 5 0,
     nanoAluR 2 15 0]),
   (0x028, [nanoAluI 15 0, nanoAluI 1 15, nanoAluI 2 15, nanoAluI 3 5, nanoAluI 4 5, nanoAluI 5 5, nanoAluI 7 7, nanoAluI 8 7,
     nanoAluI 9 7, nanoAluI 10 5, nanoAluI 11 5, nanoAluI 12 5, nanoAluI 1 15 1 2, nanoAluI 2 15 0]),
   (0x038, [nanoWide 15 0 0 0, nanoWide 4 1 2 0, nanoWide 1 1 0 15]),
   (0x03C, [nanoAluI 1 0 3, nanoAluI 15 0 3]),
   (0x040, (List.range 16).map fun j => { dstsel := 2, lkkey := j / 4, klane := j % 4, tailok := true })]

/-- Extract and deposit (R152, R153). -/
def baseExt : List (Nat × List Nano) :=
  [(0x050, [nanoExt 0 8, nanoExt 0 16, nanoExt 0 24, nanoExt 0 32]),
   (0x058, [nanoExt 0 4, nanoExt 4 4, nanoExt 4 12, nanoExt 0 3, nanoExt 0 20, nanoExt 0 6, nanoExt 3 13]),
   (0x060, [nanoExtReg 8, nanoExtReg 16, nanoExtReg 32]),
   (0x064, [nanoExtMd 8, nanoExtMd 16, nanoExtMd 32]),
   (0x068, (List.range 4).map nanoExtKey),
   (0x070, (List.range 16).map fun j => nanoExtLane (j / 4) (j % 4) 32),
   (0x080, (List.range 16).map fun j => nanoExtLane (j / 4) (j % 4) 16),
   (0x090, [nanoDep 8, nanoDep 16, nanoDep 32])]

/-- Compare, range, branch, loop and WAIT (R157-R159). -/
def baseFlow : List (Nat × List Nano) :=
  [(0x0A0, (List.range 12).map fun j => nanoCmp (j + 1)),
   (0x0B0, (List.range 12).map fun j => nanoCmpI (j + 1)),
   (0x0C0, (List.range 64).map fun p => { cmpop := 13, rcsel := p, cmpdst := 1, cmpbit := p % 32 }),
   (0x100, (List.range 14).map fun j => nanoBr (j + 1)),
   (0x110, [nanoLoop false, nanoLoop true, { opf := 3, waitmw := true, tailok := true }])]

/-- Lookups and searches (R160-R164). -/
def baseLookups : List (Nat × List Nano) :=
  [(0x120, [nanoLk 0 0 0]),
   (0x121, (List.range 4).map fun k => { nanoLk 1 2 0 with lkkey := k }),
   (0x125, [nanoLk 2 0 0, nanoLk 3 0 1, nanoLk 4 0 1, nanoLk 5 0 0, nanoLk 6 0 0, nanoLk 7 1 0, nanoLk 24 0 0 1,
     nanoLk 25 0 2 3 true, nanoLk 26 0 2 1 true]),
   (0x130, (List.range 16).map fun p => nanoSrch p 3 0),
   (0x140, (List.range 16).map fun p => nanoSrch p 4 1),
   (0x150, (List.range 16).map fun p => nanoSrch p 5 1)]

/-- Descriptor and metadata, MODE to DROP, and the privileged operations (R165-R172). -/
def baseEnds : List (Nat × List Nano) :=
  [(0x160, [nanoRdst 0, nanoRdst 1, nanoRdst 2, nanoRdst 3, { nanoRdst 0 with asel := 0, aluop := 15, bsel := 1 }]),
   (0x168, (List.range 6).map (fun j => nanoMd (j + 1)) ++ [nanoMdI 1, nanoMdI 2]),
   (0x180, [{ opf := 1, modeen := true, ctxok := 1 }, { opf := 1, modeen := true, modetidreg := true, ctxok := 1 }]),
   (0x184, [{ opf := 3, commit := true, dslotok := false }, { opf := 3, fin := true, dslotok := false, tailok := true },
     { opf := 3, commit := true, fin := true, dslotok := false }, { opf := 3, drop := true, ctxok := 1, dslotok := false }]),
   (0x1C0, (List.range 8).map fun t => nanoRaw t 0 0),
   (0x1C8, (List.range 8).map fun t => nanoRaw t 0 1),
   (0x1D0, (List.range 8).map fun t => nanoRaw t 0 2),
   (0x1D8, (List.range 8).map fun t => nanoRaw t 2 2),
   (0x1E0, [{ opf := 3, priv := true, ctxok := 2, safe := true, dslotok := false },
     { opf := 3, priv := true, ctxok := 2, yield := true }])]

/-- R93, R147: the nanoword of each base index; an unassigned one has CTXOK 0b00. -/
def baseNano (k : Nat) : Nano :=
  ((baseAlu ++ baseExt ++ baseFlow ++ baseLookups ++ baseEnds).findSome? fun (first, l) =>
    if first ≤ k then l[k - first]? else none).getD { ctxok := 0 }

/-- R93: the nanoword that MW[31:20] names: one of the base set, or what the store holds at a customer index. -/
def State.nanoAt (s : State) (x : CtxId) (mw : Word) : Nano :=
  let k := fld mw 20 12
  if k < 0x400 then baseNano k else nanoOf (s.entry (pupI x.slice) 1 k)

/-- A microword executes the fields of the nanoword that it names. -/
def execCustomerNanoword (x : CtxId) (mw : Word) (s : State) : Out := s.done (s.runMw x (s.nanoAt x mw) mw)

/-- R147: the base-set indices that hold an instruction. -/
def baseAssigned (k : Nat) : Bool :=
  k = 0 || (0x010 ≤ k && k ≤ 0x020) || (0x028 ≤ k && k ≤ 0x035) || (0x038 ≤ k && k ≤ 0x03A) || k = 0x03C || k = 0x03D
    || (0x040 ≤ k && k ≤ 0x053) || (0x058 ≤ k && k ≤ 0x05E) || (0x060 ≤ k && k ≤ 0x062) || (0x064 ≤ k && k ≤ 0x066)
    || (0x068 ≤ k && k ≤ 0x06B) || (0x070 ≤ k && k ≤ 0x08F) || (0x090 ≤ k && k ≤ 0x092) || (0x0A0 ≤ k && k ≤ 0x0AB)
    || (0x0B0 ≤ k && k ≤ 0x0BB) || (0x0C0 ≤ k && k ≤ 0x10D) || (0x110 ≤ k && k ≤ 0x112) || (0x120 ≤ k && k ≤ 0x12D)
    || (0x130 ≤ k && k ≤ 0x164) || (0x168 ≤ k && k ≤ 0x16F) || k = 0x180 || k = 0x181 || (0x184 ≤ k && k ≤ 0x187)
    || (0x1C0 ≤ k && k ≤ 0x1E1)

/-- An unassigned base index holds a nanoword whose CTXOK is 0b00. -/
def execUnassignedBaseNanoword (x : CtxId) (mw : Word) (s : State) : Out :=
  s.done (if 0x400 ≤ fld mw 20 12 || baseAssigned (fld mw 20 12) then s else s.runMw x { ctxok := 0 } mw)

end Sys2Proof.Machine
end

