-- ==== Sys2Proof/Machine/Dispatch.lean ====
section
/-! DEFINITION. The dispatch: one arm per command, each a direct call of its meaning. -/

namespace Sys2Proof.Machine

def exec (i : Instr) (s : State) : Host.Outcome State Fault Refusal :=
  match i with
  | .registerWrite fn addr v => Sys2Proof.Machine.execRegisterWrite fn addr v s
  | .readClear fn addr => Sys2Proof.Machine.execReadClear fn addr s
  | .heldAccessPerform => Sys2Proof.Machine.execHeldAccessPerform s
  | .wselWrite inst v => Sys2Proof.Machine.execWselWrite inst v s
  | .waddrWrite inst v => Sys2Proof.Machine.execWaddrWrite inst v s
  | .wdataRead inst => Sys2Proof.Machine.execWdataRead inst s
  | .wdataWrite inst v => Sys2Proof.Machine.execWdataWrite inst v s
  | .pllLock m pllB => Sys2Proof.Machine.execPllLock m pllB s
  | .pllLockLoss m pllB => Sys2Proof.Machine.execPllLockLoss m pllB s
  | .portEnable p v => Sys2Proof.Machine.execPortEnable p v s
  | .portDisable p v => Sys2Proof.Machine.execPortDisable p v s
  | .signalDetect p => Sys2Proof.Machine.execSignalDetect p s
  | .anComplete p => Sys2Proof.Machine.execAnComplete p s
  | .trainingComplete p => Sys2Proof.Machine.execTrainingComplete p s
  | .trainingTimeout p => Sys2Proof.Machine.execTrainingTimeout p s
  | .lockAchieved p => Sys2Proof.Machine.execLockAchieved p s
  | .lockTimeout p => Sys2Proof.Machine.execLockTimeout p s
  | .alignComplete p => Sys2Proof.Machine.execAlignComplete p s
  | .alignTimeout p => Sys2Proof.Machine.execAlignTimeout p s
  | .calComplete p rx tx => Sys2Proof.Machine.execCalComplete p rx tx s
  | .lossOfSignal lane => Sys2Proof.Machine.execLossOfSignal lane s
  | .faultSequenceStart p remote => Sys2Proof.Machine.execFaultSequenceStart p remote s
  | .faultSequenceEnd p => Sys2Proof.Machine.execFaultSequenceEnd p s
  | .fecCodeword p errs => Sys2Proof.Machine.execFecCodeword p errs s
  | .fecDegWindowEnd p => Sys2Proof.Machine.execFecDegWindowEnd p s
  | .frameReceiveStart p bytes => Sys2Proof.Machine.execFrameReceiveStart p bytes s
  | .frameReceiveEnd p bytes pcsErr => Sys2Proof.Machine.execFrameReceiveEnd p bytes pcsErr s
  | .absorptionRelease p parErr => Sys2Proof.Machine.execAbsorptionRelease p parErr s
  | .absrateWindowEnd m => Sys2Proof.Machine.execAbsrateWindowEnd m s
  | .frameSplit p => Sys2Proof.Machine.execFrameSplit p s
  | .lpiTxEntry p => Sys2Proof.Machine.execLpiTxEntry p s
  | .lpiRxEntry p => Sys2Proof.Machine.execLpiRxEntry p s
  | .lpiRxExit p => Sys2Proof.Machine.execLpiRxExit p s
  | .shedTimerExpiry p => Sys2Proof.Machine.execShedTimerExpiry p s
  | .frameTransmitStart p read => Sys2Proof.Machine.execFrameTransmitStart p read s
  | .frameTransmitEnd p => Sys2Proof.Machine.execFrameTransmitEnd p s
  | .packetAssign sl => Sys2Proof.Machine.execPacketAssign sl s
  | .packetRestart sl => Sys2Proof.Machine.execPacketRestart sl s
  | .watchdogExpiry x => Sys2Proof.Machine.execWatchdogExpiry x s
  | .hkWatchdogExpiry x => Sys2Proof.Machine.execHkWatchdogExpiry x s
  | .lookupResult x tag busError => Sys2Proof.Machine.execLookupResult x tag busError s
  | .lookupTimeout x tag => Sys2Proof.Machine.execLookupTimeout x tag s
  | .storeRepairComplete sl => Sys2Proof.Machine.execStoreRepairComplete sl s
  | .pupScrubCheck sl nano idx => Sys2Proof.Machine.execPupScrubCheck sl nano idx s
  | .ebankWrite inst v => Sys2Proof.Machine.execEbankWrite inst v s
  | .runWrite inst v => Sys2Proof.Machine.execRunWrite inst v s
  | .parityInjectNw inst v => Sys2Proof.Machine.execParityInjectNw inst v s
  | .parityInjectMw inst v => Sys2Proof.Machine.execParityInjectMw inst v s
  | .hkRoutineResume sl pup forced => Sys2Proof.Machine.execHkRoutineResume sl pup forced s
  | .nop x => Sys2Proof.Machine.execNop x s
  | .mov x d a => Sys2Proof.Machine.execMov x d a s
  | .add x d a b => Sys2Proof.Machine.execAdd x d a b s
  | .sub x d a b => Sys2Proof.Machine.execSub x d a b s
  | .and x d a b => Sys2Proof.Machine.execAnd x d a b s
  | .or x d a b => Sys2Proof.Machine.execOr x d a b s
  | .xor x d a b => Sys2Proof.Machine.execXor x d a b s
  | .andn x d a b => Sys2Proof.Machine.execAndn x d a b s
  | .shl x d a b => Sys2Proof.Machine.execShl x d a b s
  | .shr x d a b => Sys2Proof.Machine.execShr x d a b s
  | .sar x d a b => Sys2Proof.Machine.execSar x d a b s
  | .rol x d a b => Sys2Proof.Machine.execRol x d a b s
  | .minu x d a b => Sys2Proof.Machine.execMinu x d a b s
  | .maxu x d a b => Sys2Proof.Machine.execMaxu x d a b s
  | .adc x d a b => Sys2Proof.Machine.execAdc x d a b s
  | .sbc x d a b => Sys2Proof.Machine.execSbc x d a b s
  | .tst x a => Sys2Proof.Machine.execTst x a s
  | .cmpf x a b => Sys2Proof.Machine.execCmpf x a b s
  | .movi x d imm => Sys2Proof.Machine.execMovi x d imm s
  | .addi x d a imm => Sys2Proof.Machine.execAddi x d a imm s
  | .subi x d a imm => Sys2Proof.Machine.execSubi x d a imm s
  | .andi x d a imm => Sys2Proof.Machine.execAndi x d a imm s
  | .ori x d a imm => Sys2Proof.Machine.execOri x d a imm s
  | .xori x d a imm => Sys2Proof.Machine.execXori x d a imm s
  | .shli x d a imm => Sys2Proof.Machine.execShli x d a imm s
  | .shri x d a imm => Sys2Proof.Machine.execShri x d a imm s
  | .sari x d a imm => Sys2Proof.Machine.execSari x d a imm s
  | .roli x d a imm => Sys2Proof.Machine.execRoli x d a imm s
  | .minui x d a imm => Sys2Proof.Machine.execMinui x d a imm s
  | .maxui x d a imm => Sys2Proof.Machine.execMaxui x d a imm s
  | .addsi x d a imm => Sys2Proof.Machine.execAddsi x d a imm s
  | .cmpfi x a imm => Sys2Proof.Machine.execCmpfi x a imm s
  | .sethp x a imm => Sys2Proof.Machine.execSethp x a imm s
  | .sethpi x imm => Sys2Proof.Machine.execSethpi x imm s
  | .movw x d imm => Sys2Proof.Machine.execMovw x d imm s
  | .orh x d imm => Sys2Proof.Machine.execOrh x d imm s
  | .addw x d imm => Sys2Proof.Machine.execAddw x d imm s
  | .movk x k lane a => Sys2Proof.Machine.execMovk x k lane a s
  | .ext8 x d off => Sys2Proof.Machine.execExt8 x d off s
  | .ext16 x d off => Sys2Proof.Machine.execExt16 x d off s
  | .ext24 x d off => Sys2Proof.Machine.execExt24 x d off s
  | .ext32 x d off => Sys2Proof.Machine.execExt32 x d off s
  | .extnh x d off => Sys2Proof.Machine.execExtnh x d off s
  | .extnl x d off => Sys2Proof.Machine.execExtnl x d off s
  | .ext12 x d off => Sys2Proof.Machine.execExt12 x d off s
  | .ext3 x d off => Sys2Proof.Machine.execExt3 x d off s
  | .ext20 x d off => Sys2Proof.Machine.execExt20 x d off s
  | .ext6 x d off => Sys2Proof.Machine.execExt6 x d off s
  | .ext13 x d off => Sys2Proof.Machine.execExt13 x d off s
  | .extr8 x d a => Sys2Proof.Machine.execExtr8 x d a s
  | .extr16 x d a => Sys2Proof.Machine.execExtr16 x d a s
  | .extr32 x d a => Sys2Proof.Machine.execExtr32 x d a s
  | .xmd8 x d off => Sys2Proof.Machine.execXmd8 x d off s
  | .xmd16 x d off => Sys2Proof.Machine.execXmd16 x d off s
  | .xmd32 x d off => Sys2Proof.Machine.execXmd32 x d off s
  | .xk32 x k d off => Sys2Proof.Machine.execXk32 x k d off s
  | .xtk32 x k lane off => Sys2Proof.Machine.execXtk32 x k lane off s
  | .xtk16 x k lane off => Sys2Proof.Machine.execXtk16 x k lane off s
  | .dep8 x a => Sys2Proof.Machine.execDep8 x a s
  | .dep16 x a => Sys2Proof.Machine.execDep16 x a s
  | .dep32 x a => Sys2Proof.Machine.execDep32 x a s
  | .cmpEq x a b => Sys2Proof.Machine.execCmpEq x a b s
  | .cmpNe x a b => Sys2Proof.Machine.execCmpNe x a b s
  | .cmpLtu x a b => Sys2Proof.Machine.execCmpLtu x a b s
  | .cmpLeu x a b => Sys2Proof.Machine.execCmpLeu x a b s
  | .cmpGtu x a b => Sys2Proof.Machine.execCmpGtu x a b s
  | .cmpGeu x a b => Sys2Proof.Machine.execCmpGeu x a b s
  | .cmpLt x a b => Sys2Proof.Machine.execCmpLt x a b s
  | .cmpLe x a b => Sys2Proof.Machine.execCmpLe x a b s
  | .cmpGt x a b => Sys2Proof.Machine.execCmpGt x a b s
  | .cmpGe x a b => Sys2Proof.Machine.execCmpGe x a b s
  | .cmpAny x a b => Sys2Proof.Machine.execCmpAny x a b s
  | .cmpAll x a b => Sys2Proof.Machine.execCmpAll x a b s
  | .cmpiEq x a imm => Sys2Proof.Machine.execCmpiEq x a imm s
  | .cmpiNe x a imm => Sys2Proof.Machine.execCmpiNe x a imm s
  | .cmpiLtu x a imm => Sys2Proof.Machine.execCmpiLtu x a imm s
  | .cmpiLeu x a imm => Sys2Proof.Machine.execCmpiLeu x a imm s
  | .cmpiGtu x a imm => Sys2Proof.Machine.execCmpiGtu x a imm s
  | .cmpiGeu x a imm => Sys2Proof.Machine.execCmpiGeu x a imm s
  | .cmpiLt x a imm => Sys2Proof.Machine.execCmpiLt x a imm s
  | .cmpiLe x a imm => Sys2Proof.Machine.execCmpiLe x a imm s
  | .cmpiGt x a imm => Sys2Proof.Machine.execCmpiGt x a imm s
  | .cmpiGe x a imm => Sys2Proof.Machine.execCmpiGe x a imm s
  | .cmpiAny x a imm => Sys2Proof.Machine.execCmpiAny x a imm s
  | .cmpiAll x a imm => Sys2Proof.Machine.execCmpiAll x a imm s
  | .rng x p d a => Sys2Proof.Machine.execRng x p d a s
  | .br x tgt => Sys2Proof.Machine.execBr x tgt s
  | .bz x tgt => Sys2Proof.Machine.execBz x tgt s
  | .bnz x tgt => Sys2Proof.Machine.execBnz x tgt s
  | .bc x tgt => Sys2Proof.Machine.execBc x tgt s
  | .bnc x tgt => Sys2Proof.Machine.execBnc x tgt s
  | .bn x tgt => Sys2Proof.Machine.execBn x tgt s
  | .bnn x tgt => Sys2Proof.Machine.execBnn x tgt s
  | .bv x tgt => Sys2Proof.Machine.execBv x tgt s
  | .bnv x tgt => Sys2Proof.Machine.execBnv x tgt s
  | .blt x tgt => Sys2Proof.Machine.execBlt x tgt s
  | .bge x tgt => Sys2Proof.Machine.execBge x tgt s
  | .bhi x tgt => Sys2Proof.Machine.execBhi x tgt s
  | .bls x tgt => Sys2Proof.Machine.execBls x tgt s
  | .jr x n => Sys2Proof.Machine.execJr x n s
  | .loop x count aux => Sys2Proof.Machine.execLoop x count aux s
  | .loopr x n aux => Sys2Proof.Machine.execLoopr x n aux s
  | .wait x mask => Sys2Proof.Machine.execWait x mask s
  | .lpm4 x d a => Sys2Proof.Machine.execLpm4 x d a s
  | .lpm6 x k d => Sys2Proof.Machine.execLpm6 x k d s
  | .lbl x d a => Sys2Proof.Machine.execLbl x d a s
  | .nh x d a => Sys2Proof.Machine.execNh x d a s
  | .sess x d a => Sys2Proof.Machine.execSess x d a s
  | .pvlan x d a => Sys2Proof.Machine.execPvlan x d a s
  | .bd x d a => Sys2Proof.Machine.execBd x d a s
  | .l2 x d a => Sys2Proof.Machine.execL2 x d a s
  | .meter x d a => Sys2Proof.Machine.execMeter x d a s
  | .count x d a => Sys2Proof.Machine.execCount x d a s
  | .sample x d a => Sys2Proof.Machine.execSample x d a s
  | .srch160 x p d a => Sys2Proof.Machine.execSrch160 x p d a s
  | .srch320 x p d a => Sys2Proof.Machine.execSrch320 x p d a s
  | .srch640 x p d a => Sys2Proof.Machine.execSrch640 x p d a s
  | .rdst1 x d off => Sys2Proof.Machine.execRdst1 x d off s
  | .rdst2 x d off => Sys2Proof.Machine.execRdst2 x d off s
  | .rdst4 x d off => Sys2Proof.Machine.execRdst4 x d off s
  | .rdst8 x d off => Sys2Proof.Machine.execRdst8 x d off s
  | .rdsti1 x off imm => Sys2Proof.Machine.execRdsti1 x off imm s
  | .setcol x a => Sys2Proof.Machine.execSetcol x a s
  | .setdp x a => Sys2Proof.Machine.execSetdp x a s
  | .setusr x n a => Sys2Proof.Machine.execSetusr x n a s
  | .setcoli x imm => Sys2Proof.Machine.execSetcoli x imm s
  | .setdpi x imm => Sys2Proof.Machine.execSetdpi x imm s
  | .mode x imm => Sys2Proof.Machine.execMode x imm s
  | .moder x a imm => Sys2Proof.Machine.execModer x a imm s
  | .commit x => Sys2Proof.Machine.execCommit x s
  | .end_ x => Sys2Proof.Machine.execEnd x s
  | .cmtend x => Sys2Proof.Machine.execCmtend x s
  | .drop x => Sys2Proof.Machine.execDrop x s
  | .trd x t d a => Sys2Proof.Machine.execTrd x t d a s
  | .trd2 x t d a => Sys2Proof.Machine.execTrd2 x t d a s
  | .twr x t d a => Sys2Proof.Machine.execTwr x t d a s
  | .twr2 x t d a => Sys2Proof.Machine.execTwr2 x t d a s
  | .safe x => Sys2Proof.Machine.execSafe x s
  | .yield x => Sys2Proof.Machine.execYield x s
  | .customerNanoword x mw => Sys2Proof.Machine.execCustomerNanoword x mw s
  | .descriptorRelease sl lp => Sys2Proof.Machine.execDescriptorRelease sl lp s
  | .robTimeout sl lp => Sys2Proof.Machine.execRobTimeout sl lp s
  | .routeAdd4 sl a0 a1 a2 => Sys2Proof.Machine.execRouteAdd4 sl a0 a1 a2 s
  | .routeDel4 sl a0 a1 => Sys2Proof.Machine.execRouteDel4 sl a0 a1 s
  | .routeAdd6 sl a0 a1 a2 a3 a4 a5 => Sys2Proof.Machine.execRouteAdd6 sl a0 a1 a2 a3 a4 a5 s
  | .routeDel6 sl a0 a1 a2 a3 a4 => Sys2Proof.Machine.execRouteDel6 sl a0 a1 a2 a3 a4 s
  | .l2Insert sl a0 a1 a2 a3 => Sys2Proof.Machine.execL2Insert sl a0 a1 a2 a3 s
  | .l2Delete sl a0 a1 => Sys2Proof.Machine.execL2Delete sl a0 a1 s
  | .l2Agedel sl a0 => Sys2Proof.Machine.execL2Agedel sl a0 s
  | .fwdOpComplete sl => Sys2Proof.Machine.execFwdOpComplete sl s
  | .trieNodeFree sl => Sys2Proof.Machine.execTrieNodeFree sl s
  | .l2RefreshWrite sl => Sys2Proof.Machine.execL2RefreshWrite sl s
  | .pendingFilterExpiry sl => Sys2Proof.Machine.execPendingFilterExpiry sl s
  | .learnQueueToFifo sl => Sys2Proof.Machine.execLearnQueueToFifo sl s
  | .ageClockTick sl => Sys2Proof.Machine.execAgeClockTick sl s
  | .asaPartitionWrite inst part v => Sys2Proof.Machine.execAsaPartitionWrite inst part v s
  | .asaRowRewrite sl => Sys2Proof.Machine.execAsaRowRewrite sl s
  | .asaScrubRow sl row shadow => Sys2Proof.Machine.execAsaScrubRow sl row shadow s
  | .frameRewrite sl read => Sys2Proof.Machine.execFrameRewrite sl read s
  | .configSignatureRecompute inst => Sys2Proof.Machine.execConfigSignatureRecompute inst s
  | .descriptorResolve sl parErr => Sys2Proof.Machine.execDescriptorResolve sl parErr s
  | .headerCaptureWrite read => Sys2Proof.Machine.execHeaderCaptureWrite read s
  | .copyAdmit sl => Sys2Proof.Machine.execCopyAdmit sl s
  | .fabricCellCross l read => Sys2Proof.Machine.execFabricCellCross l read s
  | .fabricCellReceive l crcOk => Sys2Proof.Machine.execFabricCellReceive l crcOk s
  | .fabricRetrainComplete l ok => Sys2Proof.Machine.execFabricRetrainComplete l ok s
  | .copySpill sl read => Sys2Proof.Machine.execCopySpill sl read s
  | .spillWriteComplete sl => Sys2Proof.Machine.execSpillWriteComplete sl s
  | .drainReadback sl q => Sys2Proof.Machine.execDrainReadback sl q s
  | .drainReadComplete sl ecc block dev => Sys2Proof.Machine.execDrainReadComplete sl ecc block dev s
  | .sharedPoolConfigWrite inst f v => Sys2Proof.Machine.execSharedPoolConfigWrite inst f v s
  | .hrcfgEnable v => Sys2Proof.Machine.execHrcfgEnable v s
  | .retrieverSweepEnd sl => Sys2Proof.Machine.execRetrieverSweepEnd sl s
  | .puntDeliver read => Sys2Proof.Machine.execPuntDeliver read s
  | .freeDescriptorPrefetch ring addr cls => Sys2Proof.Machine.execFreeDescriptorPrefetch ring addr cls s
  | .injectFetch ring desc frame => Sys2Proof.Machine.execInjectFetch ring desc frame s
  | .dimmDescribe ch d v => Sys2Proof.Machine.execDimmDescribe ch d v s
  | .trainingStart ch v => Sys2Proof.Machine.execTrainingStart ch v s
  | .ddrTrainingComplete ch ms fullRun lanes => Sys2Proof.Machine.execDdrTrainingComplete ch ms fullRun lanes s
  | .channelEnable ch v => Sys2Proof.Machine.execChannelEnable ch v s
  | .channelDisable ch v => Sys2Proof.Machine.execChannelDisable ch v s
  | .memberWrite ch v => Sys2Proof.Machine.execMemberWrite ch v s
  | .bpmEnable inst v => Sys2Proof.Machine.execBpmEnable inst v s
  | .caParityAlert ch persists => Sys2Proof.Machine.execCaParityAlert ch persists s
  | .mr4Poll ch rank above85 hot => Sys2Proof.Machine.execMr4Poll ch rank above85 hot s
  | .refreshIssue ch rank => Sys2Proof.Machine.execRefreshIssue ch rank s
  | .dramActivate ch port prank lrank bg bank row => Sys2Proof.Machine.execDramActivate ch port prank lrank bg bank row s
  | .heelHoldExpiry ch port => Sys2Proof.Machine.execHeelHoldExpiry ch port s
  | .heelWindowClear ch rank => Sys2Proof.Machine.execHeelWindowClear ch rank s
  | .deepScrubBlock ch ecc block dev last => Sys2Proof.Machine.execDeepScrubBlock ch ecc block dev last s
  | .hpprRequest ch v => Sys2Proof.Machine.execHpprRequest ch v s
  | .hpprComplete ch spare => Sys2Proof.Machine.execHpprComplete ch spare s
  | .spprApply ch spare => Sys2Proof.Machine.execSpprApply ch spare s
  | .rankSelfRefreshEntry ch rank => Sys2Proof.Machine.execRankSelfRefreshEntry ch rank s
  | .rankMpsmEntry ch rank => Sys2Proof.Machine.execRankMpsmEntry ch rank s
  | .rankWake ch rank => Sys2Proof.Machine.execRankWake ch rank s
  | .compactionMove sl ecc block dev drained last => Sys2Proof.Machine.execCompactionMove sl ecc block dev drained last s
  | .copyDequeue p => Sys2Proof.Machine.execCopyDequeue p s
  | .energyRefill sl => Sys2Proof.Machine.execEnergyRefill sl s
  | .subscriberNodeWrite inst node w => Sys2Proof.Machine.execSubscriberNodeWrite inst node w s
  | .serviceNodeWrite inst node w => Sys2Proof.Machine.execServiceNodeWrite inst node w s
  | .meterConfigWrite inst m w => Sys2Proof.Machine.execMeterConfigWrite inst m w s
  | .gateConfigWrite inst lp entry w => Sys2Proof.Machine.execGateConfigWrite inst lp entry w s
  | .gateEnable inst lp w2 => Sys2Proof.Machine.execGateEnable inst lp w2 s
  | .gateEntryChange p => Sys2Proof.Machine.execGateEntryChange p s
  | .countRequestApply sl => Sys2Proof.Machine.execCountRequestApply sl s
  | .queueSampleRecord sl late => Sys2Proof.Machine.execQueueSampleRecord sl late s
  | .samplerEnable inst v => Sys2Proof.Machine.execSamplerEnable inst v s
  | .sensorSample sl idx temp => Sys2Proof.Machine.execSensorSample sl idx temp s
  | .governorTick => Sys2Proof.Machine.execGovernorTick s
  | .dvfsCompute sl => Sys2Proof.Machine.execDvfsCompute sl s
  | .levelChangeComplete sl ok => Sys2Proof.Machine.execLevelChangeComplete sl ok s
  | .dozeEntry sl => Sys2Proof.Machine.execDozeEntry sl s
  | .napEntry sl => Sys2Proof.Machine.execNapEntry sl s
  | .deepEntry sl => Sys2Proof.Machine.execDeepEntry sl s
  | .wakeComplete sl => Sys2Proof.Machine.execWakeComplete sl s
  | .hkTaskStart sl task forced => Sys2Proof.Machine.execHkTaskStart sl task forced s
  | .sprintBinUpdate => Sys2Proof.Machine.execSprintBinUpdate s
  | .droopDetect sl => Sys2Proof.Machine.execDroopDetect sl s
  | .droopRecover sl => Sys2Proof.Machine.execDroopRecover sl s
  | .droopLongEnd sl => Sys2Proof.Machine.execDroopLongEnd sl s
  | .plantWindow volts => Sys2Proof.Machine.execPlantWindow volts s
  | .pmbAlert asserted => Sys2Proof.Machine.execPmbAlert asserted s
  | .stageFall => Sys2Proof.Machine.execStageFall s
  | .stageForceWrite v => Sys2Proof.Machine.execStageForceWrite v s
  | .stageThresholdWrite k v => Sys2Proof.Machine.execStageThresholdWrite k v s
  | .s5DrainEnd => Sys2Proof.Machine.execS5DrainEnd s
  | .s6Halt => Sys2Proof.Machine.execS6Halt s
  | .s6Release => Sys2Proof.Machine.execS6Release s
  | .freqCommit v => Sys2Proof.Machine.execFreqCommit v s
  | .offsetWrite v => Sys2Proof.Machine.execOffsetWrite v s
  | .stepWrite v => Sys2Proof.Machine.execStepWrite v s
  | .timeArm fn => Sys2Proof.Machine.execTimeArm fn s
  | .armExpiry => Sys2Proof.Machine.execArmExpiry s
  | .armCancel v => Sys2Proof.Machine.execArmCancel v s
  | .timeLatchRead => Sys2Proof.Machine.execTimeLatchRead s
  | .toutArm n v => Sys2Proof.Machine.execToutArm n v s
  | .toutPulse n => Sys2Proof.Machine.execToutPulse n s
  | .toutPulseEnd n => Sys2Proof.Machine.execToutPulseEnd n s
  | .ppsOutPulse => Sys2Proof.Machine.execPpsOutPulse s
  | .ppsOutPulseEnd => Sys2Proof.Machine.execPpsOutPulseEnd s
  | .tinEdge n rising => Sys2Proof.Machine.execTinEdge n rising s
  | .captureRead n => Sys2Proof.Machine.execCaptureRead n s
  | .snapArm v => Sys2Proof.Machine.execSnapArm v s
  | .snapCompareFire => Sys2Proof.Machine.execSnapCompareFire s
  | .recoveredClockResume c => Sys2Proof.Machine.execRecoveredClockResume c s
  | .ksetWrite v => Sys2Proof.Machine.execKsetWrite v s
  | .kennelTimeFollow => Sys2Proof.Machine.execKennelTimeFollow s
  | .keyLoad fn blob => Sys2Proof.Machine.execKeyLoad fn blob s
  | .keyLoadApply slot => Sys2Proof.Machine.execKeyLoadApply slot s
  | .keyClear fn => Sys2Proof.Machine.execKeyClear fn s
  | .macGen fn msg => Sys2Proof.Machine.execMacGen fn msg s
  | .macVerify fn msg => Sys2Proof.Machine.execMacVerify fn msg s
  | .kceRequestComplete core keyPar writable => Sys2Proof.Machine.execKceRequestComplete core keyPar writable s
  | .messageResume core => Sys2Proof.Machine.execMessageResume core s
  | .kennelMarkWriteComplete slot => Sys2Proof.Machine.execKennelMarkWriteComplete slot s
  | .kennelMarkTimeout slot => Sys2Proof.Machine.execKennelMarkTimeout slot s
  | .commandFetch fn cmd => Sys2Proof.Machine.execCommandFetch fn cmd s
  | .commandCompletionWrite fn => Sys2Proof.Machine.execCommandCompletionWrite fn s
  | .kccNop fn => Sys2Proof.Machine.execKccNop fn s
  | .tblWrite fn data => Sys2Proof.Machine.execTblWrite fn data s
  | .tblRead fn writable => Sys2Proof.Machine.execTblRead fn writable s
  | .fwdOp fn => Sys2Proof.Machine.execFwdOp fn s
  | .batchOpen fn => Sys2Proof.Machine.execBatchOpen fn s
  | .batchCommit fn => Sys2Proof.Machine.execBatchCommit fn s
  | .batchAbort fn => Sys2Proof.Machine.execBatchAbort fn s
  | .commitVersion fn => Sys2Proof.Machine.execCommitVersion fn s
  | .imageLoad fn image => Sys2Proof.Machine.execImageLoad fn image s
  | .imageLoadVerify keyPar => Sys2Proof.Machine.execImageLoadVerify keyPar s
  | .deepRead fn ecc block dev writable => Sys2Proof.Machine.execDeepRead fn ecc block dev writable s
  | .deepWrite fn data => Sys2Proof.Machine.execDeepWrite fn data s
  | .flashRead fn data writable => Sys2Proof.Machine.execFlashRead fn data writable s
  | .flashWrite fn data => Sys2Proof.Machine.execFlashWrite fn data s
  | .flashErase fn => Sys2Proof.Machine.execFlashErase fn s
  | .tenantMapWrite tid w => Sys2Proof.Machine.execTenantMapWrite tid w s
  | .functionLevelReset fn => Sys2Proof.Machine.execFunctionLevelReset fn s
  | .pcieLinkLoss => Sys2Proof.Machine.execPcieLinkLoss s
  | .ltssmStart => Sys2Proof.Machine.execLtssmStart s
  | .fifoItemPost f => Sys2Proof.Machine.execFifoItemPost f s
  | .fifoRead f => Sys2Proof.Machine.execFifoRead f s
  | .twoWireRead ptr n => Sys2Proof.Machine.execTwoWireRead ptr n s
  | .twoWireWrite ptr bytes => Sys2Proof.Machine.execTwoWireWrite ptr bytes s
  | .setgo v => Sys2Proof.Machine.execSetgo v s
  | .kennelAck v => Sys2Proof.Machine.execKennelAck v s
  | .knlCtrlAck v => Sys2Proof.Machine.execKnlCtrlAck v s
  | .faultDetect src group => Sys2Proof.Machine.execFaultDetect src group s
  | .conditionRedetect src => Sys2Proof.Machine.execConditionRedetect src s
  | .barkPulseEnd => Sys2Proof.Machine.execBarkPulseEnd s
  | .muzzleForce v => Sys2Proof.Machine.execMuzzleForce v s
  | .muzzleRelease v => Sys2Proof.Machine.execMuzzleRelease v s
  | .blockResetRequest v => Sys2Proof.Machine.execBlockResetRequest v s
  | .blockResetEnd target group => Sys2Proof.Machine.execBlockResetEnd target group s
  | .chipResetRequest v => Sys2Proof.Machine.execChipResetRequest v s
  | .snapFireWrite v => Sys2Proof.Machine.execSnapFireWrite v s
  | .snapInEdge => Sys2Proof.Machine.execSnapInEdge s
  | .snapOutEnd => Sys2Proof.Machine.execSnapOutEnd s
  | .snapshotCopyComplete => Sys2Proof.Machine.execSnapshotCopyComplete s
  | .snapBankFree v => Sys2Proof.Machine.execSnapBankFree v s
  | .statusFreezeRead => Sys2Proof.Machine.execStatusFreezeRead s
  | .statusThawRead => Sys2Proof.Machine.execStatusThawRead s
  | .vkeepRise => Sys2Proof.Machine.execVkeepRise s
  | .vkeepLoss => Sys2Proof.Machine.execVkeepLoss s
  | .vaonRemove => Sys2Proof.Machine.execVaonRemove s
  | .porstNAssert => Sys2Proof.Machine.execPorstNAssert s
  | .porstNRelease straps => Sys2Proof.Machine.execPorstNRelease straps s
  | .sysrstNAssert => Sys2Proof.Machine.execSysrstNAssert s
  | .sysrstNRelease => Sys2Proof.Machine.execSysrstNRelease s
  | .perstNAssert => Sys2Proof.Machine.execPerstNAssert s
  | .perstNRelease => Sys2Proof.Machine.execPerstNRelease s
  | .fuseLoadComplete rootOk => Sys2Proof.Machine.execFuseLoadComplete rootOk s
  | .flashBootReadDone flash => Sys2Proof.Machine.execFlashBootReadDone flash s
  | .selfTestComplete failed => Sys2Proof.Machine.execSelfTestComplete failed s
  | .laneCalibrationComplete => Sys2Proof.Machine.execLaneCalibrationComplete s
  | .avsbusTakeover => Sys2Proof.Machine.execAvsbusTakeover s
  | .xtalFail => Sys2Proof.Machine.execXtalFail s
  | .xtalReturn => Sys2Proof.Machine.execXtalReturn s
  | .vaonRise => Sys2Proof.Machine.execVaonRise s
  | .pcieLinkUp speed width => Sys2Proof.Machine.execPcieLinkUp speed width s
  | .slewComplete => Sys2Proof.Machine.execSlewComplete s
  | .configurationRequest fn req => Sys2Proof.Machine.execConfigurationRequest fn req s
  | .registerRead fn addr => Sys2Proof.Machine.execRegisterRead fn addr s
  | .unassignedBaseNanoword x mw => Sys2Proof.Machine.execUnassignedBaseNanoword x mw s

end Sys2Proof.Machine
end

