-- ==== Sys2Proof/Certificates/Slice0/Obligations.lean ====
section
/-! DEFINITION. The statements for the provers, and what they are stated in: the general rules, registers and windows, the
Zenrex instructions, ports, pups, tables, switch core, deep tier, traffic manager, governor, time, keyed check, host channel,
Kennel, faults and start-up. A clause that rests on a choice of the model says so and names the log. -/

open Sys2Proof Sys2Proof.Machine

/-! ### The machine as a whole -/

namespace Sys2Proof.Spec

/-- Nothing detected waits for its reactions, and the manual's guarantee stands (R5). -/
abbrev Calm (s : State) : Prop := s.flt.toRaise = [] ∧ s.boot.unrated = false

/-- The same out of a chip reset, in which the blocks would be held (R533). -/
abbrev Quiet (s : State) : Prop := Calm s ∧ s.boot.inReset = false

/-- R504: the status bit of a source. -/
def isLatched (s : State) (src : Nat) : Bool := s.regB flt4 (4 * (src / 32)) (src % 32)

/-- R499: the class of a source. -/
def faultClass (s : State) (src : Nat) : Nat := fld (s.srcCfg src) 0 3

/-- R537: a source is not one of a slice that failed self-test, and is held in reset (the model's reading, log entry 28). -/
abbrev Works (s : State) (src : Nat) : Prop := src < 84 → s.failed (Fin.ofNat 4 (src % 4)) = false

/-- R504, R519: the collector hears a source: it works, and the device is not in reset, or the source is one of the governor's or the
collector's own. -/
def Heard (s : State) (src : Nat) : Prop :=
  Works s src ∧ (s.boot.inReset = false ∨ (84 ≤ src ∧ src ≤ 89) ∨ src = 95)

/-- The host interface of `s` with the vectors that `t` has sent and holds (R509). -/
def hifAfter (s t : State) : HifSt := { s.hif with msi := t.hif.msi, msixHeld := t.hif.msixHeld }

/-- No write of a housekeeping port waits (R314), so that a command acts on nothing but what it names. -/
abbrev NoHkWrite (s : State) : Prop := ∀ sl : Slice, (s.bpm sl).hkWrite = none

/-- The vectors sent after one more of a function: it is sent where MSI-X is enabled and no mask holds it (R509, R510). -/
def sentAfter (s : State) (f v : Nat) : List (Nat × Nat) :=
  if s.hif.msixOn.get f = true ∧ s.vectorOpen f v = true then (f, v) :: s.hif.msi else s.hif.msi

/-- The canonical forms of registers, windows and parity, and of host memory: keys rise, and no entry is what an unlisted one reads
as (host memory lists what the device has written). Equal contents are then equal data. -/
structure Canonical (s : State) : Prop where
  regs : s.regs.wfD regResetAt = true
  win : s.win.wfD winResetAt = true
  bad : s.bad.wf = true
  mem : s.hif.mem.Pairwise fun a b => a.1 < b.1

end Sys2Proof.Spec

/-- A step takes the command at the front of the queue and runs it with the rest of the queue. -/
def Obligations.StepRunsTheFront : Prop :=
  ∀ (c : Instr) (rest : List Instr) (s : State), step { s with pending := c :: rest } = exec c { s with pending := rest }

open Sys2Proof.Spec in
/-- The model's choice (log entry 2): with no command waiting, a step passes a nanosecond: time moves on, the clocks of the
TSU and the Kennel run, with the registers that count in time, and nothing else changes, but for what a waiting write of a
housekeeping port does when it is served (log entry 123) and for the test access port, which stays at rest (log entry 137). -/
def Sys2Proof.Spec.IdleStepPassesANanosecond : Prop :=
  ∀ (s : State), s.pending = [] → ∃ t, step s = .next t ∧ t.time = s.time + 1 ∧
    (NoHkWrite s →
      t = { s with time := t.time, tsu := t.tsu, knl := t.knl, regs := t.regs, boot := { s.boot with tap := t.boot.tap } } ∧
      (s.boot.tap = {} → t.boot = s.boot))

/-- Commands are taken in order, one by each step, nothing but a step takes one, and only an idle step takes time. -/
def Sys2Proof.Spec.QueueIsFirstInFirstOut : Prop :=
  ∀ (s t : State), step s = .next t →
    t.pending = s.pending.tail ∧ t.time = s.time + (if s.pending = [] then 1 else 0)

/-- The queue is first in, first out; only an idle step takes time (idle tick: the model's choice, log entry 2):
`IdleStepPassesANanosecond`, `QueueIsFirstInFirstOut`. -/
def Obligations.QueueAndTimeAdvance : Prop :=
  Sys2Proof.Spec.IdleStepPassesANanosecond ∧
  Sys2Proof.Spec.QueueIsFirstInFirstOut

open Sys2Proof.Spec in
/-- No command is ever refused, and every command goes on, but for an EN2564-S that has lost the manual's guarantee (R5): it
answers commands with a fault until a release of PORST_N gives the guarantee back, each valid sensor, of which there is one,
having last been read at or above 0 °C since PORST_N took hold; a release before that leaves it lost. A
reading below 0 °C of a powered EN2564-S, and nothing else, takes the guarantee (which readings are the loss and the return, and
the fault that answers, are the model's reading, log entry 18). A reading below every limit is stored, a condition that is gone
is not detected again, and the pulse of ERR_N ends (R380, R504, R512). -/
def Obligations.EveryCommandGoesOn : Prop :=
  (∀ (c : Instr) (s : State),
    (∃ t, exec c s = .next t) ∨ (s.boot.unrated = true ∧ exec c s = .fault .unratedTemperature)) ∧
  (∀ (c : Instr) (s t : State), exec c s = .next t → s.boot.unrated = false → t.boot.unrated = true →
    Config.variantS = true ∧ ∃ sl idx temp, c = .sensorSample sl idx temp ∧ temp.toInt < 0) ∧
  (∀ (s : State) (sl : Slice) (idx : Fin 6) (temp : BitVec 16), Config.variantS = true → s.boot.vaon = true →
    s.regB (slInst .egv sl) (R.EGV_SENSOR + 4 * idx.val) 16 = false → -440 ≤ temp.toInt → temp.toInt < 0 →
    ∃ t, exec (.sensorSample sl idx temp) s = .next t ∧ t.boot.unrated = true) ∧
  (∀ (s : State) (straps : Byte), s.boot.porstLow = true →
    let valid := fun (sl : Slice) (k : Fin 6) => s.regB (slInst .egv sl) (R.EGV_SENSOR + 4 * k.val) 16 = false
    ((∃ sl k, valid sl k) → (∀ sl k, valid sl k → 6 * sl.val + k.val ∈ s.boot.warm) →
      ∃ t, exec (.porstNRelease straps) s = .next t ∧ t.boot.unrated = false) ∧
    (s.boot.unrated = true → (∃ sl k, valid sl k ∧ 6 * sl.val + k.val ∉ s.boot.warm) →
      ∃ t, exec (.porstNRelease straps) s = .next t ∧ t.boot.unrated = true)) ∧
  ∀ (s : State), Quiet s →
    (∀ (sl : Slice) (idx : Fin 6) (temp : BitVec 16), s.boot.vaon = true → s.hot = false → 0 ≤ temp.toInt → temp.toInt < s.thot →
      (∀ v ∈ s.allTemps, v < s.thot) →
      ∃ t, exec (.sensorSample sl idx temp) s = .next t ∧
        t.regF (slInst .egv sl) (R.EGV_SENSOR + 4 * idx.val) 0 16 = temp.toNat ∧
        (s.boot.porstLow = true → 6 * sl.val + idx.val ∈ t.boot.warm) ∧
        t = { s with regs := t.regs, egvs := t.egvs, gov := t.gov, flt := { s.flt with t115 := t.flt.t115 },
                     hif := hifAfter s t, boot := { s.boot with warm := t.boot.warm } }) ∧
    (∀ src : Fin 96, s.conditionLasts src.val = false → exec (.conditionRedetect src) s = .next s) ∧
    ∃ t, exec .barkPulseEnd s = .next t ∧ t.flt = { s.flt with bark := false } ∧
      (s.flt.bark = true → t.regB flt4 R.FLT_ERRPIN 1 = s.regB flt4 R.FLT_ERRPIN 0) ∧
      t = { s with regs := t.regs, flt := t.flt }

/-- Every fault source that a command detects has had its reactions when the step ends. -/
def Obligations.NoDetectionIsLeft : Prop :=
  ∀ (s t : State), s.flt.toRaise = [] → step s = .next t → t.flt.toRaise = []

open Sys2Proof.Spec in
/-- After reset every register and window word holds the value its table states, no context runs, no command waits,
nothing is detected, and the canonical forms hold. Where the manual states no value a register or a window word reads 0,
and what no register shows is empty or idle: the model's choice, log entries 7, 8 and 10. -/
def Obligations.ResetLeaves : Prop :=
  (∀ (i : InstId) (off : Nat) (r : RegRow), off < 4096 → regRow i off = some r → State.reset.reg i off = r.reset) ∧
  (∀ (i : InstId) (w e k n m : Nat), winDim i w = some (n, m) → e < n → k < m →
    State.reset.ent i w e k = winReset i w e k) ∧
  (∀ x, (State.reset.ctx x).running = false) ∧ State.reset.pending = [] ∧ State.reset.flt.toRaise = [] ∧
  Canonical State.reset

open Sys2Proof.Spec in
/-- Every step keeps the canonical forms: registers, windows, parity and what the device has written to host memory. -/
def Obligations.CanonicalFormsAreKept : Prop :=
  ∀ (s t : State), Canonical s → step s = .next t → Canonical t

/-! ### Registers and windows -/

namespace Sys2Proof.Spec

/-- An access to the instance is performed at once: it is present, its slice is awake, no block reset holds it, and no
earlier access waits for it (R31-R33). -/
structure Reached (s : State) (i : InstId) : Prop where
  quiet : Quiet s
  here : s.reachable i = true
  first : ∀ b ∈ s.held, b.inst ≠ i ∧ b.bcast = false

/-- The address of a register (R27). -/
def addrOf (i : InstId) (off : Nat) : BitVec 28 := BitVec.ofNat 28 (instIndex i * 4096 + off)

/-- The registers whose write does more than its fields say: those that other statements are about. -/
def actsOnWrite (i : InstId) (off : Nat) : Bool :=
  let o := subOff i.block off
  match i.block with
  | .prt => decide (R.PRT_PCFG ≤ o ∧ off % 32 = 0)
  | .pup => o = R.PUP_CTRL
  | .pcl => o = R.PCL_VSTAT
  | .fwd => o = R.FWD_OPCTL
  | .swc => if i.inst = 4 then o = R.SWC_HRCFG else o ∈ [R.SWC_INGRSV, R.SWC_PUNTRSV]
  | .bpm => o = R.BPM_CTRL
  | .dtc => o ∈ [R.DTC_CCFG, R.DTC_DIMM, R.DTC_DIMM + 4, R.DTC_TRNCTL, R.DTC_RPRCTL, R.DTC_RPRROW, R.DTC_HEELCFG] ||
      decide (R.DTC_TSAV ≤ o ∧ o < R.DTC_TRN ∨ R.DTC_REG0 ≤ o ∧ o < R.DTC_RPRCTL)
  | .tmg => o = R.TMG_SRCFG || decide (R.TMG_OVHD ≤ o ∧ o < R.TMG_SRBASE_LO)
  | .egv => if i.inst = 4 then o ∈ [R.EGV_STAGECTL, R.EGV_TAMB, R.EGV_DCTRL] || decide (R.EGV_STH ≤ o ∧ o < R.EGV_STH + 24)
      else o = R.EGV_DROOP
  | .tsu => o ∈ [R.TSU_CTRL, R.TSU_FREQHI, R.TSU_FREQLO, R.TSU_OFFSET, R.TSU_STEPNS, R.TSU_ARM, R.TSU_PPSOCFG, R.TSU_SNAPCFG,
      R.TSU_RCLK, R.TSU_RCLK + 4, R.TSU_TXCFG] ||
      decide (R.TSU_TOUTCFG ≤ o ∧ o < R.TSU_PPSOCFG ∨ R.TSU_SNAPSLO ≤ o ∧ o ≤ R.TSU_SNAPNS)
  | .hif => decide (R.HIF_PCMDTAIL ≤ o)
  | .flt => o ∈ [R.FLT_ERRPIN, R.FLT_MUZZLE, R.FLT_BRST, R.FLT_CRST, R.FLT_SNAPCTL, R.FLT_SNAPSTAT]
  | .knl => o = R.KNL_CTRL
  | .rwr | .asa | .kce => false

/-- The registers whose read answers something else than the register, or does more than return its RC fields to their
reset values. -/
def actsOnRead (i : InstId) (off : Nat) : Bool :=
  match i.block with
  | .tsu => off ∈ [R.TSU_TNS, R.TSU_KSECLO, R.TSU_KSECHI] || decide (R.TSU_TINCFG ≤ off ∧ off < R.TSU_PPSOCFG)
  | .hif => decide (R.HIF_FSTAT ≤ off)
  | .flt => off ∈ [R.FLT_STAT0, R.FLT_STAT1, R.FLT_STAT2]
  | _ => false

/-- A register of any block with nothing but its fields behind it: neither a window register nor a mask. -/
structure FieldsOnly (i : InstId) (off : Nat) (r : RegRow) : Prop where
  plain : actsOnWrite i off = false
  present : i.present = true
  bound : off < 4096
  row : regRow i off = some r
  window : isWinReg i off = false
  mask : ∀ p, eventRegs i = some p → p.2 ≠ subOff i.block off

/-- The mask register of an instance's events (R509). -/
structure Mask (i : InstId) (off : Nat) (r : RegRow) (event : Nat) : Prop where
  present : i.present = true
  bound : off < 4096
  row : regRow i off = some r
  regs : ∃ e m, eventRegs i = some (e, m) ∧ subOff i.block off = m ∧ event = off - m + e

/-- R13, R14: the value after a write: RW fields take it, W1C fields are cleared where it is 1, the others stay. -/
def written (r : RegRow) (old v : Word) : Word :=
  (old &&& ~~~ (r.rw ||| r.w1c)) ||| (v &&& r.rw) ||| (old &&& r.w1c &&& ~~~ v)

/-- R13: the value after a read: RC fields are back at their reset values. -/
def cleared (r : RegRow) (old : Word) : Word := (old &&& ~~~ r.rc) ||| (r.reset &&& r.rc)

/-- The window that WSEL selects has `n` entries of `m` words, and ADDR names word `j` of entry `e` (R36-R38). -/
structure At (s : State) (i : InstId) (e j m : Nat) : Prop where
  dim : ∃ n, winDim i (s.wsOf i).win.toNat = some (n, m) ∧ e < n
  word : j < m ∧ (s.wsOf i).addr.toNat = e * m + j

/-- ADDR lies in no entry of the selected window (R36, R580). -/
def Beyond (s : State) (i : InstId) : Prop :=
  ∀ n m, winDim i (s.wsOf i).win.toNat = some (n, m) → n * m ≤ (s.wsOf i).addr.toNat

/-- The windows whose words read as they were stored, but for reserved bits: all but the computed and the read-only ones, and the
rows of ASA. -/
def readsStored (i : InstId) (w : Nat) : Bool :=
  match i.block with
  | .asa => w ≠ 0
  | .rwr => w ≠ 7
  | .swc => decide (w < 8)
  | .flt => decide (4 ≤ w)
  | .kce | .knl => false
  | _ => true

/-- The windows whose store of an entry does nothing but replace its words. -/
def plainStore (i : InstId) (w : Nat) : Bool :=
  match i.block with
  | .egv | .tsu => true
  | .rwr => w ≠ 7
  | .swc => decide (2 ≤ w ∧ w < 8)
  | .tmg => w ∈ [3, 6, 7]
  | .asa => w ∈ [2, 3]
  | .flt => w = 5
  | _ => false

/-- Those, and windows whose store replaces the words beside other effects: PCL in a bank that accepts writes, FWD, and the
microword store of pups that are stopped. -/
def storesWords (s : State) (i : InstId) (w e : Nat) : Bool :=
  plainStore i w || (i.block = .pcl && !s.bankRefuses i w e) || (i.block = .fwd && w ≠ 5) ||
    (i.block = .pup && w = 0 && !s.regB i R.PUP_CTRL 0 && (s.pup (sliceOf i)).repair.isNone)

/-- ADDR after a data access (R36). -/
def nextAddr (x : WinState) : Word := if x.ainc then x.addr + 1 else x.addr

end Sys2Proof.Spec

open Sys2Proof.Spec in
/-- R13, R14, R27, R28, R31-R33, R509: a write of a register with fields alone changes that register as its fields say and
nothing else; one to instance 15 of a slice block changes the register of all four slices; one of a mask sends the vector of
the block where it uncovers an event (that it does is the model's reading, log entry 25); a write of an address that is none counts in HIF_BADADDR; a write to an instance whose
slice sleeps or that is under block reset is held; and a held access that can be made is made. -/
def Sys2Proof.Spec.RegisterWrites : Prop :=
  (∀ (s : State) (i : InstId) (off event : Nat) (r : RegRow) (v : Word), Mask i off r event → Reached s i →
    ∃ t, exec (.registerWrite 0 (addrOf i off) v) s = .next t ∧ t.reg i off = written r (s.reg i off) v ∧
      t.hif.msi = (if s.reg i off &&& ~~~ t.reg i off &&& t.reg i event ≠ 0 then sentAfter s 0 (vectorOf i) else s.hif.msi) ∧
      t = { s.setReg i off (t.reg i off) with hif := hifAfter s t }) ∧
  (∀ (s : State) (b : Block) (off : Nat) (r : RegRow) (v : Word), b.sliced = true → FieldsOnly (slInst b 0) off r →
    (∀ sl : Slice, Reached s (slInst b sl)) → s.held = [] →
    ∃ t, exec (.registerWrite 0 (addrOf ⟨b, 15⟩ off) v) s = .next t ∧ t = { s with regs := t.regs } ∧
      (∀ sl : Slice, t.reg (slInst b sl) off = written r (s.reg (slInst b sl) off) v) ∧
      ∀ (i : InstId) (o : Nat), o < 4096 → (∀ sl : Slice, i ≠ slInst b sl) ∨ o ≠ off → t.reg i o = s.reg i o) ∧
  ∀ (s : State) (i : InstId) (off : Nat) (r : RegRow) (v : Word), FieldsOnly i off r →
    (Reached s i → exec (.registerWrite 0 (addrOf i off) v) s = .next (s.setReg i off (written r (s.reg i off) v))) ∧
    (Quiet s → s.reachable i = false → ∃ t, exec (.registerWrite 0 (addrOf i off) v) s = .next t ∧
      t.held = s.held ++ [{ inst := i, off := off, value := some v }] ∧ t.reg i off = s.reg i off) ∧
    (∀ rest, Quiet s → s.reachable i = true →
      s.held = { inst := i, off := off, value := some v } :: rest →
      exec .heldAccessPerform s = .next ({ s with held := rest }.setReg i off (written r (s.reg i off) v))) ∧
    (∀ addr : BitVec 28, Reached s hif4 → decodeAddr addr = none →
      exec (.registerWrite 0 addr v) s = .next (s.count hif4 R.HIF_BADADDR))

open Sys2Proof.Spec in
/-- R13, R28: a read returns the register, and its RC fields are back at their reset values; nothing else changes. A read of
an address that is none returns 0. -/
def Sys2Proof.Spec.RegisterReads : Prop :=
  ∀ (s : State) (i : InstId) (off : Nat) (r : RegRow),
    actsOnRead i off = false → i.present = true → off < 4096 → regRow i off = some r →
    isWinReg i off = false → Reached s i →
    let t := ({ s with hif := { s.hif with readData := s.reg i off } }).setReg i off (cleared r (s.reg i off))
    exec (.registerRead 0 (addrOf i off)) s = .next t ∧ exec (.readClear 0 (addrOf i off)) s = .next t ∧
    (∀ addr : BitVec 28, Reached s hif4 → decodeAddr addr = none →
      exec (.registerRead 0 addr) s = .next { s with hif := { s.hif with readData := 0 } })

/-- Register writes and reads follow the access codes of their fields; what cannot be reached is held or counted (a mask that uncovers
an event sends its vector: the model's reading, log entry 25): `RegisterWrites`, `RegisterReads`. -/
def Obligations.RegisterAccess : Prop :=
  Sys2Proof.Spec.RegisterWrites ∧
  Sys2Proof.Spec.RegisterReads

open Sys2Proof.Spec in
/-- R36, R37: a write of BLK_WSEL selects a window and AINC, clears PARTIAL_LOST where it is written 1, ends the capture and
discards staged words, setting PARTIAL_LOST where there were any; one of BLK_WADDR sets ADDR and discards likewise. -/
def Sys2Proof.Spec.WindowSelects : Prop :=
  ∀ (s : State) (i : InstId) (v : Word), i.hasWindow = true → i.inst ≠ 15 → Reached s i →
    let x := s.wsOf i
    exec (.wselWrite i v) s = .next (s.setWs i { x with
      win := v.extractLsb' 0 8, ainc := v.getLsbD 8
      partialLost := (x.partialLost && !v.getLsbD 9) || decide (x.staged ≠ []), capture := none, staged := [] }) ∧
    exec (.waddrWrite i v) s = .next (s.setWs i { x with
      addr := v, partialLost := x.partialLost || decide (x.staged ≠ []), staged := [] })

open Sys2Proof.Spec in
/-- R580: a data access whose ADDR is beyond the last word of the selected window reads 0 and is ignored on write; it is not
counted in HIF_BADADDR and leaves staged words as they were; AINC still acts. -/
def Obligations.WindowAccessBeyondTheEnd : Prop :=
  ∀ (s : State) (i : InstId) (v : Word), i.hasWindow = true → i.inst ≠ 15 → Reached s i → Beyond s i →
    let x := s.wsOf i
    exec (.wdataRead i) s = .next (({ s with hif := { s.hif with readData := 0 } }).setWs i { x with addr := nextAddr x }) ∧
    exec (.wdataWrite i v) s = .next (s.setWs i { x with addr := nextAddr x, capture := none })

open Sys2Proof.Spec in
/-- R36-R39: a read of BLK_WDATA returns the word from the capture where the capture holds the entry and it is not word 0,
else captures the entry as it stands, where its words have good parity; a write stages a word, and the write of an entry's
last word stores the entry in one step, words not staged keeping their contents, and words staged for other entries staying
staged (the model's reading, log entry 24); a damaged word of RWR that was not staged stays damaged (R257). ADDR moves on with
AINC. Reserved bits of nanowords and edit lists read 0 though the stores keep them (the model's reading, log entry 138). A
snapshot bank with nothing latched reads 0 (R523). -/
def Sys2Proof.Spec.WindowData : Prop :=
  ∀ (s : State) (i : InstId) (e j m : Nat) (v : Word), i.hasWindow = true → i.inst ≠ 15 → Reached s i → At s i e j m →
    let x := s.wsOf i
    let w := x.win.toNat
    (¬(i.block = .asa ∧ w = 0) →
      (∀ l, x.capture = some (w, e, l) → j ≠ 0 → exec (.wdataRead i) s =
        .next (({ s with hif := { s.hif with readData := (l[j]?).getD 0 } }).setWs i { x with addr := nextAddr x })) ∧
      ((j = 0 ∨ ∀ l, x.capture ≠ some (w, e, l)) → s.badEntry i w e = false →
        ∃ l, l = shownWords i.block w (s.heldEntry i w e) ∧ l.length = m ∧ exec (.wdataRead i) s =
          .next (({ s with hif := { s.hif with readData := (l[j]?).getD 0 } }).setWs i { x with
            addr := nextAddr x, capture := some (w, e, l) }) ∧
        (readsStored i w = true → ¬(i.block = .pup ∧ w = 1) → ¬(i.block = .rwr ∧ w = 0) →
          ∀ k, k < m → (l[k]?).getD 0 = s.ent i w e k) ∧
        (i.block = .rwr → w = 0 → ∀ k, k < m →
          (l[k]?).getD 0 = s.ent i w e k &&& (if k = 0 then 0x07FFFFFF else 0x0FFFFFFF)) ∧
        (i = flt4 → w < 4 → s.flt.banks.get w = none → l = [0]))) ∧
    (j + 1 < m → exec (.wdataWrite i v) s =
      .next (s.setWs i { x with addr := nextAddr x, capture := none, staged := (x.addr.toNat, v) :: x.staged })) ∧
    (storesWords s i w e = true → j + 1 = m → ∃ t, exec (.wdataWrite i v) s = .next t ∧
      (plainStore i w = true → t = { s with win := t.win, bad := t.bad, wst := t.wst }) ∧
      (i.block = .rwr → w < 2 → ∀ k, k < m → t.badWord i w (e * m + k) =
        (s.badWord i w (e * m + k) && decide (k ≠ j) && (x.staged.find? fun p => p.1 = e * m + k).isNone)) ∧
      t.wsOf i = { x with addr := nextAddr x, capture := none, staged := x.staged.filter fun p => p.1 / m ≠ e } ∧
      (∀ k, k < m → t.ent i w e k = (s.ent i w e k &&& ~~~ winMaskAt i w e k) ||| (winMaskAt i w e k &&&
        (if k = j then v else ((x.staged.find? fun p => p.1 = e * m + k).map (·.2)).getD (s.ent i w e k)))) ∧
      ∀ d k, d ≠ e → t.winWord i w (d * m + k % m) = s.winWord i w (d * m + k % m))

/-- Window select, address and data registers: capture, staging and the one-step store of an entry: `WindowSelects`,
`WindowData`. -/
def Obligations.WindowsAreSelectedAndAccessed : Prop :=
  Sys2Proof.Spec.WindowSelects ∧
  Sys2Proof.Spec.WindowData

/-! ### Zenrex instructions -/

namespace Sys2Proof.Spec

/-- The context runs, its watchdog does not expire with this microword (R108, R131), its fetch finds the microword and the
nanoword `idx` of the base set with good parity, and no lookup outstanding will write the registers of `uses`, those that
the microword's operation reads or writes (R106, R110, R133; that a register named by a field which the operation does not
use stalls nothing is the model's reading, log entry 33). -/
structure Ready (s : State) (x : CtxId) (idx : Nat) (uses : List Reg) : Prop where
  quiet : Quiet s
  issue : s.canIssue x = true
  watch : isHk x = true ∨ (s.ctx x).committed = false → (s.ctx x).cycles + 1 < if isHk x then 4096 else 1024
  word : s.badWord (slInst .pup x.slice) 0 (s.ctx x).pc.toNat = false
  nano : s.badEntry (slInst .pup x.slice) 1 idx = false
  free : ∀ r ∈ uses, r.val ∉ (s.ctx x).locked

/-- R119: a TAILOK instruction may follow COMMIT, in the tail's first eight microwords. -/
def TailOk (c : Ctx) : Prop := c.committed = false ∨ c.tail < 8

/-- What the sequencing of one straight-line microword does beside the instruction's own effect: one cycle is counted,
a microword after COMMIT is counted in the tail, and outside a delay slot, a mode shadow and a loop the pc moves on by
one. Apart from that `c'` is `c`, but for what `eff` brings in. -/
structure Follows (c c' eff : Ctx) : Prop where
  same : { c' with pc := eff.pc, slot := eff.slot, shadow := eff.shadow, loops := eff.loops, lc0 := eff.lc0, lc1 := eff.lc1,
                   tid := eff.tid, view := eff.view, md := eff.md } =
    { eff with cycles := c.cycles + 1, tail := if c.committed then c.tail + 1 else 0 }
  mode : c.shadow = none → c'.tid = eff.tid ∧ c'.view = eff.view ∧ c'.md = eff.md
  next : c.slot = none → c.shadow = none → c.loops = [] → c'.pc = c.pc + 1 ∧ c'.slot = none ∧ c'.loops = []

/-- What an instruction of the ALU computes: destination, the flags it writes (Z and N; C; V), the registers it names, its
result, carry or borrow, and signed overflow. -/
structure Alu where
  dst : Option Reg
  zn : Bool
  cy : Bool
  ov : Bool
  uses : List Reg
  val : Word
  c : Bool := false
  v : Bool := false

/-- An exact signed result outside 32 bits. -/
def outOfRange (r : Int) : Bool := decide (r < -2 ^ 31) || decide (2 ^ 31 ≤ r)

/-- R95, R96: the ALU operations on 32-bit operands: result, carry, overflow. -/
def sumOf (a b : Word) (ci : Nat) : Word × Bool × Bool :=
  (a + b + BitVec.ofNat 32 ci, decide (2 ^ 32 ≤ a.toNat + b.toNat + ci), outOfRange (a.toInt + b.toInt + ci))
def diffOf (a b : Word) (ci : Nat) : Word × Bool × Bool :=
  (a - b - BitVec.ofNat 32 ci, decide (a.toNat < b.toNat + ci), outOfRange (a.toInt - b.toInt - ci))
def shlOf (a : Word) (n : Nat) : Word × Bool × Bool := (a <<< n, decide (n ≠ 0) && a.getLsbD (32 - n), false)
def shrOf (a : Word) (n : Nat) : Word × Bool × Bool := (a >>> n, decide (n ≠ 0) && a.getLsbD (n - 1), false)
def sarOf (a : Word) (n : Nat) : Word × Bool × Bool := (a.sshiftRight n, decide (n ≠ 0) && a.getLsbD (n - 1), false)
def minOf (a b : Word) : Word := if a.toNat ≤ b.toNat then a else b
def maxOf (a b : Word) : Word := if a.toNat ≤ b.toNat then b else a

def withFlags (dst : Option Reg) (uses : List Reg) (r : Word × Bool × Bool) (ov : Bool) : Alu :=
  ⟨dst, true, true, ov, uses, r.1, r.2.1, r.2.2⟩
def logical (dst : Option Reg) (uses : List Reg) (r : Word) : Alu := ⟨dst, true, false, false, uses, r, false, false⟩
def moved (dst : Option Reg) (uses : List Reg) (r : Word) : Alu := ⟨dst, false, false, false, uses, r, false, false⟩

/-- R149: the register forms: context, nanoword index and effect. -/
def aluRegister (s : State) : Instr → Option (CtxId × Nat × Alu)
  | .mov x d a => some (x, 0x010, moved (some d) [d, a] (s.ctx x).w[a])
  | .add x d a b => some (x, 0x011, withFlags (some d) [d, a, b] (sumOf (s.ctx x).w[a] (s.ctx x).w[b] 0) true)
  | .sub x d a b => some (x, 0x012, withFlags (some d) [d, a, b] (diffOf (s.ctx x).w[a] (s.ctx x).w[b] 0) true)
  | .and x d a b => some (x, 0x013, logical (some d) [d, a, b] ((s.ctx x).w[a] &&& (s.ctx x).w[b]))
  | .or x d a b => some (x, 0x014, logical (some d) [d, a, b] ((s.ctx x).w[a] ||| (s.ctx x).w[b]))
  | .xor x d a b => some (x, 0x015, logical (some d) [d, a, b] ((s.ctx x).w[a] ^^^ (s.ctx x).w[b]))
  | .andn x d a b => some (x, 0x016, logical (some d) [d, a, b] ((s.ctx x).w[a] &&& ~~~ (s.ctx x).w[b]))
  | .shl x d a b =>
    some (x, 0x017, withFlags (some d) [d, a, b] (shlOf (s.ctx x).w[a] ((s.ctx x).w[b].toNat % 32)) false)
  | .shr x d a b =>
    some (x, 0x018, withFlags (some d) [d, a, b] (shrOf (s.ctx x).w[a] ((s.ctx x).w[b].toNat % 32)) false)
  | .sar x d a b =>
    some (x, 0x019, withFlags (some d) [d, a, b] (sarOf (s.ctx x).w[a] ((s.ctx x).w[b].toNat % 32)) false)
  | .rol x d a b => some (x, 0x01A, logical (some d) [d, a, b] ((s.ctx x).w[a].rotateLeft ((s.ctx x).w[b].toNat % 32)))
  | .minu x d a b => some (x, 0x01B, logical (some d) [d, a, b] (minOf (s.ctx x).w[a] (s.ctx x).w[b]))
  | .maxu x d a b => some (x, 0x01C, logical (some d) [d, a, b] (maxOf (s.ctx x).w[a] (s.ctx x).w[b]))
  | .adc x d a b => some (x, 0x01D, withFlags (some d) [d, a, b]
      (sumOf (s.ctx x).w[a] (s.ctx x).w[b] (s.ctx x).c.toNat) true)
  | .sbc x d a b => some (x, 0x01E, withFlags (some d) [d, a, b]
      (diffOf (s.ctx x).w[a] (s.ctx x).w[b] (s.ctx x).c.toNat) true)
  | .tst x a => some (x, 0x01F, logical none [a] (s.ctx x).w[a])
  | .cmpf x a b => some (x, 0x020, withFlags none [a, b] (diffOf (s.ctx x).w[a] (s.ctx x).w[b] 0) true)
  | _ => none

/-- R150, R151: the immediate forms and the wide moves. -/
def aluImmediate (s : State) : Instr → Option (CtxId × Nat × Alu)
  | .movi x d i => some (x, 0x028, moved (some d) [d] (i.setWidth 32))
  | .addi x d a i => some (x, 0x029, withFlags (some d) [d, a] (sumOf (s.ctx x).w[a] (i.setWidth 32) 0) true)
  | .subi x d a i => some (x, 0x02A, withFlags (some d) [d, a] (diffOf (s.ctx x).w[a] (i.setWidth 32) 0) true)
  | .andi x d a i => some (x, 0x02B, logical (some d) [d, a] ((s.ctx x).w[a] &&& i.setWidth 32))
  | .ori x d a i => some (x, 0x02C, logical (some d) [d, a] ((s.ctx x).w[a] ||| i.setWidth 32))
  | .xori x d a i => some (x, 0x02D, logical (some d) [d, a] ((s.ctx x).w[a] ^^^ i.setWidth 32))
  | .shli x d a i => some (x, 0x02E, withFlags (some d) [d, a] (shlOf (s.ctx x).w[a] (i.toNat % 32)) false)
  | .shri x d a i => some (x, 0x02F, withFlags (some d) [d, a] (shrOf (s.ctx x).w[a] (i.toNat % 32)) false)
  | .sari x d a i => some (x, 0x030, withFlags (some d) [d, a] (sarOf (s.ctx x).w[a] (i.toNat % 32)) false)
  | .roli x d a i => some (x, 0x031, logical (some d) [d, a] ((s.ctx x).w[a].rotateLeft (i.toNat % 32)))
  | .minui x d a i => some (x, 0x032, logical (some d) [d, a] (minOf (s.ctx x).w[a] (i.setWidth 32)))
  | .maxui x d a i => some (x, 0x033, logical (some d) [d, a] (maxOf (s.ctx x).w[a] (i.setWidth 32)))
  | .addsi x d a i => some (x, 0x034, withFlags (some d) [d, a] (sumOf (s.ctx x).w[a] (i.signExtend 32) 0) true)
  | .cmpfi x a i => some (x, 0x035, withFlags none [a] (diffOf (s.ctx x).w[a] (i.setWidth 32) 0) true)
  | .movw x d i => some (x, 0x038, moved (some d) [d] (i.setWidth 32))
  | .orh x d i => some (x, 0x039, moved (some d) [d] ((s.ctx x).w[d] ||| (i.setWidth 32) <<< 16))
  | .addw x d i => some (x, 0x03A, withFlags (some d) [d] (sumOf (s.ctx x).w[d] (i.setWidth 32) 0) true)
  | _ => none

/-- The context with an ALU result and its flags (R96). -/
def aluEffect (c : Ctx) (o : Alu) : Ctx :=
  { c with
    w := match o.dst with
      | some d => c.w.set d o.val
      | none => c.w
    z := if o.zn then decide (o.val = 0) else c.z
    n := if o.zn then o.val.msb else c.n
    c := if o.cy then o.c else c.c
    v := if o.ov then o.v else c.v }

end Sys2Proof.Spec

open Sys2Proof.Spec in
/-- R149, R96: the register forms of the ALU write their result and the flags of the table, and nothing else. -/
def Sys2Proof.Spec.AluRegisterForms : Prop :=
  ∀ (i : Instr) (s : State) (x : CtxId) (idx : Nat) (o : Alu), aluRegister s i = some (x, idx, o) →
    Ready s x idx o.uses → TailOk (s.ctx x) →
    ∃ c', exec i s = .next ((s.countMw x).setCtx x c') ∧ Follows (s.ctx x) c' (aluEffect (s.ctx x) o)

open Sys2Proof.Spec in
/-- R150, R151, R96: the immediate forms of the ALU and the wide moves. -/
def Sys2Proof.Spec.AluImmediateForms : Prop :=
  ∀ (i : Instr) (s : State) (x : CtxId) (idx : Nat) (o : Alu), aluImmediate s i = some (x, idx, o) →
    Ready s x idx o.uses → TailOk (s.ctx x) →
    ∃ c', exec i s = .next ((s.countMw x).setCtx x c') ∧ Follows (s.ctx x) c' (aluEffect (s.ctx x) o)

/-- Zenrex moves and ALU forms write their result and flags and nothing else: `AluRegisterForms`, `AluImmediateForms`.
-/
def Obligations.AluResultsAndFlags : Prop :=
  Sys2Proof.Spec.AluRegisterForms ∧
  Sys2Proof.Spec.AluImmediateForms

namespace Sys2Proof.Spec

/-- R89: byte `k` of the header view in force. -/
def viewByte (c : Ctx) (k : Nat) : Byte := if c.view then c.scratch.get k else c.frameView.get k

/-- R91: byte `k` of a key register, byte 0 most significant. -/
def keyByte (c : Ctx) (r : Fin 4) (k : Nat) : Byte := (c.k[r]).extractLsb' (8 * (15 - k)) 8

/-- Where an extract reads. -/
inductive Source where
  | window
  | md
  | key (r : Fin 4)

/-- A byte of a source, and its size (R89, R155). -/
def Source.byte (c : Ctx) : Source → Nat → Byte
  | .window, k => viewByte c k
  | .md, k => c.md.get k
  | .key r, k => keyByte c r k

def Source.size : Source → Nat
  | .window => 256
  | .md => 64
  | .key _ => 16

/-- The number that `n` bytes of a source spell, the first most significant. -/
def Source.number (c : Ctx) (src : Source) (off : Nat) : Nat → Nat
  | 0 => 0
  | n + 1 => src.number c off n * 256 + (src.byte c (off + n)).toNat

/-- R152, R153: an extract: its context, nanoword index, source, first byte, first bit and width, the `w` register or the
key lane it writes, and the registers it names. -/
structure Extract where
  x : CtxId
  idx : Nat
  src : Source
  off : Nat
  bit : Nat
  width : Nat
  dst : Reg ⊕ (Fin 4 × Fin 4)
  uses : List Reg

/-- Bytes that the field lies in. -/
def Extract.bytes (e : Extract) : Nat := (e.bit + e.width + 7) / 8

/-- The field, taken most significant bit first. -/
def Extract.value (e : Extract) (c : Ctx) : Word :=
  BitVec.ofNat 32 (e.src.number c e.off e.bytes / 2 ^ (8 * e.bytes - e.bit - e.width) % 2 ^ e.width)

/-- R152: extracts at hp + off. -/
def winExtract (s : State) (x : CtxId) (idx : Nat) (d : Reg) (off : BitVec 8) (bit width : Nat) : Extract :=
  ⟨x, idx, .window, (s.ctx x).hp.toNat + off.toNat, bit, width, .inl d, [d]⟩

def extractForm (s : State) : Instr → Option Extract
  | .ext8 x d off => some (winExtract s x 0x050 d off 0 8)
  | .ext16 x d off => some (winExtract s x 0x051 d off 0 16)
  | .ext24 x d off => some (winExtract s x 0x052 d off 0 24)
  | .ext32 x d off => some (winExtract s x 0x053 d off 0 32)
  | .extnh x d off => some (winExtract s x 0x058 d off 0 4)
  | .extnl x d off => some (winExtract s x 0x059 d off 4 4)
  | .ext12 x d off => some (winExtract s x 0x05A d off 4 12)
  | .ext3 x d off => some (winExtract s x 0x05B d off 0 3)
  | .ext20 x d off => some (winExtract s x 0x05C d off 0 20)
  | .ext6 x d off => some (winExtract s x 0x05D d off 0 6)
  | .ext13 x d off => some (winExtract s x 0x05E d off 3 13)
  | .extr8 x d a =>
    some ⟨x, 0x060, .window, (s.ctx x).hp.toNat + (s.ctx x).w[a].toNat % 256, 0, 8, .inl d, [d, a]⟩
  | .extr16 x d a =>
    some ⟨x, 0x061, .window, (s.ctx x).hp.toNat + (s.ctx x).w[a].toNat % 256, 0, 16, .inl d, [d, a]⟩
  | .extr32 x d a =>
    some ⟨x, 0x062, .window, (s.ctx x).hp.toNat + (s.ctx x).w[a].toNat % 256, 0, 32, .inl d, [d, a]⟩
  | .xmd8 x d off => some ⟨x, 0x064, .md, off.toNat, 0, 8, .inl d, [d]⟩
  | .xmd16 x d off => some ⟨x, 0x065, .md, off.toNat, 0, 16, .inl d, [d]⟩
  | .xmd32 x d off => some ⟨x, 0x066, .md, off.toNat, 0, 32, .inl d, [d]⟩
  | .xk32 x k d off => some ⟨x, 0x068 + k.val, .key k, off.toNat, 0, 32, .inl d, [d]⟩
  | .xtk32 x k l off =>
    some ⟨x, 0x070 + 4 * k.val + l.val, .window, (s.ctx x).hp.toNat + off.toNat, 0, 32, .inr (k, l), []⟩
  | .xtk16 x k l off =>
    some ⟨x, 0x080 + 4 * k.val + l.val, .window, (s.ctx x).hp.toNat + off.toNat, 0, 16, .inr (k, l), []⟩
  | _ => none

/-- `c'` differs from `c` in lane `l` of key register `r` alone, which holds `v` (R86). -/
def LaneSet (c c' : Ctx) (r l : Fin 4) (v : Word) : Prop :=
  (∀ j : Fin 4, j ≠ r → c'.k[j] = c.k[j]) ∧
  ∀ j : Fin 4, (c'.k[r]).extractLsb' (32 * j.val) 32 = if j = l then v else (c.k[r]).extractLsb' (32 * j.val) 32

/-- R155: every byte of the header window that is read has good parity. -/
def GoodBytes (c : Ctx) (off n : Nat) : Prop :=
  ∀ k, k < n → c.hwBad.get ((if c.view then 256 else 0) + off + k) = false

/-- R153: a deposit: its context, nanoword index, register and bytes. -/
def depositForm : Instr → Option (CtxId × Nat × Reg × Nat)
  | .dep8 x a => some (x, 0x090, a, 1)
  | .dep16 x a => some (x, 0x091, a, 2)
  | .dep32 x a => some (x, 0x092, a, 4)
  | _ => none

/-- R157: a compare: its context, nanoword index, operands, the registers named, and when it is true. -/
def cmpReg (s : State) (x : CtxId) (k : Nat) (a b : Reg) (p : Word → Word → Bool) :
    Option (CtxId × Nat × List Reg × Bool) :=
  some (x, 0x0A0 + k, [a, b], p (s.ctx x).w[a] (s.ctx x).w[b])

def cmpImm (s : State) (x : CtxId) (k : Nat) (a : Reg) (i : BitVec 12) (p : Word → Word → Bool) :
    Option (CtxId × Nat × List Reg × Bool) :=
  some (x, 0x0B0 + k, [a], p (s.ctx x).w[a] (i.setWidth 32))

def compareForm (s : State) : Instr → Option (CtxId × Nat × List Reg × Bool)
  | .cmpEq x a b => cmpReg s x 0 a b fun u v => u == v
  | .cmpNe x a b => cmpReg s x 1 a b fun u v => u != v
  | .cmpLtu x a b => cmpReg s x 2 a b fun u v => u.ult v
  | .cmpLeu x a b => cmpReg s x 3 a b fun u v => u.ule v
  | .cmpGtu x a b => cmpReg s x 4 a b fun u v => v.ult u
  | .cmpGeu x a b => cmpReg s x 5 a b fun u v => v.ule u
  | .cmpLt x a b => cmpReg s x 6 a b fun u v => u.slt v
  | .cmpLe x a b => cmpReg s x 7 a b fun u v => u.sle v
  | .cmpGt x a b => cmpReg s x 8 a b fun u v => v.slt u
  | .cmpGe x a b => cmpReg s x 9 a b fun u v => v.sle u
  | .cmpAny x a b => cmpReg s x 10 a b fun u v => u &&& v != 0
  | .cmpAll x a b => cmpReg s x 11 a b fun u v => u &&& v == v
  | .cmpiEq x a i => cmpImm s x 0 a i fun u v => u == v
  | .cmpiNe x a i => cmpImm s x 1 a i fun u v => u != v
  | .cmpiLtu x a i => cmpImm s x 2 a i fun u v => u.ult v
  | .cmpiLeu x a i => cmpImm s x 3 a i fun u v => u.ule v
  | .cmpiGtu x a i => cmpImm s x 4 a i fun u v => v.ult u
  | .cmpiGeu x a i => cmpImm s x 5 a i fun u v => v.ule u
  | .cmpiLt x a i => cmpImm s x 6 a i fun u v => u.slt v
  | .cmpiLe x a i => cmpImm s x 7 a i fun u v => u.sle v
  | .cmpiGt x a i => cmpImm s x 8 a i fun u v => v.slt u
  | .cmpiGe x a i => cmpImm s x 9 a i fun u v => v.sle u
  | .cmpiAny x a i => cmpImm s x 10 a i fun u v => u &&& v != 0
  | .cmpiAll x a i => cmpImm s x 11 a i fun u v => u &&& v == v
  | _ => none

/-- R165: an RD store: context, nanoword index, registers named, first byte, and the bytes stored, least significant
first. -/
def rdStore (s : State) : Instr → Option (CtxId × Nat × List Reg × Nat × List Byte)
  | .rdst1 x d off => some (x, 0x160, [d], off.toNat % 64, leBytes 1 (s.ctx x).w[d].toNat)
  | .rdst2 x d off => some (x, 0x161, [d], off.toNat % 64, leBytes 2 (s.ctx x).w[d].toNat)
  | .rdst4 x d off => some (x, 0x162, [d], off.toNat % 64, leBytes 4 (s.ctx x).w[d].toNat)
  | .rdst8 x d off => some (x, 0x163, [d, d + 1], off.toNat % 64,
      leBytes 4 (s.ctx x).w[d].toNat ++ leBytes 4 (s.ctx x).w[d + 1].toNat)
  | .rdsti1 x off i => some (x, 0x164, [], off.toNat % 64, [i])
  | _ => none

/-- R165, R91: an MD write: context, nanoword index, registers named, first MD byte, and the bytes stored. COLOUR is byte
25, with 3 stored as 2, DP byte 26, and USERn bytes 32 + 4n onward. -/
def mdStore (s : State) : Instr → Option (CtxId × Nat × List Reg × Nat × List Byte)
  | .setcol x a => some (x, 0x168, [a], 25, [BitVec.ofNat 8 (min 2 ((s.ctx x).w[a].toNat % 4))])
  | .setdp x a => some (x, 0x169, [a], 26, [BitVec.ofNat 8 ((s.ctx x).w[a].toNat % 4)])
  | .setusr x n a => some (x, 0x16A + n.val, [a], 32 + 4 * n.val, leBytes 4 (s.ctx x).w[a].toNat)
  | .setcoli x i => some (x, 0x16E, [], 25, [BitVec.ofNat 8 (min 2 (i.toNat % 4))])
  | .setdpi x i => some (x, 0x16F, [], 26, [BitVec.ofNat 8 (i.toNat % 4)])
  | _ => none

/-- A table of 64 bytes after bytes were stored from `off` on; those beyond byte 63 are discarded (R166). -/
def Stored (t t' : Tbl Byte) (off : Nat) (l : List Byte) (k : Nat) : Prop :=
  t'.get k = if off ≤ k ∧ k < 64 then (l[k - off]?).getD (t.get k) else t.get k

end Sys2Proof.Spec

open Sys2Proof.Spec in
/-- R152, R153, R155: an extract whose bytes lie in its source writes its field, zero-extended, to its `w` register or
key lane, and changes no flag and nothing else. -/
def Sys2Proof.Spec.ExtractsDeliverTheirField : Prop :=
  ∀ (i : Instr) (s : State) (e : Extract), extractForm s i = some e → Ready s e.x e.idx e.uses → TailOk (s.ctx e.x) →
    e.off + e.bytes ≤ e.src.size → ((∃ r, e.src = .key r) ∨ e.src = .md ∨ GoodBytes (s.ctx e.x) e.off e.bytes) →
    ∃ c', exec i s = .next ((s.countMw e.x).setCtx e.x c') ∧
      match e.dst with
      | .inl d => Follows (s.ctx e.x) c' { s.ctx e.x with w := (s.ctx e.x).w.set d (e.value (s.ctx e.x)) }
      | .inr (r, l) => Follows (s.ctx e.x) c' { s.ctx e.x with k := c'.k } ∧
          LaneSet (s.ctx e.x) c' r l (e.value (s.ctx e.x))

open Sys2Proof.Spec in
/-- R153, R155, R156: a deposit that fits writes its bytes, most significant first, from byte hp of the view in force, and
nothing else; these bytes then have good parity (the model's choice, log entry 132). -/
def Sys2Proof.Spec.DepositsWriteTheView : Prop :=
  ∀ (i : Instr) (s : State) (x : CtxId) (idx : Nat) (a : Reg) (n : Nat), depositForm i = some (x, idx, a, n) →
    Ready s x idx [a] → (s.ctx x).committed = false → (s.ctx x).hp.toNat + n ≤ 256 →
    ∃ c', exec i s = .next ((s.countMw x).setCtx x c') ∧
      Follows (s.ctx x) c'
        { s.ctx x with frameView := c'.frameView, scratch := c'.scratch, hwBad := c'.hwBad } ∧
      (if (s.ctx x).view then c'.frameView = (s.ctx x).frameView else c'.scratch = (s.ctx x).scratch) ∧
      ∀ k, let hp := (s.ctx x).hp.toNat
        viewByte { c' with view := (s.ctx x).view } k =
          (if hp ≤ k ∧ k < hp + n then (s.ctx x).w[a].extractLsb' (8 * (n - 1 - (k - hp))) 8 else viewByte (s.ctx x) k) ∧
        c'.hwBad.get k = ((s.ctx x).hwBad.get k &&
          !decide ((if (s.ctx x).view then 256 else 0) + hp ≤ k ∧ k < (if (s.ctx x).view then 256 else 0) + hp + n))

/-- Extracts deliver their field and deposits write their bytes, and nothing else (the parity of the bytes written: the model's
choice, log entry 132): `ExtractsDeliverTheirField`, `DepositsWriteTheView`. -/
def Obligations.ExtractsAndDeposits : Prop :=
  Sys2Proof.Spec.ExtractsDeliverTheirField ∧
  Sys2Proof.Spec.DepositsWriteTheView

open Sys2Proof.Spec in
/-- R157: a compare writes Z with its result and changes no other flag and nothing else. -/
def Sys2Proof.Spec.ComparesWriteZ : Prop :=
  ∀ (i : Instr) (s : State) (x : CtxId) (idx : Nat) (uses : List Reg) (b : Bool),
    compareForm s i = some (x, idx, uses, b) → Ready s x idx uses → TailOk (s.ctx x) →
    ∃ c', exec i s = .next ((s.countMw x).setCtx x c') ∧ Follows (s.ctx x) c' { s.ctx x with z := b }

open Sys2Proof.Spec in
/-- R158, R185: RNG sets bit p mod 32 of w[d] to whether w[a] lies within range pair p of the bank of the packet's epoch, for a
housekeeping context of the current one (the model's choice, log entry 117); the other bits stay, and no flag is written. -/
def Sys2Proof.Spec.RangeSetsOneBit : Prop :=
  ∀ (s : State) (x : CtxId) (p : Fin 64) (d a : Reg), Ready s x (0x0C0 + p.val) [d, a] → (s.ctx x).committed = false →
    ∃ c', exec (.rng x p d a) s = .next ((s.countMw x).setCtx x c') ∧
      Follows (s.ctx x) c' { s.ctx x with w := c'.w } ∧
      (∀ r : Reg, r ≠ d → c'.w[r] = (s.ctx x).w[r]) ∧
      ∀ j, j < 32 → (c'.w[d]).getLsbD j =
        if j = p.val % 32 then
          let e := if s.epochOf x then 1 else 0
          let lo := s.ent (slInst .pcl x.slice) e p.val 0
          let hi := s.ent (slInst .pcl x.slice) e p.val 1
          decide (lo.toNat ≤ (s.ctx x).w[a].toNat ∧ (s.ctx x).w[a].toNat ≤ hi.toNat)
        else ((s.ctx x).w[d]).getLsbD j

/-- Compares write Z alone; RNG sets one bit of its register (the epoch of a housekeeping context: the model's choice, log
entry 117): `ComparesWriteZ`, `RangeSetsOneBit`. -/
def Obligations.ComparesAndRanges : Prop :=
  Sys2Proof.Spec.ComparesWriteZ ∧
  Sys2Proof.Spec.RangeSetsOneBit

open Sys2Proof.Spec in
/-- R165, R166: an RD store writes its bytes, least significant first, from the byte that OFF8[5:0] names, discards those
beyond byte 63, and changes nothing else. RDST8 takes w[d] and then w[d+1], w0 after w15 (the model's choice, log entry 132). -/
def Sys2Proof.Spec.RdStores : Prop :=
  ∀ (i : Instr) (s : State) (x : CtxId) (idx : Nat) (uses : List Reg) (off : Nat) (l : List Byte),
    rdStore s i = some (x, idx, uses, off, l) → Ready s x idx uses → isHk x = false → (s.ctx x).committed = false →
    ∃ c', exec i s = .next ((s.countMw x).setCtx x c') ∧ Follows (s.ctx x) c' { s.ctx x with rd := c'.rd } ∧
      ∀ k, Stored (s.ctx x).rd c'.rd off l k

open Sys2Proof.Spec in
/-- R165, R91: an MD write stores COLOUR, DP or a USER word, and changes nothing else of MD (its TID byte 24 follows the
mode shadow, R117) and nothing else. -/
def Sys2Proof.Spec.MdStores : Prop :=
  ∀ (i : Instr) (s : State) (x : CtxId) (idx : Nat) (uses : List Reg) (off : Nat) (l : List Byte),
    mdStore s i = some (x, idx, uses, off, l) → Ready s x idx uses → isHk x = false → (s.ctx x).committed = false →
    ∃ c', exec i s = .next ((s.countMw x).setCtx x c') ∧ Follows (s.ctx x) c' { s.ctx x with md := c'.md } ∧
      ∀ k, k ≠ 24 → Stored (s.ctx x).md c'.md off l k

open Sys2Proof.Spec in
/-- R148, R150, R151, R159: NOP changes nothing, SETHP and SETHPI write hp, MOVK writes a key lane, and a WAIT for tags
that are all complete changes nothing. -/
def Sys2Proof.Spec.PointerKeyAndWait : Prop :=
  ∀ (s : State) (x : CtxId), TailOk (s.ctx x) →
    (Ready s x 0x000 [] → ∃ c', exec (.nop x) s = .next ((s.countMw x).setCtx x c') ∧ Follows (s.ctx x) c' (s.ctx x)) ∧
    (∀ (a : Reg) (i : BitVec 12), Ready s x 0x03C [a] → ∃ c', exec (.sethp x a i) s = .next ((s.countMw x).setCtx x c') ∧
      Follows (s.ctx x) c' { s.ctx x with hp := ((s.ctx x).w[a] + i.setWidth 32).setWidth 8 }) ∧
    (∀ (i : BitVec 12), Ready s x 0x03D [] → ∃ c', exec (.sethpi x i) s = .next ((s.countMw x).setCtx x c') ∧
      Follows (s.ctx x) c' { s.ctx x with hp := i.setWidth 8 }) ∧
    (∀ (k l : Fin 4) (a : Reg), Ready s x (0x040 + 4 * k.val + l.val) [a] →
      ∃ c', exec (.movk x k l a) s = .next ((s.countMw x).setCtx x c') ∧ Follows (s.ctx x) c' { s.ctx x with k := c'.k } ∧
        LaneSet (s.ctx x) c' k l (s.ctx x).w[a]) ∧
    (∀ (m : BitVec 4), Ready s x 0x112 [] → (∀ t : Fin 4, m.getLsbD t.val = true → (s.ctx x).look[t] = none) →
      ∃ c', exec (.wait x m) s = .next ((s.countMw x).setCtx x c') ∧ Follows (s.ctx x) c' (s.ctx x))

/-- MD writes, NOP, SETHP, MOVK and a WAIT that is met: `MdStores`, `PointerKeyAndWait`. -/
def Obligations.MdStoresPointersAndKeys : Prop :=
  Sys2Proof.Spec.MdStores ∧
  Sys2Proof.Spec.PointerKeyAndWait

namespace Sys2Proof.Spec

/-- R117: the context once the TID and VIEW of a MODE two microwords back have come in. -/
def shadowed (c : Ctx) : Ctx :=
  match c.shadow with
  | none => c
  | some (t, v) => { c with tid := t, view := v, md := c.md.set 24 t, shadow := none }

/-- R106, R119: the cycle counted, and the tail. -/
def counted (c : Ctx) : Ctx := { c with cycles := c.cycles + 1, tail := if c.committed then c.tail + 1 else 0 }

/-- The microword is not the last of a loop body. -/
def NotLast (c : Ctx) : Prop := ∀ l ∈ c.loops, l.last ≠ c.pc

/-- Outside a delay slot, a mode shadow and a loop. -/
def Straight (c : Ctx) : Prop := c.slot = none ∧ c.shadow = none ∧ c.loops = []

/-- R159: a branch: context, nanoword index, registers named, whether it is taken, and its target. -/
def branchForm (s : State) : Instr → Option (CtxId × Nat × List Reg × Bool × BitVec 14)
  | .br x t => some (x, 0x100, [], true, t)
  | .bz x t => some (x, 0x101, [], (s.ctx x).z, t)
  | .bnz x t => some (x, 0x102, [], !(s.ctx x).z, t)
  | .bc x t => some (x, 0x103, [], (s.ctx x).c, t)
  | .bnc x t => some (x, 0x104, [], !(s.ctx x).c, t)
  | .bn x t => some (x, 0x105, [], (s.ctx x).n, t)
  | .bnn x t => some (x, 0x106, [], !(s.ctx x).n, t)
  | .bv x t => some (x, 0x107, [], (s.ctx x).v, t)
  | .bnv x t => some (x, 0x108, [], !(s.ctx x).v, t)
  | .blt x t => some (x, 0x109, [], (s.ctx x).n != (s.ctx x).v, t)
  | .bge x t => some (x, 0x10A, [], (s.ctx x).n == (s.ctx x).v, t)
  | .bhi x t => some (x, 0x10B, [], !(s.ctx x).c && !(s.ctx x).z, t)
  | .bls x t => some (x, 0x10C, [], (s.ctx x).c || (s.ctx x).z, t)
  | .jr x n => some (x, 0x10D, [n], true, (s.ctx x).w[n].setWidth 14)
  | _ => none

/-- R116: a loop instruction: context, nanoword index, registers named, count, and the body's length less one. -/
def loopForm (s : State) : Instr → Option (CtxId × Nat × List Reg × BitVec 14 × BitVec 6)
  | .loop x n a => some (x, 0x110, [], n, a)
  | .loopr x r a => some (x, 0x111, [r], (s.ctx x).w[r].setWidth 14, a)
  | _ => none

/-- R167: MODE and MODER: context, nanoword index, registers named, the TID they bring, and IMM12. -/
def modeForm (s : State) : Instr → Option (CtxId × Nat × List Reg × Byte × BitVec 12)
  | .mode x i => some (x, 0x180, [], i.setWidth 8, i)
  | .moder x a i => some (x, 0x181, [a], (s.ctx x).w[a].setWidth 8, i)
  | _ => none

/-- R162: a lookup in a direct table: context, nanoword index, table, the key's width, d and a. -/
def directForm : Instr → Option (CtxId × Nat × Nat × Nat × Reg × Reg)
  | .lbl x d a => some (x, 0x125, 2, 20, d, a)
  | .nh x d a => some (x, 0x126, 3, 18, d, a)
  | .sess x d a => some (x, 0x127, 4, 18, d, a)
  | .pvlan x d a => some (x, 0x128, 5, 20, d, a)
  | .bd x d a => some (x, 0x129, 6, 14, d, a)
  | _ => none

/-- R161: the registers that a lookup of `n` result words with RD `d` writes. -/
def destRegs (d : Reg) (n : Nat) : List Reg := (List.range n).map fun k => Fin.ofNat 16 (d.val / n * n + k)

/-- A lookup of `n` result words under the tag d[3:2], not outstanding, whose registers wait for nothing. -/
structure CanLook (s : State) (x : CtxId) (idx : Nat) (d : Reg) (n : Nat) (uses : List Reg) : Prop where
  ready : Ready s x idx (uses ++ destRegs d n)
  tag : (s.ctx x).look[d.val / 4]'(by omega) = none

/-- R109, R160: the lookup `l` is outstanding under the tag of `d`, with its `n` result registers, and apart from that and
what `eff` brings in the context is as a straight-line microword leaves it. -/
structure Looks (c c' eff : Ctx) (table : Nat) (d : Reg) (n : Nat) (words : List Word) : Prop where
  rest : Follows c c' { eff with look := c'.look }
  others : ∀ t : Fin 4, t.val ≠ d.val / 4 → c'.look[t] = c.look[t]
  it : ∃ l, c'.look[d.val / 4]'(by omega) = some l ∧ l.table = table ∧ l.nres = n ∧ l.words = words ∧
    (n ≠ 0 → l.rd = d.val / n * n)

/-- A lookup issues: its context becomes `c'`, and the activity counters advance, the lookups by one (R416; what else they
count is the model's choice, log entry 124). -/
def Issues (i : Instr) (s : State) (x : CtxId) (c' : Ctx) : Prop :=
  ∃ t, exec i s = .next t ∧ t = ({ s with acts := t.acts }).setCtx x c' ∧ t.actOf x.slice 1 = s.actOf x.slice 1 + 1

/-- R207-R210: the words of an entry of `n` words of a direct table, where they have good parity and the entry is valid
(bit 31 of word 0, of word 2 for sessions; a next hop has none). -/
def entryWords (s : State) (sl : Slice) (t n k : Nat) : List Word :=
  (List.range n).map fun j => s.winWord (slInst .fwd sl) (t - 2) (n * k + j)

/-- A route of an instance covers an address of its family (R209). -/
def Covers (r : Route) (v6 : Bool) (inst bits a : Nat) : Prop :=
  r.v6 = v6 ∧ r.inst = inst ∧ a / 2 ^ (bits - r.plen) = r.addr.toNat / 2 ^ (bits - r.plen)

/-- The result of an LPM lookup: the longest route that covers the address gives its data, HIT and its length; with none,
the miss result of the table (R209-R211). -/
def LpmResult (s : State) (sl : Slice) (v6 : Bool) (tid : Byte) (a : Nat) (words : List Word) : Prop :=
  let bits := if v6 then 128 else 32
  let inst := fld (s.ent (slInst .fwd sl) 7 tid.toNat 0) (if v6 then 8 else 0) 8
  (∀ r ∈ (s.fwd sl).routes, Covers r v6 inst bits a →
    (∀ q ∈ (s.fwd sl).routes, Covers q v6 inst bits a → q ≠ r → q.plen < r.plen) →
    words = [(r.rdata.setWidth 32) ||| 0x80000000, BitVec.ofNat 32 r.plen]) ∧
  ((∀ r ∈ (s.fwd sl).routes, ¬ Covers r v6 inst bits a) → words = (s.missResult sl (if v6 then 1 else 0)).take 2)

end Sys2Proof.Spec

open Sys2Proof.Spec in
/-- R115, R159: a branch outside a delay slot that is not the last microword of a loop body goes on to its delay slot,
remembering its target when it is taken on the flags as they stand. -/
def Sys2Proof.Spec.BranchesRememberTheirTarget : Prop :=
  ∀ (i : Instr) (s : State) (x : CtxId) (idx : Nat) (uses : List Reg) (taken : Bool) (tgt : BitVec 14),
    branchForm s i = some (x, idx, uses, taken, tgt) → Ready s x idx uses → TailOk (s.ctx x) →
    (s.ctx x).slot = none → NotLast (s.ctx x) →
    exec i s = .next ((s.countMw x).setCtx x { counted (shadowed (s.ctx x)) with
      pc := (s.ctx x).pc + 1, slot := some (if taken then some tgt else none) })

open Sys2Proof.Spec in
/-- R115-R117: after the delay slot of a taken branch control goes to the target; a mode shadow ends with its TID and VIEW
in force; a loop body's last microword repeats the body while its counter, decremented, is not 0, and the counters of a loop
that has ended are 0 (the model's choice, log entry 117). Each is said of NOP. -/
def Sys2Proof.Spec.SequencingRules : Prop :=
  ∀ (s : State) (x : CtxId), Ready s x 0x000 [] → TailOk (s.ctx x) →
    let c := s.ctx x
    (∀ tgt, c.slot = some (some tgt) → c.shadow = none → c.loops = [] → ∃ c', exec (.nop x) s = .next ((s.countMw x).setCtx x c') ∧
      { c' with lc0 := c.lc0, lc1 := c.lc1 } = { counted c with pc := tgt, slot := none }) ∧
    (c.slot = some none → c.shadow = none → c.loops = [] →
      exec (.nop x) s = .next ((s.countMw x).setCtx x { counted c with pc := c.pc + 1, slot := none })) ∧
    (c.slot = none → c.loops = [] → exec (.nop x) s = .next ((s.countMw x).setCtx x { counted (shadowed c) with pc := c.pc + 1 })) ∧
    (∀ l, c.slot = none → c.shadow = none → c.loops = [l] → c.pc = l.last →
      (1 < c.lc0.toNat → exec (.nop x) s = .next ((s.countMw x).setCtx x { counted c with pc := l.first, lc0 := c.lc0 - 1 })) ∧
      (c.lc0.toNat ≤ 1 → exec (.nop x) s =
        .next ((s.countMw x).setCtx x { counted c with pc := c.pc + 1, loops := [], lc0 := 0, lc1 := 0 })))

open Sys2Proof.Spec in
/-- R116: LOOP and LOOPR outside a delay slot and not last in a body skip the body when the count is 0; else they push a
loop over the next AUX6 + 1 microwords, counted by lc0 for the first loop and lc1 for one nested in it. -/
def Sys2Proof.Spec.LoopsPushTheirBody : Prop :=
  ∀ (i : Instr) (s : State) (x : CtxId) (idx : Nat) (uses : List Reg) (n : BitVec 14) (a : BitVec 6),
    loopForm s i = some (x, idx, uses, n, a) → Ready s x idx uses → (s.ctx x).committed = false →
    (s.ctx x).slot = none → NotLast (s.ctx x) → (s.ctx x).loops.length < 2 →
    let c := s.ctx x
    let last := c.pc + 1 + a.setWidth 14
    exec i s = .next ((s.countMw x).setCtx x (if n = 0 then { counted (shadowed c) with pc := last + 1 } else
      { counted (shadowed c) with
        pc := c.pc + 1, loops := c.loops ++ [⟨c.pc + 1, last⟩]
        lc0 := if c.loops = [] then n else c.lc0, lc1 := if c.loops = [] then c.lc1 else n }))

open Sys2Proof.Spec in
/-- R117, R167: MODE and MODER of a packet put the TID and VIEW they name, each kept where its keep bit is set, into the
mode shadow: the next microword still runs under the old ones. -/
def Sys2Proof.Spec.ModeActsAfterItsShadow : Prop :=
  ∀ (i : Instr) (s : State) (x : CtxId) (idx : Nat) (uses : List Reg) (tid : Byte) (imm : BitVec 12),
    modeForm s i = some (x, idx, uses, tid, imm) → Ready s x idx uses → isHk x = false → (s.ctx x).committed = false →
    Straight (s.ctx x) →
    let c := s.ctx x
    exec i s = .next ((s.countMw x).setCtx x { counted c with
      pc := c.pc + 1
      shadow := some (if imm.getLsbD 10 then c.tid else tid, if imm.getLsbD 11 then c.view else imm.getLsbD 8) })

/-- Branches and their delay slot, loops and the mode shadow; the counters of an ended loop are the model's choice (log entry
117): `BranchesRememberTheirTarget`, `SequencingRules`, `LoopsPushTheirBody`, `ModeActsAfterItsShadow`. -/
def Obligations.BranchesLoopsAndModes : Prop :=
  Sys2Proof.Spec.BranchesRememberTheirTarget ∧
  Sys2Proof.Spec.SequencingRules ∧
  Sys2Proof.Spec.LoopsPushTheirBody ∧
  Sys2Proof.Spec.ModeActsAfterItsShadow

open Sys2Proof.Spec in
/-- R109, R160-R162, R207-R210: a lookup in a direct table takes its index from the key's low bits, and is outstanding
under its tag with the entry's words where the entry is good and valid, else with the table's miss result. -/
def Sys2Proof.Spec.DirectLookupsIssue : Prop :=
  ∀ (i : Instr) (s : State) (x : CtxId) (idx t bits : Nat) (d a : Reg), directForm i = some (x, idx, t, bits, d, a) →
    let n := if t = 3 ∨ t = 4 then 4 else 2
    let k := (s.ctx x).w[a].toNat % 2 ^ bits
    let l := entryWords s x.slice t n k
    let valid := t = 3 ∨ ((l[if t = 4 then 2 else 0]?).getD 0).getLsbD 31 = true
    CanLook s x idx d n [a] → (s.ctx x).committed = false →
    (∀ j, j < n → s.badWord (slInst .fwd x.slice) (t - 2) (n * k + j) = false) →
    ∃ c' words, Issues i s x c' ∧ Looks (s.ctx x) c' (s.ctx x) t d n words ∧
      (valid → words = l) ∧ (¬ valid → words = (s.missResult x.slice t).take n)

open Sys2Proof.Spec in
/-- R109, R162, R209-R212: LPM4 and LPM6 look the address up in the LPM instance of the TID: where the trie's words have good
parity, the longest covering route's data, HIT and length, or the miss result. -/
def Sys2Proof.Spec.LpmLookupsIssue : Prop :=
  ∀ (s : State) (x : CtxId) (d : Reg), (s.ctx x).committed = false → (s.fwd x.slice).badNodes = [] →
    (∀ a : Reg, CanLook s x 0x120 d 2 [a] → ∃ c' words, Issues (.lpm4 x d a) s x c' ∧
      Looks (s.ctx x) c' (s.ctx x) 0 d 2 words ∧ LpmResult s x.slice false (s.ctx x).tid (s.ctx x).w[a].toNat words) ∧
    (∀ k : Fin 4, CanLook s x (0x121 + k.val) d 2 [] → ∃ c' words, Issues (.lpm6 x k d) s x c' ∧
      Looks (s.ctx x) c' (s.ctx x) 1 d 2 words ∧ LpmResult s x.slice true (s.ctx x).tid (s.ctx x).k[k].toNat words)

namespace Sys2Proof.Spec

/-- R163: a search: context, nanoword index, profile, width code (0-2), result words, d, registers of the key, the key. -/
def searchForm (s : State) : Instr → Option (CtxId × Nat × Reg × Nat × Nat × Reg × List Reg × Nat)
  | .srch160 x p d a => some (x, 0x130 + p.val, p, 0, 2, d, [a],
      ((s.ctx x).w[a] ++ (s.ctx x).k[0]).toNat)
  | .srch320 x p d a => some (x, 0x140 + p.val, p, 1, 4, d, [a, a + 1],
      ((s.ctx x).w[a + 1] ++ (s.ctx x).w[a] ++ (s.ctx x).k[1] ++ (s.ctx x).k[0]).toNat)
  | .srch640 x p d a => some (x, 0x150 + p.val, p, 2, 4, d, [a, a + 1, a + 2, a + 3],
      ((s.ctx x).w[a + 3] ++ (s.ctx x).w[a + 2] ++ (s.ctx x).w[a + 1] ++ (s.ctx x).w[a] ++ (s.ctx x).k[3] ++
        (s.ctx x).k[2] ++ (s.ctx x).k[1] ++ (s.ctx x).k[0]).toNat)
  | _ => none

/-- R187-R189: the words a search returns, HIT in bit 31 of word 0: the action of the row found, or the profile's default
action: that of the epoch in a versioned partition (windows 3 and 4), window 7 otherwise. -/
def searchWords (s : State) (sl : Slice) (tid : Byte) (p : Reg) (width key : Nat) (epoch : Bool) : List Word :=
  let dflt := fun (w : Nat) => (s.entry (slInst .pcl sl) w p.val).modify 0 fun v => v &&& 0x7FFFFFFF
  match s.profilePart sl tid p.val width with
  | none => dflt 7
  | some w => match (s.asaSearch sl w epoch key (s.asaMask sl p.val) 0).1 with
    | none => dflt (if w.getLsbD 13 then (if epoch then 4 else 3) else 7)
    | some r => (s.entry (slInst .pcl sl) 5 r).modify 0 fun v => v ||| 0x80000000

/-- R170: a raw access of words `a` to `a + m - 1` of a table within its bounds. -/
def rawForm : Instr → Option (CtxId × Nat × Fin 8 × Nat × Bool × Reg × Reg)
  | .trd x t d a => some (x, 0x1C0 + t.val, t, 1, false, d, a)
  | .trd2 x t d a => some (x, 0x1C8 + t.val, t, 2, false, d, a)
  | .twr x t d a => some (x, 0x1D0 + t.val, t, 1, true, d, a)
  | .twr2 x t d a => some (x, 0x1D8 + t.val, t, 2, true, d, a)
  | _ => none

/-- R227: the context runs the ageing routine, and AGE_EN is 1. -/
def Sweeps (s : State) (x : CtxId) : Prop :=
  s.regB (slInst .fwd x.slice) R.FWD_AGECFG 15 = true ∧
  (s.ctx x).entry = 240 + s.regF (slInst .fwd x.slice) R.FWD_LRNCFG 8 4

/-- A lookup whose return reports nothing outside its context. -/
def Plain (l : Lookup) : Prop :=
  l.countRow = none ∧ l.falseRows = [] ∧ l.multi = false ∧ l.damaged = [] ∧ l.learn = none ∧ l.mapErr = false

/-- R178-R180: the frame of context `x` holds slot `r`. -/
def HoldsSlot (s : State) (x : CtxId) (r : Slot) : Prop :=
  ((s.pcl x.slice).rob.find? fun q => q.fid = (s.ctx x).fid) = some r

/-- R92: the descriptor that COMMIT emits: what the program wrote, reserved byte 11 as 0, and the fields of the device. -/
def Emits (c : Ctx) (d : Desc) : Prop :=
  d.fid = c.fid ∧ d.rd.length = 64 ∧
  (∀ k, k < 48 → d.rd[k]? = some (if k = 11 then 0 else c.rd.get k)) ∧
  d.rd[48]? = some c.tid ∧ d.rd[49]? = some (c.md.get 0) ∧
  d.rd[50]? = some (BitVec.ofNat 8 (c.epoch.toNat + 2 * c.restarted.toNat)) ∧ d.rd[51]? = some 0 ∧
  (∀ k, k < 4 → d.rd[52 + k]? = some (c.md.get (20 + k))) ∧ ∀ k, k < 8 → d.rd[56 + k]? = some (c.md.get (8 + k))

end Sys2Proof.Spec

open Sys2Proof.Spec in
/-- R163, R187-R189, R199, R235-R239: a search is outstanding under its tag with the action of the row it found, or with the
default action of the profile, in the epoch of the packet, for a housekeeping context the current one (the model's choice, log
entry 117). -/
def Sys2Proof.Spec.SearchesIssue : Prop :=
  ∀ (i : Instr) (s : State) (x : CtxId) (idx : Nat) (p : Reg) (width n : Nat) (d : Reg) (uses : List Reg) (key : Nat),
    searchForm s i = some (x, idx, p, width, n, d, uses, key) → CanLook s x idx d n uses →
    (s.ctx x).committed = false →
    (∀ w k, s.badEntry (slInst .pcl x.slice) w k = false) →
    ∃ c', Issues i s x c' ∧
      Looks (s.ctx x) c' (s.ctx x) (8 + p.val) d n
        ((searchWords s x.slice (s.ctx x).tid p width key (s.epochOf x)).take n)

open Sys2Proof.Spec in
/-- R162, R222, R223: L2 looks up the address and bridge domain of w[a] and w[a+1] in the L2 partition, without learning:
the row's data with HIT, or the miss result. -/
def Sys2Proof.Spec.L2LookupIssues : Prop :=
  ∀ (s : State) (x : CtxId) (d a : Reg), CanLook s x 0x12A d 2 [a, a + 1] → (s.ctx x).committed = false →
    (∀ k, s.badWord (slInst .fwd x.slice) 5 k = false) →
    let w := (s.ctx x).w
    let key : BitVec 62 := w[a + 1].extractLsb' 16 14 ++ (w[a] ++ w[a + 1].extractLsb' 0 16)
    ∃ c', Issues (.l2 x d a) s x c' ∧
      Looks (s.ctx x) c' (s.ctx x) 7 d 2 (match (s.l2Search x.slice key).1 with
        | none => (s.missResult x.slice 7).take 2
        | some r => [s.winWord (slInst .fwd x.slice) 5 (2 * r) ||| 0x80000000,
            s.winWord (slInst .fwd x.slice) 5 (2 * r + 1)]) ∧
      ∀ l, c'.look[d.val / 4]'(by omega) = some l → l.learn = none

/-- Direct, longest-prefix and L2 lookups are outstanding with the words the tables give: `DirectLookupsIssue`,
`LpmLookupsIssue`, `L2LookupIssues`. -/
def Obligations.TableLookupsIssue : Prop :=
  Sys2Proof.Spec.DirectLookupsIssue ∧
  Sys2Proof.Spec.LpmLookupsIssue ∧
  Sys2Proof.Spec.L2LookupIssues

open Sys2Proof.Spec in
/-- R355-R358: METER returns the colour of the frame's counted length against the meter's buckets as they stand, debits the
buckets of that colour, and records the charge; a disabled meter returns the input colour and debits nothing. -/
def Sys2Proof.Spec.MeterColoursAndDebits : Prop :=
  ∀ (s : State) (x : CtxId) (d a : Reg), CanLook s x 0x12B d 2 [a] → isHk x = false → (s.ctx x).committed = false →
    let c := s.ctx x
    let m := c.w[a].toNat % 2 ^ 17
    let w0 := s.ent (slInst .tmg x.slice) 5 m 0
    let len := s.countedLen x.slice c.mdLen (fld w0 3 6)
    let r := s.refillMeter x.slice m
    let l1 := bucketLevel (fld (s.ent (slInst .tmg x.slice) 5 m 2) 0 24) ((r.tmg x.slice).mtrC.get m)
    let l2 := bucketLevel (fld (s.ent (slInst .tmg x.slice) 5 m 4) 0 24) ((r.tmg x.slice).mtrE.get m)
    let inp := if w0.getLsbD 2 then c.colour else 0
    let pend : Word := if c.lenFinal then 0 else 1
    s.badEntry (slInst .tmg x.slice) 5 m = false →
    (w0.getLsbD 9 = false → ∃ c', Issues (.meter x d a) s x c' ∧
      Looks c c' c 24 d 2 [BitVec.ofNat 32 inp, pend]) ∧
    (w0.getLsbD 9 = true → ∀ col d1 d2, meterColour (fld w0 0 2) inp (len * 1000000) l1 l2 = (col, d1, d2) →
      ∃ t c', exec (.meter x d a) s = .next t ∧ t = ({ s with tmgs := t.tmgs, acts := t.acts }).setCtx x c' ∧
        Looks c c' { c with charges := c'.charges } 24 d 2 [BitVec.ofNat 32 col, pend] ∧
        c'.charges = (if d1 || d2 then c.charges ++ [⟨m, len, d1, d2, !c.lenFinal, fld w0 3 6⟩] else c.charges) ∧
        (t.tmg x.slice).mtrC.get m = (r.tmg x.slice).mtrC.get m + (if d1 then len * 1000000 else 0) ∧
        (t.tmg x.slice).mtrE.get m = (r.tmg x.slice).mtrE.get m + (if d2 then len * 1000000 else 0))

open Sys2Proof.Spec in
/-- R112, R119, R290, R359, R360: after COMMIT, COUNT hands its request to the counters' queue when that has room, else
keeps it until END, and SAMPLE adds its sampler to the descriptor's list. -/
def Sys2Proof.Spec.TailRequests : Prop :=
  ∀ (s : State) (x : CtxId) (d a : Reg), (s.ctx x).committed = true → (s.ctx x).tail < 8 →
    let c := s.ctx x
    let key := c.w[a].toNat
    let req : CountReq := ⟨key % 2 ^ 20, c.tid.toNat, c.mdLen, if isHk x || c.lenFinal then none else some c.fid⟩
    (CanLook s x 0x12C d 0 [a] → (s.tmg x.slice).countQ.length < 512 →
      ∃ t c', exec (.count x d a) s = .next t ∧ t = ({ s.updTmg x.slice fun t => { t with countQ := t.countQ ++ [req] } with
          acts := t.acts }).setCtx x c' ∧
        Looks c c' c 25 d 0 []) ∧
    (CanLook s x 0x12C d 0 [a] → 512 ≤ (s.tmg x.slice).countQ.length → ∃ t c', exec (.count x d a) s = .next t ∧
        t.ctx x = c' ∧ (t.tmg x.slice).countQ = (s.tmg x.slice).countQ ∧
        Looks c c' { c with tailReqs := c.tailReqs ++ [req] } 25 d 0 []) ∧
    (CanLook s x 0x12D d 0 [a] → isHk x = false → ∃ c', Issues (.sample x d a) s x c' ∧
        Looks c c' { c with samples := c.samples ++ [(key % 16, decide (key / 16 % 2 = 1))] } 26 d 0 [])

/-- METER colours and debits; COUNT and SAMPLE after COMMIT: `MeterColoursAndDebits`, `TailRequests`. -/
def Obligations.MetersAndTailRequests : Prop :=
  Sys2Proof.Spec.MeterColoursAndDebits ∧
  Sys2Proof.Spec.TailRequests

open Sys2Proof.Spec in
/-- R170-R172, R215: a raw read of good words of tables 2 to 7 returns them, low half first, and one of the node memory of tables
0 and 1 returns words the spec leaves open (a read of table 7 by the ageing routine checks ages besides: `SweepAgesRows`); a
raw write stores lanes of k0 into its words in one step, under the fields of the entry, as it issues (that it does so then is the
model's choice, log entry 132), and a write to node memory raises 0x06 (R215). -/
def Obligations.RawAccesses : Prop :=
  ∀ (i : Instr) (s : State) (x : CtxId) (idx : Nat) (t : Fin 8) (m : Nat) (wr : Bool) (d a : Reg),
    rawForm i = some (x, idx, t, m, wr, d, a) → isHk x = true → (s.ctx x).committed = false →
    CanLook s x idx d (if wr then 0 else 2 * m) [a] →
    let addr := (s.ctx x).w[a].toNat
    let win := t.val - 2
    addr + m ≤ s.rawSize x.slice t.val →
    (wr = false → t.val ≤ 1 → ∃ u c' words, exec i s = .next u ∧
      u = ({ s with free := u.free, acts := u.acts }).setCtx x c' ∧
      Looks (s.ctx x) c' (s.ctx x) t.val d (2 * m) words) ∧
    (wr = false → 2 ≤ t.val → (∀ k, s.badWord (slInst .fwd x.slice) win k = false) → t ≠ 7 ∨ ¬ Sweeps s x →
      ∃ c', Issues i s x c' ∧ Looks (s.ctx x) c' (s.ctx x) t.val d (2 * m)
        ((List.range (2 * m)).map fun j => s.winWord (slInst .fwd x.slice) win (2 * addr + j))) ∧
    (wr = true → t.val ≤ 1 → Quiet s → s.regB (slInst .pup x.slice) R.PUP_MCHK0 23 = false →
      (s.pup x.slice).abandons.get ((s.ctx x).entry - 240) < 2 → ∃ u, exec i s = .next u ∧
      fld (u.reg (slInst .pup x.slice) R.PUP_MCHK0) 24 8 = 6) ∧
    (wr = true → 2 ≤ t.val → ∃ u c', exec i s = .next u ∧
      u = ({ s with win := u.win, bad := u.bad, fwds := u.fwds, acts := u.acts }).setCtx x c' ∧
      Looks (s.ctx x) c' (s.ctx x) t.val d 0 [] ∧
      ∀ k, u.winWord (slInst .fwd x.slice) win k =
        if 2 * addr ≤ k ∧ k < 2 * addr + 2 * m then
          ((s.ctx x).k[0]).extractLsb' (32 * (k - 2 * addr)) 32 &&&
            (if t.val = 7 then (if k % 2 = 0 then 0x03FFFFFF else 0xFFFFFFFF)
             else winMask .fwd win (k / 2 / tblWords t.val) (k / 2 % tblWords t.val * 2 + k % 2))
        else s.winWord (slInst .fwd x.slice) win k)

open Sys2Proof.Spec in
/-- R109, R110, R164: the result of a lookup that reports nothing is written to its registers, and its tag and they are free;
a bus error in its place raises 0x04, with no result. -/
def Sys2Proof.Spec.LookupResultsReturn : Prop :=
  ∀ (s : State) (x : CtxId) (tag : Fin 4) (l : Lookup), Quiet s → (s.ctx x).look[tag] = some l → Plain l →
    s.tableOn x.slice l.table = true → l.words.length ≤ 4 →
    (isHk x = false → (s.ctx x).running = true → (s.ctx x).committed = false → (s.ctx x).restarted = false →
      s.regB (slInst .pup x.slice) R.PUP_MCHK0 23 = false →
      ∃ t, exec (.lookupResult x tag true) s = .next t ∧ t.ctx x = {} ∧ fld (t.reg (slInst .pup x.slice) R.PUP_MCHK0) 24 8 = 4) ∧
    ∃ c', exec (.lookupResult x tag false) s = .next (s.setCtx x c') ∧
      { c' with w := (s.ctx x).w, look := (s.ctx x).look } = s.ctx x ∧ c'.look = (s.ctx x).look.set tag none ∧
      ∀ r : Reg, c'.w[r] = ((List.range l.words.length).find? fun j => (l.rd + j) % 16 = r.val).elim (s.ctx x).w[r]
        fun j => (l.words[j]?).getD 0

/-- Searches find their row's action or the default, and results return to their registers (the epoch of a housekeeping
context: the model's choice, log entry 117): `SearchesIssue`, `LookupResultsReturn`. -/
def Obligations.SearchesAndResults : Prop :=
  Sys2Proof.Spec.SearchesIssue ∧
  Sys2Proof.Spec.LookupResultsReturn

open Sys2Proof.Spec in
/-- R92, R113, R118, R168: COMMIT of a packet with no lookup outstanding and an ACTION that is not reserved emits its
descriptor into the frame's slot, and the program goes on to its tail; CMTEND ends the program with the descriptor ready.
A housekeeping routine emits nothing (R169). -/
def Sys2Proof.Spec.CommitEmitsTheDescriptor : Prop :=
  ∀ (s : State) (x : CtxId), Straight (s.ctx x) → (s.ctx x).committed = false →
    (∀ t : Fin 4, (s.ctx x).look[t] = none) →
    let c := s.ctx x
    (∀ r, isHk x = false → Ready s x 0x184 [] → (c.rd.get 0).toNat ≤ 3 → HoldsSlot s x r → r.st ≠ .skipped →
      ∃ t d, exec (.commit x) s = .next t ∧ Emits c d ∧ HoldsSlot t x { r with st := .committed d } ∧
        t = ({ s.countMw x with pcls := t.pcls }).setCtx x
          { counted c with pc := c.pc + 1, committed := true, charges := [] }) ∧
    (∀ r, isHk x = false → Ready s x 0x186 [] → (c.rd.get 0).toNat ≤ 3 → HoldsSlot s x r → r.st ≠ .skipped →
      c.tailReqs = [] → ∃ t d, exec (.cmtend x) s = .next t ∧ Emits c d ∧ t.ctx x = {} ∧
        ((t.pcl x.slice).rob.find? fun q => q.fid = c.fid) = some { r with st := .ready { d with samples := c.samples } }) ∧
    (isHk x = true → Ready s x 0x184 [] → exec (.commit x) s =
      .next ((s.countMw x).setCtx x { counted c with pc := c.pc + 1, committed := true, charges := [], cycles := 0 }))

/-- RD stores write their bytes, and COMMIT emits RD as it then stands with the device's own fields (RDST8 of w15: the model's
choice, log entry 132): `RdStores`, `CommitEmitsTheDescriptor`. -/
def Obligations.RdStoresReachTheDescriptor : Prop :=
  Sys2Proof.Spec.RdStores ∧
  Sys2Proof.Spec.CommitEmitsTheDescriptor

open Sys2Proof.Spec in
/-- R119, R120, R132, R181, R360: END after COMMIT makes the descriptor ready; END and DROP before it drop the packet, its
slot freed. In each case the context is free. END hands the counter requests of the tail to their queue; while that is full it
waits, and after 16 cycles it ends all the same and the requests left are discarded and counted (that each command of END is
one of the cycles, and that the discard comes with the one after the 16th, is the model's reading, log entry 73). END of a
housekeeping routine frees its context, and the routine's abandons are no more consecutive. -/
def Sys2Proof.Spec.EndAndDropFreeTheContext : Prop :=
  (∀ (s : State) (x : CtxId), Ready s x 0x185 [] → Straight (s.ctx x) → isHk x = true → (s.ctx x).tailReqs = [] →
    ∃ t, exec (.end_ x) s = .next t ∧ t.ctx x = {} ∧ (t.pup x.slice).abandons.get ((s.ctx x).entry - 240) = 0 ∧
      t = { s with ctxs := t.ctxs, pups := t.pups, regs := t.regs, acts := t.acts }) ∧
  (∀ (s : State) (x : CtxId) (r : Slot) (d : Desc), Ready s x 0x185 [] → Straight (s.ctx x) → isHk x = false → HoldsSlot s x r →
    (s.ctx x).committed = true → r.st = .committed d →
    let c := s.ctx x
    let q := (s.tmg x.slice).countQ
    let ended := fun t : State => t.ctx x = {} ∧
      ((t.pcl x.slice).rob.find? fun q => q.fid = c.fid) = some { r with st := .ready { d with samples := c.samples } }
    (c.tailReqs ≠ [] → q.length + c.tailReqs.length ≤ 512 → ∃ t, exec (.end_ x) s = .next t ∧ ended t ∧
      (t.tmg x.slice).countQ = q ++ c.tailReqs) ∧
    (c.tailReqs ≠ [] → 512 ≤ q.length → c.endWait < 16 → ∃ t, exec (.end_ x) s = .next t ∧
      t.ctx x = { c with endWait := c.endWait + 1, cycles := c.cycles + 1 } ∧ (t.tmg x.slice).countQ = q ∧
      t = { s with ctxs := t.ctxs, tmgs := t.tmgs }) ∧
    (∀ req, c.tailReqs = [req] → 512 ≤ q.length → 16 ≤ c.endWait → ∃ t, exec (.end_ x) s = .next t ∧ ended t ∧
      (t.tmg x.slice).countQ = q ∧ (t.reg (slInst .tmg x.slice) R.TMG_CNTDROP).toNat =
        min ((s.reg (slInst .tmg x.slice) R.TMG_CNTDROP).toNat + 1) (2 ^ 32 - 1))) ∧
  ∀ (s : State) (x : CtxId) (r : Slot), Straight (s.ctx x) → isHk x = false → HoldsSlot s x r → (s.ctx x).tailReqs = [] →
    let c := s.ctx x
    (∀ d, Ready s x 0x185 [] → c.committed = true → r.st = .committed d → ∃ t, exec (.end_ x) s = .next t ∧
      t.ctx x = {} ∧
      ((t.pcl x.slice).rob.find? fun q => q.fid = c.fid) = some { r with st := .ready { d with samples := c.samples } }) ∧
    (Ready s x 0x185 [] → c.committed = false → ∃ t, exec (.end_ x) s = .next t ∧ t.ctx x = {} ∧
      ((t.pcl x.slice).rob.find? fun q => q.fid = c.fid) = none) ∧
    (Ready s x 0x187 [] → c.committed = false → ∃ t, exec (.drop x) s = .next t ∧ t.ctx x = {} ∧
      ((t.pcl x.slice).rob.find? fun q => q.fid = c.fid) = none)

open Sys2Proof.Spec in
/-- R130, R131: SAFE restarts the watchdog and suspends the routine when preemption (by the host: its HK_EN is 0, log entry
36), a pause of the governor or a snapshot freeze is asked; YIELD suspends it; a routine suspended by SAFE resumes once
nothing is asked. -/
def Sys2Proof.Spec.SafeYieldResume : Prop :=
  ∀ (s : State) (sl : Slice) (k : Fin 4),
    let x : CtxId := ⟨sl, Fin.ofNat 388 (384 + k.val), 0⟩
    let c := s.ctx x
    let asked := (s.pup sl).preempt || (s.pup sl).freeze ||
      !(s.reg (slInst .pup sl) R.PUP_CTRL).getLsbD (8 + (c.entry - 240)) || s.withheld sl (c.entry - 240)
    (Ready s x 0x1E0 [] → Straight c → c.committed = false → exec (.safe x) s =
      .next ((s.countMw x).setCtx x { counted c with pc := c.pc + 1, cycles := 0, suspended := asked })) ∧
    (Ready s x 0x1E1 [] → Straight c → c.committed = false → exec (.yield x) s =
      .next ((s.countMw x).setCtx x { counted c with pc := c.pc + 1, cycles := 0, suspended := true, yielded := true })) ∧
    (Quiet s → c.running = true → c.suspended = true → s.awake sl = true → asked = false → c.yielded = false →
      ∀ forced, exec (.hkRoutineResume sl k forced) s = .next (s.setCtx x { c with suspended := false, yielded := false }))

open Sys2Proof.Spec in
/-- R94-R96: a customer nanoword with ALUOP 1, every flag, ASEL 0, BSEL 0 and DSTSEL 1 adds its registers at WIDTH: the
result is zero-extended, and the flags are those of the narrow sum. -/
def Sys2Proof.Spec.CustomerAddAtWidth : Prop :=
  ∀ (s : State) (x : CtxId) (mw : Word) (width : Fin 3), 0x400 ≤ fld mw 20 12 →
    nanoOf (s.entry (slInst .pup x.slice) 1 (fld mw 20 12)) =
      { aluop := 1, flagmask := 15, dstsel := 1, width := width.val, ctxok := 3, dslotok := true } →
    let d : Reg := Fin.ofNat 16 (fld mw 16 4)
    let a : Reg := Fin.ofNat 16 (fld mw 12 4)
    let b : Reg := Fin.ofNat 16 (fld mw 8 4)
    let c := s.ctx x
    let bits := 32 / 2 ^ width.val
    let u := c.w[a].toNat % 2 ^ bits
    let v := c.w[b].toNat % 2 ^ bits
    let r := (u + v) % 2 ^ bits
    Ready s x (fld mw 20 12) [d, a, b] → c.committed = false →
    ∃ c', exec (.customerNanoword x mw) s = .next ((s.countMw x).setCtx x c') ∧ Follows c c' { c with
      w := c.w.set d (BitVec.ofNat 32 r), z := decide (r = 0), n := decide (2 ^ (bits - 1) ≤ r), c := decide (2 ^ bits ≤ u + v)
      v := (decide (u < 2 ^ (bits - 1)) == decide (v < 2 ^ (bits - 1))) &&
        (decide (u < 2 ^ (bits - 1)) != decide (r < 2 ^ (bits - 1))) }

/-- The field of a microword that names a register. -/
def Sys2Proof.Spec.field (r : Reg) : BitVec 4 := BitVec.ofFin r

open Sys2Proof.Spec in
/-- R93: a microword is its nanoword's index in bits 31 to 20 and the operand fields of its format below; it runs as the
instruction that the index names. Said of one instruction of each format, and of an unassigned index. -/
def Sys2Proof.Spec.MicrowordsNameTheirInstruction : Prop :=
  ∀ (s : State) (x : CtxId),
    (∀ d a b : Reg, exec (.customerNanoword x (0x011#12 ++ field d ++ field a ++ field b ++ 0#8)) s =
      exec (.add x d a b) s) ∧
    (∀ (d a : Reg) (i : BitVec 12), exec (.customerNanoword x (0x029#12 ++ field d ++ field a ++ i)) s =
      exec (.addi x d a i) s) ∧
    (∀ (d : Reg) (off : BitVec 8), exec (.customerNanoword x (0x051#12 ++ field d ++ off ++ 0#8)) s =
      exec (.ext16 x d off) s) ∧
    (∀ tgt : BitVec 14, exec (.customerNanoword x (0x101#12 ++ 0#6 ++ tgt)) s = exec (.bz x tgt) s) ∧
    (∀ (d : Reg) (i : BitVec 16), exec (.customerNanoword x (0x038#12 ++ field d ++ i)) s = exec (.movw x d i) s) ∧
    ∀ mw : Word, fld mw 20 12 < 0x400 → baseAssigned (fld mw 20 12) = false →
      exec (.customerNanoword x mw) s = exec (.unassignedBaseNanoword x mw) s

open Sys2Proof.Spec in
/-- R108, R109, R122-R127, R131, R132, R147: the watchdogs (0x05), a lookup that does not return (0x04) and an unassigned
base nanoword (0x06) end the run of a context before COMMIT; a watchdog that has not reached its count may expire while a
lookup blocks the context (the model's choice, log entry 34). A packet that has not restarted waits to restart on another
pup; a routine starts again at its entry; when it fails the third time in a row it ends, is marked failed in PUP_HKSTAT, and the
fault is detected. The first exception is recorded. -/
def Sys2Proof.Spec.ExceptionsEndTheRun : Prop :=
  ∀ (s : State) (x : CtxId), Quiet s → (s.ctx x).running = true → (s.ctx x).committed = false →
    let c := s.ctx x
    let i := slInst .pup x.slice
    let packet := fun (o : Out) (code : Nat) => ∃ t, o = .next t ∧ t.ctx x = {} ∧
      (t.pup x.slice).restarts = (s.pup x.slice).restarts ++ [⟨c.fid, c.seq, c.epoch, c.bank, c.entry, x.pup.val, false⟩] ∧
      (s.regB i R.PUP_MCHK0 23 = false → fld (t.reg i R.PUP_MCHK0) 24 8 = code ∧ t.regB i R.PUP_MCHK0 23 = true ∧
        fld (t.reg i R.PUP_MCHK0) 11 9 = x.pup.val ∧ fld (t.reg i R.PUP_MCHK0) 20 3 = x.ctx.val ∧
        fld (t.reg i R.PUP_MCHK1) 0 14 = c.pc.toNat)
    let blocked := ∃ tag : Fin 4, c.look[tag].isSome = true
    (isHk x = false → c.restarted = false → 1024 ≤ c.cycles ∨ blocked → packet (exec (.watchdogExpiry x) s) 5) ∧
    (∀ tag : Fin 4, isHk x = false → c.restarted = false → c.look[tag].isSome = true →
      packet (exec (.lookupTimeout x tag) s) 4) ∧
    (∀ mw : Word, isHk x = false → c.restarted = false → Ready s x (fld mw 20 12) [Fin.ofNat 16 (fld mw 12 4), Fin.ofNat 16 (fld mw 8 4)] →
      fld mw 20 12 < 0x400 →
      baseAssigned (fld mw 20 12) = false →
      packet (exec (.unassignedBaseNanoword x mw) s) 6) ∧
    (isHk x = true → c.suspended = false → 4096 ≤ c.cycles ∨ blocked → (s.pup x.slice).abandons.get (c.entry - 240) < 2 →
      ∃ t, exec (.hkWatchdogExpiry x) s = .next t ∧
        (t.pup x.slice).abandons.get (c.entry - 240) = (s.pup x.slice).abandons.get (c.entry - 240) + 1 ∧
        t.ctx x = startCtx (s.entryWord x.slice c.bank c.entry) c.bank c.entry) ∧
    (isHk x = true → c.suspended = false → 4096 ≤ c.cycles ∨ blocked → (s.pup x.slice).abandons.get (c.entry - 240) = 2 →
      240 ≤ c.entry → c.entry < 256 → Heard s (12 + x.slice.val) → faultClass s (12 + x.slice.val) ≤ 1 →
      (s.srcCfg (12 + x.slice.val)).getLsbD 8 = false →
      ∃ t, exec (.hkWatchdogExpiry x) s = .next t ∧ t.ctx x = {} ∧ t.regB i R.PUP_HKSTAT (c.entry - 240) = true ∧
        (t.pup x.slice).abandons.get (c.entry - 240) = 0 ∧ isLatched t (12 + x.slice.val) = true)

/-- A customer nanoword adds at WIDTH, and a microword of the base set runs as the instruction that it names; exceptions end the
run of a context: `CustomerAddAtWidth`, `MicrowordsNameTheirInstruction`, `ExceptionsEndTheRun`. -/
def Obligations.CustomerCodeAndExceptions : Prop :=
  Sys2Proof.Spec.CustomerAddAtWidth ∧
  Sys2Proof.Spec.MicrowordsNameTheirInstruction ∧
  Sys2Proof.Spec.ExceptionsEndTheRun

/-! ### Ports -/

namespace Sys2Proof.Spec

/-- R52, R54, R579: the moves of a port that comes up: the port, the state it leaves and the state it enters. Signal
detection counts once the PLL of the port's lane rate has locked; a chip-to-chip port (REACH 0) goes straight to LOCK. -/
def comesUp (s : State) : Instr → Option (Port × Nat × Nat)
  | .signalDetect p =>
    let cfg := (s.port p.val).cfg
    if (s.macReg p.val R.PRT_MSTAT).getLsbD (if 2 ≤ fld cfg 3 3 then 1 else 0) then
      some (p, 1, if s.reach p.val = 0 then 4 else if cfg.getLsbD 8 then 2 else if cfg.getLsbD 9 then 3 else 4)
    else none
  | .anComplete p => some (p, 2, if s.reach p.val ≠ 0 ∧ (s.port p.val).cfg.getLsbD 9 then 3 else 4)
  | .trainingComplete p => some (p, 3, 4)
  | .trainingTimeout p => some (p, 3, 1)
  | .lockAchieved p => some (p, 4, 5)
  | .lockTimeout p => some (p, 4, 1)
  | .alignComplete p => some (p, 5, 6)
  | .alignTimeout p => some (p, 5, 1)
  | _ => none

/-- Nothing of the port is in reception, at its MAC or on the wire, its queues are empty, and it feeds no recovered
clock. -/
structure IdlePort (s : State) (p : Nat) : Prop where
  quiet : Quiet s
  rx : (s.port p).rx = none
  mac : (s.port p).mac = []
  tx : (s.port p).tx = none
  queues : s.portQueues p = []
  clocks : ∀ c, c < 2 → (portLanes p (s.port p).cfg).contains (s.regF tsu4 (R.TSU_RCLK + 4 * c) 0 8) = false

/-- R54, R55, R58, R80, R83: an idle port has left UP for a state: its link status bits are clear, CFG_ERR stays, and PRT_EVENT
says so. -/
structure LeftUp (s t : State) (p st : Nat) : Prop where
  state : t.portState p = st
  status : fld (t.laneReg p R.PRT_PSTAT) 4 3 = 0 ∧ fld (t.laneReg p R.PRT_PSTAT) 8 3 = 0
  error : (t.laneReg p R.PRT_PSTAT).getLsbD 7 = (s.laneReg p R.PRT_PSTAT).getLsbD 7
  event : (t.macReg p R.PRT_EVENT).getLsbD (p % 8) = true
  port : (t.port p).rx = none ∧ (t.port p).mac = [] ∧ (t.port p).tx = none ∧ (t.port p).rxFault = 0
  rest : t = { s with regs := t.regs, ports := t.ports, hif := hifAfter s t }

/-- The value that a write leaves in PRT_PCFG (R79). -/
def pcfgAfter (s : State) (p : Nat) (v : Word) : Word :=
  (s.laneReg p R.PRT_PCFG &&& 0x20000) ||| ((if fld v 18 14 < 64 then setFld v 18 14 64 else v) &&& 0xFFFDFFFF)

/-- A write of the port's PRT_PCFG is made at once, Muzzle is not in force, and no stage sheds ports. -/
structure CanConfigure (s : State) (p : Nat) : Prop where
  reached : Reached s (prtI p)
  muzzle : s.regB flt4 R.FLT_MUZZLE 0 = false
  status : (s.laneReg p R.PRT_PSTAT).getLsbD 11 = false
  stage : s.stage < 4

/-- R49-R51, R57: nobody shares a lane with the port, and the configuration is one of its speed's. -/
def MayEnable (s : State) (p : Nat) (w : Word) : Prop :=
  s.cfgLegal p w = true ∧ s.sharers p w = [] ∧ s.regB knl4 R.KNL_BOOT (12 + (portSlice p).val) = false

end Sys2Proof.Spec

open Sys2Proof.Spec in
/-- R54, R578, R579: each step of bringing a link up, and each timeout, moves a port from its one state to the next and
changes nothing else; in any other state it changes nothing. REACH is read as the port comes up (the model's choice, log entry
111). A PLL that a live port of its macro uses sets its lock bit. -/
def Sys2Proof.Spec.LinksComeUp : Prop :=
  ∀ (s : State), Quiet s →
    (∀ (i : Instr) (p : Port) (a b : Nat), comesUp s i = some (p, a, b) →
      exec i s = .next (if s.portState p.val = a then s.setLane p.val R.PRT_PSTAT 0 4 b else s)) ∧
    (∀ (m : Macro) (b : Bool) (p : Port), p.val / 8 = m.val → (s.portState p.val ≠ 0 ∨ (s.port p.val).waitCal = true) →
      decide (2 ≤ fld (s.port p.val).cfg 3 3) = b →
      exec (.pllLock m b) s = .next (s.setMac (8 * m.val) R.PRT_MSTAT (if b then 1 else 0) 1 1)) ∧
    ∀ (p : Port) (rx tx : BitVec 16), s.portState p.val = 6 → s.portQueues p.val = [] →
      ∃ t, exec (.calComplete p rx tx) s = .next t ∧ t.portState p.val = 7 ∧
        fld (t.laneReg p.val R.PRT_PSTAT) 5 2 = 3 ∧
        fld (t.laneReg p.val R.PRT_TSCAL) 0 16 = rx.toNat ∧ fld (t.laneReg p.val R.PRT_TSCAL) 16 16 = tx.toNat ∧
        (t.macReg p.val R.PRT_EVENT).getLsbD (p.val % 8) = true ∧
        (t.macReg p.val R.PRT_EVENT).getLsbD (8 + p.val % 8) = true ∧
        (s.sleep (portSlice p.val) = 3 → t.regB (slInst .egv (portSlice p.val)) R.EGV_SSTAT 10 = true) ∧
        t = { s with regs := t.regs, ports := t.ports, hif := hifAfter s t }

open Sys2Proof.Spec in
/-- R54, R58, R62, R76, R579: an idle port leaves UP on a loss of signal, on a PLL's loss of lock, at the end of a degrade
window that reached its threshold under AUTO, and with its last lane when it is shed; below UP a loss only changes the
state. -/
def Sys2Proof.Spec.LinksGoDown : Prop :=
  ∀ (s : State) (p : Port), IdlePort s p.val →
    (∀ lane : Port, s.laneOwner lane.val = some p.val →
      (s.portState p.val = 7 → ∃ t, exec (.lossOfSignal lane) s = .next t ∧ LeftUp s t p.val 1) ∧
      (2 ≤ s.portState p.val → s.portState p.val ≤ 6 →
        exec (.lossOfSignal lane) s = .next (s.setLane p.val R.PRT_PSTAT 0 4 1)) ∧
      (s.portState p.val < 2 ∨ 7 < s.portState p.val → exec (.lossOfSignal lane) s = .next s)) ∧
    (∀ (m : Macro) (b : Bool), p.val / 8 = m.val → decide (2 ≤ fld (s.port p.val).cfg 3 3) = b →
      (∀ q : Port, q.val / 8 = m.val → q ≠ p → decide (2 ≤ fld (s.port q.val).cfg 3 3) ≠ b) → s.portState p.val = 7 →
      ∃ t, exec (.pllLockLoss m b) s = .next t ∧ LeftUp s t p.val 1 ∧
        (t.macReg p.val R.PRT_MSTAT).getLsbD (if b then 1 else 0) = false) ∧
    (s.portState p.val = 7 → fld (s.port p.val).cfg 6 2 ≠ 0 →
      let d := s.macReg p.val R.PRT_FECDEG
      2 ^ (10 + fld d 16 4) ≤ (s.port p.val).fecN → fld d 0 16 ≠ 0 → fld d 0 16 ≤ (s.port p.val).fecU → d.getLsbD 20 = true →
      ∃ t, exec (.fecDegWindowEnd p) s = .next t ∧ LeftUp s t p.val 1 ∧
        (t.macReg p.val R.PRT_EVENT).getLsbD (16 + p.val % 8) = true) ∧
    ((s.port p.val).shedLF = true → ((s.port p.val).shedLanes).getD (cfgLanes (s.port p.val).cfg) = 1 →
      s.portState p.val = 7 → ∀ k, s.gov.toShed = [(p.val, k)] →
      ∃ t, exec (.shedTimerExpiry p) s = .next t ∧ LeftUp s { t with gov := s.gov } p.val 8 ∧
        (t.port p.val).shedLF = false ∧ t.gov = { s.gov with shed := s.gov.shed ++ [(p.val, k)], toShed := [] })

/-- A port comes up through its states and goes down on its faults (REACH is read as it comes up: the model's choice, log entry
111): `LinksComeUp`, `LinksGoDown`. -/
def Obligations.LinksComeUpAndGoDown : Prop :=
  Sys2Proof.Spec.LinksComeUp ∧
  Sys2Proof.Spec.LinksGoDown

open Sys2Proof.Spec in
/-- R54, R56, R57, R79, R536: EN from 0 to 1 applies the configuration and takes the port from OFF to WAIT_SIGNAL, or makes
it wait for lane calibration, or refuses it with CFG_ERR; EN 0 takes an idle port to OFF and clears CFG_ERR. -/
def Sys2Proof.Spec.PortsAreEnabled : Prop :=
  ∀ (s : State) (p : Port) (v : Word), CanConfigure s p.val →
    let w := pcfgAfter s p.val v
    (v.getLsbD 0 = true → (s.laneReg p.val R.PRT_PCFG).getLsbD 0 = false →
      ∃ t, exec (.portEnable p v) s = .next t ∧ t.laneReg p.val R.PRT_PCFG = w ∧
        t = { s with regs := t.regs, ports := t.ports, hif := hifAfter s t } ∧
        (MayEnable s p.val w → s.regB knl4 R.KNL_BOOT 5 = true →
          t.portState p.val = 1 ∧ t.port p.val = { s.port p.val with cfg := w, waitCal := false }) ∧
        (MayEnable s p.val w → s.regB knl4 R.KNL_BOOT 5 = false →
          t.portState p.val = s.portState p.val ∧ t.port p.val = { s.port p.val with cfg := w, waitCal := true }) ∧
        (¬ MayEnable s p.val w →
          (t.laneReg p.val R.PRT_PSTAT).getLsbD 7 = true ∧ t.portState p.val = s.portState p.val ∧ t.ports = s.ports)) ∧
    (v.getLsbD 0 = false → IdlePort s p.val → s.regB knl4 R.KNL_BOOT (12 + (portSlice p.val).val) = false →
      ∃ t, exec (.portDisable p v) s = .next t ∧ t.portState p.val = 0 ∧ t.laneReg p.val R.PRT_PCFG = w ∧
        (t.laneReg p.val R.PRT_PSTAT).getLsbD 7 = false ∧ (t.port p.val).waitCal = false ∧
        t = { s with regs := t.regs, ports := t.ports, gov := t.gov, hif := hifAfter s t })

open Sys2Proof.Spec in
/-- R55, R59, R60, R62, R71-R73, R76: fault sequences, FEC codewords and degrade windows of 2^(10+WIN) codewords, the window of
PRT_ABSRATE where no buffer of its slice is a quarter full, low-power idle and the lanes of a port that is shed change what
they name and nothing else. A port that sends a fault sequence, as its partner's fault makes it, leaves low-power idle and
does not enter it (the model's reading, log entry 126); RATE drops a part of a Gbit/s (the model's choice, log entry 111). -/
def Sys2Proof.Spec.LinkEventsChangeTheirFields : Prop :=
  ∀ (s : State) (p : Port), Quiet s →
    let x := s.port p.val
    let eee := s.portState p.val = 7 ∧ x.cfg.getLsbD 10 = true ∧ fld x.cfg 3 3 ≤ 1
    let sends := (s.laneReg p.val R.PRT_PSTAT).getLsbD 4 = true ∨ (s.laneReg p.val R.PRT_PSTAT).getLsbD 11 = true ∨
      x.shedLF = true
    (∀ remote, s.portState p.val = 7 → exec (.faultSequenceStart p remote) s =
      .next (((s.setLane p.val R.PRT_PSTAT 4 1 1).setLane p.val R.PRT_PSTAT 9 1 0).updPort p.val fun y => { y with rxFault := if remote then 2 else 1 })) ∧
    exec (.faultSequenceEnd p) s =
      .next ((s.setLane p.val R.PRT_PSTAT 4 1 0).updPort p.val fun y => { y with rxFault := 0 }) ∧
    let d := s.macReg p.val R.PRT_FECDEG
    (∀ errs, s.portState p.val = 7 → fld x.cfg 6 2 ≠ 0 → x.rx = none → x.fecN < 2 ^ (10 + fld d 16 4) →
      let limit := if fld x.cfg 6 2 = 1 then 11 else if fld x.cfg 6 2 = 2 then 7 else 15
      exec (.fecCodeword p errs) s = .next (
        if limit < errs then (s.updPort p.val fun y => { y with fecN := y.fecN + 1, fecU := y.fecU + 1, cwBad := true }).countLane
          p.val R.PRT_FECUNC
        else if errs = 0 then s.updPort p.val fun y => { y with fecN := y.fecN + 1, cwBad := false }
        else (s.updPort p.val fun y => { y with fecN := y.fecN + 1, cwBad := false }).countLane p.val R.PRT_FECCOR)) ∧
    (s.portState p.val = 7 → fld x.cfg 6 2 ≠ 0 → x.fecN < 2 ^ (10 + fld d 16 4) →
      exec (.fecDegWindowEnd p) s = .next s) ∧
    (s.portState p.val = 7 → fld x.cfg 6 2 ≠ 0 → 2 ^ (10 + fld d 16 4) ≤ x.fecN →
      fld d 0 16 = 0 ∨ x.fecU < fld d 0 16 →
      exec (.fecDegWindowEnd p) s =
        .next ((s.updPort p.val fun y => { y with fecN := 0, fecU := 0 }).setLane p.val R.PRT_PSTAT 10 1 0)) ∧
    (∀ m : Macro, (∀ k, k < 8 → 4 * (s.macro (m.val / 8 * 8 + k)).absBytes < 2097152) →
      let r := min ((s.macro m.val).windowBytes * 8 / 10000) 2047
      exec (.absrateWindowEnd m) s = .next ((s.setMac (8 * m.val) R.PRT_ABSRATE 0 11 r).updMacro m.val fun y =>
        { y with windowBytes := 0, rates := (r :: y.rates).take 16 })) ∧
    (eee → ¬ sends → s.portQueues p.val = [] → x.mac = [] → x.tx = none → s.egressWaiting p.val = 0 →
      exec (.lpiTxEntry p) s = .next (s.setLane p.val R.PRT_PSTAT 9 1 1)) ∧
    (sends → exec (.lpiTxEntry p) s = .next s) ∧
    (eee → IdlePort s p.val → exec (.lpiRxEntry p) s = .next (s.setLane p.val R.PRT_PSTAT 8 1 1)) ∧
    ((s.laneReg p.val R.PRT_PSTAT).getLsbD 8 = true → s.sleep (portSlice p.val) ≠ 3 →
      exec (.lpiRxExit p) s = .next (s.setLane p.val R.PRT_PSTAT 8 1 0)) ∧
    (x.shedLF = true → ∀ n, 2 ≤ n → x.shedLanes.getD (cfgLanes x.cfg) = n →
      exec (.shedTimerExpiry p) s = .next (s.updPort p.val fun y => { y with shedLanes := some (n - 1) }))

/-- Ports are enabled and disabled; link events change their fields and no other: `PortsAreEnabled`,
`LinkEventsChangeTheirFields`. -/
def Obligations.PortControlAndLinkEvents : Prop :=
  Sys2Proof.Spec.PortsAreEnabled ∧
  Sys2Proof.Spec.LinkEventsChangeTheirFields

namespace Sys2Proof.Spec

/-- R67: MAXFRM bytes and what the frames in reception may still bring fit the absorption buffer. -/
def HasRoom (s : State) (p : Nat) : Prop :=
  (s.macro (p / 8)).absBytes + s.absReserved (p / 8) + fld (s.laneReg p R.PRT_PCFG) 18 14 ≤ 2097152

/-- The absorption buffer of a macro: the bytes it holds, and its OCC. -/
def Absorbs (t : State) (m n : Nat) : Prop :=
  (t.macro m).absBytes = n ∧ fld (t.macReg (8 * m) R.PRT_ABSOCC) 0 16 = (n + 255) / 256 % 2 ^ 16

/-- R61, R63: the last bytes of a frame make it a good one: 64 bytes to MAXFRM, and its FCS is that of its bytes. -/
def Whole (f : Frame) (l : List Byte) : Prop :=
  64 ≤ l.length ∧ l.length ≤ f.maxfrm ∧ fcsOf (l.take (l.length - 4)) = l.drop (l.length - 4)

end Sys2Proof.Spec

open Sys2Proof.Spec in
/-- R61, R63, R67: the first bytes of a frame at a port in UP are admitted where MAXFRM has room in the absorption buffer,
else the frame is discarded whole and counted; at its end a good frame is complete, a bad one leaves the buffer. The buffer
is charged what is received so far, with MAXFRM reserved until the frame ends (the model's reading, log entry 31), and OCC
counts a part of 256 bytes as a whole unit (the model's choice, log entry 111). A frame's length is held to the MAXFRM in force at
its first byte (the model's choice, log entry 126). -/
def Sys2Proof.Spec.FramesAreReceived : Prop :=
  ∀ (s : State) (p : Port) (bytes : List Byte), Quiet s → s.portState p.val = 7 →
    (s.laneReg p.val R.PRT_PSTAT).getLsbD 4 = false → (s.port p.val).rxSkip = false →
    (s.port p.val).released = [] →
    ((s.port p.val).rx = none → s.inBlockReset (prtI p.val) = false →
      ∃ t, exec (.frameReceiveStart p bytes) s = .next t ∧
        (HasRoom s p.val →
          (t.port p.val).rx = some s.nextFrame ∧ (t.port p.val).absorb = (s.port p.val).absorb ++ [s.nextFrame] ∧
          (t.frame s.nextFrame).bytes = bytes ∧ (t.frame s.nextFrame).inport = p ∧
          (t.frame s.nextFrame).maxfrm = fld (s.laneReg p.val R.PRT_PCFG) 18 14 ∧ t.nextFrame = s.nextFrame + 1 ∧
          Absorbs t (p.val / 8) ((s.macro (p.val / 8)).absBytes + bytes.length)) ∧
        (¬ HasRoom s p.val → t.frames = s.frames ∧ (t.port p.val).rxSkip = true ∧ (t.port p.val).rx = none ∧
          fld (t.macReg p.val R.PRT_ABSDROP) 0 16 = min (fld (s.macReg p.val R.PRT_ABSDROP) 0 16 + 1) 65535)) ∧
    (∀ f, (s.port p.val).rx = some f → f ∈ (s.port p.val).absorb →
      let l := (s.frame f).bytes ++ bytes
      ∃ t, exec (.frameReceiveEnd p bytes false) s = .next t ∧ (t.port p.val).rx = none ∧
        (t.frame f).bytes = l ∧ (t.frame f).final = true ∧
        (Whole (s.frame f) l → (s.frame f).poison = false →
          t.port p.val = { s.port p.val with rx := none } ∧ (t.frame f).fcsBad = false ∧
          Absorbs t (p.val / 8) ((s.macro (p.val / 8)).absBytes + bytes.length)) ∧
        (¬ Whole (s.frame f) l → f ∉ (t.port p.val).absorb ∧ (t.frame f).fcsBad = true))

open Sys2Proof.Spec in
/-- R69, R70, R276: the absorption buffer releases a port's oldest frame when it is whole, and the frame is split once the
ingress reserve has room for the MAXFRM of the next frames of its macro, that in force at each frame's first byte (the model's
choice, log entry 126), and a reorder slot and a context are free for it: it
leaves the buffer, takes its cells, and waits for assignment. -/
def Sys2Proof.Spec.FramesAreReleasedAndSplit : Prop :=
  ∀ (s : State) (p : Port) (f : Nat) (r : List Nat), Quiet s →
    let sl := portSlice p.val
    s.sleep sl = 0 → s.inBlockReset (prtI p.val) = false → s.inBlockReset (slInst .swc sl) = false →
    ((s.port p.val).absorb = f :: r → (s.frame f).final = true → exec (.absorptionRelease p false) s =
      .next ((s.updFrame f fun g => { g with cut := false }).updPort p.val fun x =>
        { x with absorb := r, released := x.released ++ [f] })) ∧
    ((s.port p.val).absorb = f :: r → (s.frame f).final = false →
      (s.ent (slInst .swc sl) 7 (p.val % 64) 0).getLsbD 0 = false ∨ (s.frame f).bytes.length < 256 →
      exec (.absorptionRelease p false) s = .next s) ∧
    ((s.port p.val).released = f :: r → (s.frame f).final = true →
      let need := ((s.frame f).maxfrm + 255) / 256
      ((∀ q : Port, q.val / 8 = p.val / 8 → ∀ g, (s.port q.val).released.head? = some g →
          s.regF (slInst .swc sl) R.SWC_INGUSE 0 19 + ((s.frame g).maxfrm + 255) / 256 ≤
            s.regF (slInst .swc sl) R.SWC_INGRSV 0 19) →
        (s.pcl sl).waiting.length + (s.pcl sl).rob.length < 4096 → (s.pcl sl).waiting.length < s.freeContexts sl →
        ∃ t, exec (.frameSplit p) s = .next t ∧ (t.port p.val).released = r ∧
          (t.pcl sl).waiting = (s.pcl sl).waiting ++ [f] ∧
          (t.frame f) = { s.frame f with ingCells := ((s.frame f).bytes.length + 255) / 256 } ∧
          Absorbs t (p.val / 8) ((s.macro (p.val / 8)).absBytes - (s.frame f).bytes.length)) ∧
      (s.regF (slInst .swc sl) R.SWC_INGRSV 0 19 < s.regF (slInst .swc sl) R.SWC_INGUSE 0 19 + need →
        exec (.frameSplit p) s = .next s))

/-- Frames are received, stored, released and split (MAXFRM is that of a frame's first byte: the model's choice, log entry 126):
`FramesAreReceived`, `FramesAreReleasedAndSplit`. -/
def Obligations.FramesArriveAndAreReleased : Prop :=
  Sys2Proof.Spec.FramesAreReceived ∧
  Sys2Proof.Spec.FramesAreReleasedAndSplit

open Sys2Proof.Spec in
/-- R55, R58, R73, R75, R280: the oldest frame at the MAC of a port in UP starts on the wire, and LPI ends; it waits while a fault
sequence is received. When it has ended, the bytes sent are its own, and the copy's charges and its reference are released. -/
def Obligations.FramesAreTransmitted : Prop :=
  ∀ (s : State) (p : Port), Quiet s →
    (∀ (x : TxFrame) (r : List TxFrame), (s.port p.val).mac = x :: r → x.copy.gone = false → s.portState p.val = 7 →
      (s.laneReg p.val R.PRT_PSTAT).getLsbD 11 = false →
      ((s.laneReg p.val R.PRT_PSTAT).getLsbD 4 = false → (s.port p.val).tx = none → (s.port p.val).shedLF = false →
        s.ptpMessage p.val x.bytes = none → s.sleep (portSlice p.val) = 0 → s.inBlockReset (prtI p.val) = false →
        ∃ t, exec (.frameTransmitStart p .clean) s = .next t ∧
          t = { (s.updPort p.val fun y => { y with mac := r, tx := some x }).setLane p.val R.PRT_PSTAT 9 1 0 with
            acts := t.acts }) ∧
      ((s.laneReg p.val R.PRT_PSTAT).getLsbD 4 = true → exec (.frameTransmitStart p .clean) s = .next s)) ∧
    (∀ x : TxFrame, (s.port p.val).tx = some x → x.final = true → x.cut = false → x.copy.gone = false → x.copy.deep = none →
      (s.cellsHere x.copy.fid (portSlice p.val) = true) →
      let e : Slice := Fin.ofNat 4 x.copy.eslice
      let pc := portClass x.copy.port (x.copy.queue % 8)
      let st := (s.swc e).stored.get x.copy.fid
      ∃ t, exec (.frameTransmitEnd p) s = .next t ∧ (t.port p.val).tx = none ∧ (t.port p.val).sent = x.bytes ∧
        (t.port p.val).sentErr = false ∧ (t.swc e).gused.get pc = (s.swc e).gused.get pc - x.copy.a ∧
        (t.swc e).tgused.get x.copy.tid = (s.swc e).tgused.get x.copy.tid - x.copy.b ∧
        ((t.swc e).stored.get x.copy.fid).refs = st.refs - 1 ∧ t = { s with
          ports := t.ports, swcs := t.swcs, regs := t.regs })

/-! ### The pup array and the reorder buffer -/

namespace Sys2Proof.Spec

/-- R88, R91: a packet's program as it starts: at the entry word's address, tenant and view, all registers and flags 0, the
first 256 bytes of the frame in the frame view. -/
structure StartsPacket (s t : State) (x : CtxId) (f : Nat) (ew : Word) (seq : Word) (epoch restarted : Bool) : Prop where
  running : (t.ctx x).running = true ∧ (t.ctx x).committed = false
  entry : (t.ctx x).pc = ew.setWidth 14 ∧ (t.ctx x).tid = ew.extractLsb' 15 8 ∧ (t.ctx x).view = ew.getLsbD 23
  regs : (t.ctx x).w = Vector.replicate 16 0 ∧ (t.ctx x).hp = 0 ∧ (t.ctx x).z = false ∧ (t.ctx x).c = false ∧
    (t.ctx x).n = false ∧ (t.ctx x).v = false
  view : ∀ k, k < 256 → (t.ctx x).frameView.get k = ((s.frame f).bytes[k]?).getD 0
  scratch : (t.ctx x).scratch = {} ∧ (t.ctx x).rd = {}
  inport : (t.ctx x).md.get 0 = BitVec.ofNat 8 (s.frame f).inport.val
  packet : (t.ctx x).fid = f ∧ (t.ctx x).seq = seq ∧ (t.ctx x).epoch = epoch ∧ (t.ctx x).restarted = restarted

/-- PCL of the slice assigns: it is awake, and nothing a packet needs is under reset (R33, R519). -/
structure Assigning (s : State) (sl : Slice) : Prop where
  quiet : Quiet s
  awake : s.sleep sl = 0
  blocks : ∀ b ∈ [Block.pup, .pcl, .fwd, .asa], s.inBlockReset (slInst b sl) = false

/-- PUP_CTRL's RUN and EBANK ask for a bank that is not verified (R101, R104). -/
def asksUnverified (s : State) (sl : Slice) (v : Word) : Bool :=
  let old := s.reg (slInst .pup sl) R.PUP_CTRL
  ((v.getLsbD 0 && !old.getLsbD 0) || v.getLsbD 1 != old.getLsbD 1) &&
    !(s.reg (slInst .pup sl) R.PUP_STAT).getLsbD (if v.getLsbD 1 then 2 else 1)

/-- R101, R104, R141: what a write of PUP_CTRL leaves in the register, in ACT_REFUSED and in the injections. -/
structure CtrlWritten (s t : State) (sl : Slice) (v : Word) : Prop where
  reg : t.reg (slInst .pup sl) R.PUP_CTRL = if asksUnverified s sl v then
      (v &&& 0x00FFFF04) ||| (s.reg (slInst .pup sl) R.PUP_CTRL &&& 0xFF0000FB)
    else (v &&& 0x00FFFF07) ||| (s.reg (slInst .pup sl) R.PUP_CTRL &&& 0xFF0000F8)
  refused : asksUnverified s sl v = true → t.regB (slInst .pup sl) R.PUP_STAT 5 = true
  mw : (t.pup sl).injMw = ((s.pup sl).injMw || v.getLsbD 3)
  nw : (t.pup sl).injNw = ((s.pup sl).injNw || v.getLsbD 4)

/-- The other slices in the order in which Repair takes a word from them (R134). -/
def lenders (sl : Slice) : List Slice := [sl + 1, sl + 2, sl + 3]

/-- The slot of the port that release looks at (R179, R181): under ORDER the port's oldest that is not skipped, else its
first ready one. -/
def releasing (s : State) (sl : Slice) (lp : Fin 64) (r : Slot) (d : Desc) : Prop :=
  r.st = .ready d ∧ d.fid = r.fid ∧
  if (s.ent (slInst .pcl sl) 2 lp.val 0).getLsbD 8 then
    ((s.pcl sl).rob.filter fun q => decide (q.lp = lp.val) && decide (q.st ≠ .skipped)).head? = some r
  else ((s.pcl sl).rob.filter fun q => decide (q.lp = lp.val) &&
    (match q.st with | .ready _ => true | _ => false)).head? = some r

end Sys2Proof.Spec

open Sys2Proof.Spec in
/-- R88, R91, R101, R124, R134, R177-R179: the oldest waiting frame takes a free context of the next pup, its sequence number, the
epoch and a reorder slot, where no restart can begin; it is dropped and counted where RUN is 0 or its profile's entry is not
valid. Of the packets that wait to restart the oldest that can begin starts again with RESTARTED on another pup, and new frames
wait for it; one that met an error of a store waits for the repair, and one that cannot begin lets those behind it pass (the
model's reading, log entry 118). Of the free contexts of the pup the lowest-numbered is taken (the model's choice, log entry 133). -/
def Obligations.PacketsAreAssigned : Prop :=
  ∀ (s : State) (sl : Slice) (x : CtxId), Assigning s sl →
    let i := slInst .pup sl
    let bank := s.regB i R.PUP_CTRL 1
    let cannot := fun r : Restart => (r.metError = true ∧ (s.pup sl).repair ≠ none) ∨ s.nextCtx sl (some r.notPup) = none
    (∀ (f : Nat) (rest : List Nat), (∀ r ∈ (s.pup sl).restarts, cannot r) → (s.pcl sl).waiting = f :: rest →
      (s.frame f).gone = false →
      let lp := (s.frame f).inport.val % 64
      let profile := fld (s.ent (slInst .pcl sl) 2 lp 0) 0 8
      let ew := s.ent i (if bank then 3 else 2) profile 0
      (s.regB i R.PUP_CTRL 0 = true → profile < 240 → ew.getLsbD 14 = true → (s.pcl sl).rob.length < 4096 →
        s.nextCtx sl none = some x →
        ∃ t, exec (.packetAssign sl) s = .next t ∧
          StartsPacket s t x f ew ((s.pcl sl).seqs.get lp) (s.regB (slInst .pcl 0) R.PCL_VERSION 0) false ∧
          t.pcl sl = { s.pcl sl with
            waiting := rest, seqs := (s.pcl sl).seqs.set lp ((s.pcl sl).seqs.get lp + 1)
            rob := (s.pcl sl).rob ++ [⟨lp, (s.pcl sl).seqs.get lp, s.regB (slInst .pcl 0) R.PCL_VERSION 0, f, .open⟩] } ∧
          (t.pup sl).rr = x.pup.val ∧
          t = { s with pcls := t.pcls, pups := t.pups, ctxs := t.ctxs, regs := t.regs, acts := t.acts }) ∧
      (s.regB i R.PUP_CTRL 0 = false ∨ 240 ≤ profile ∨ ew.getLsbD 14 = false →
        ∃ t, exec (.packetAssign sl) s = .next t ∧ t.pcl sl = { s.pcl sl with waiting := rest } ∧
          fld (t.reg i R.PUP_PDROP) 16 16 = min (fld (s.reg i R.PUP_PDROP) 16 16 + 1) 65535 ∧
          t.frame f = { s.frame f with ingCells := 0, ingShared := 0 } ∧ t.ctxs = s.ctxs)) ∧
    (∀ (pre : List Restart) (r : Restart) (rest : List Restart), (s.pup sl).restarts = pre ++ r :: rest → (∀ q ∈ pre, cannot q) →
      r.metError = false ∨ (s.pup sl).repair = none → s.nextCtx sl (some r.notPup) = some x →
      exec (.packetAssign sl) s = .next s ∧ ∃ t, exec (.packetRestart sl) s = .next t ∧
        StartsPacket s t x r.fid (s.ent i (if r.bank then 3 else 2) r.entry 0) r.seq r.epoch true ∧
        t.pup sl = { s.pup sl with restarts := pre ++ rest, rr := x.pup.val } ∧
        t.reg i R.PUP_RESTART = BitVec.ofNat 32 (min ((s.reg i R.PUP_RESTART).toNat + 1) (2 ^ 32 - 1)) ∧
        t = { s with pups := t.pups, ctxs := t.ctxs, regs := t.regs })

open Sys2Proof.Spec in
/-- R133, R134: Scrub starts the repair of a damaged word; Repair copies the word from the first slice, in order, whose copy
is good, and counts it. -/
def Sys2Proof.Spec.StoresAreRepaired : Prop :=
  ∀ (s : State) (sl : Slice) (nano : Bool) (idx : Fin 16384), Quiet s →
    let i := slInst .pup sl
    let w := if nano then 1 else 0
    (s.sleep sl = 0 → s.inBlockReset i = false → s.regB i R.PUP_CTRL 2 = true → (s.pup sl).repair = none →
      exec (.pupScrubCheck sl nano idx) s = .next (if s.badEntry i w idx.val then
        s.updPup sl fun p => { p with repair := some (nano, idx.val) } else s)) ∧
    (∀ k, (s.pup sl).repair = some (nano, idx.val) → (s.pup sl).heldWrites = [] → idx.val < (if nano then 4096 else 16384) →
      (lenders sl).find? (fun q => !s.badEntry (slInst .pup q) w idx.val) = some k →
      ∃ t, exec (.storeRepairComplete sl) s = .next t ∧ (t.pup sl).repair = none ∧
        t.entry i w idx.val = s.entry (slInst .pup k) w idx.val ∧ t.badEntry i w idx.val = false ∧
        fld (t.reg i R.PUP_REPAIR) 16 16 = min (fld (s.reg i R.PUP_REPAIR) 16 16 + 1) 65535 ∧
        t.regB i R.PUP_REPAIR 14 = nano ∧ fld (t.reg i R.PUP_REPAIR) 0 14 = idx.val ∧
        t = { s with pups := t.pups, win := t.win, bad := t.bad, regs := t.regs })

open Sys2Proof.Spec in
/-- R31, R101, R104, R141: a write of PUP_CTRL, to one slice or to all four, sets its fields and the parity injections it
asks for; RUN and EBANK stay, and ACT_REFUSED is set, where it asks for a bank that is not verified. -/
def Sys2Proof.Spec.PupControlWrites : Prop :=
  ∀ (s : State) (inst : Fin 16) (v : Word), inst.val < 4 ∨ inst.val = 15 →
    (∀ sl : Slice, inst.val = sl.val ∨ inst.val = 15 → Reached s (slInst .pup sl)) →
    let good := fun (o : Out) => ∃ t, o = .next t ∧ t = { s with pups := t.pups, regs := t.regs } ∧
      ∀ sl : Slice, if inst.val = sl.val ∨ inst.val = 15 then CtrlWritten s t sl v else t.pup sl = s.pup sl
    good (exec (.ebankWrite inst v) s) ∧ good (exec (.runWrite inst v) s) ∧ good (exec (.parityInjectNw inst v) s) ∧
      good (exec (.parityInjectMw inst v) s)

/-- Stores are scrubbed and repaired; writes of PUP_CTRL choose banks and start assignment: `StoresAreRepaired`,
`PupControlWrites`. -/
def Obligations.StoreRepairAndPupControl : Prop :=
  Sys2Proof.Spec.StoresAreRepaired ∧
  Sys2Proof.Spec.PupControlWrites

open Sys2Proof.Spec in
/-- R130, R398: a routine that is suspended resumes when no request is pending, after YIELD as the governor schedules it: when
its bucket holds the floor of class 2 and the task's cost, or regardless once it has been due for MAXDEFER, the cost being
debited (log entry 36). -/
def Sys2Proof.Spec.RoutinesResume : Prop :=
  ∀ (s : State) (sl : Slice) (pup : Fin 4) (forced : Bool), Quiet s →
    let x : CtxId := ⟨sl, ⟨384 + pup.val, by omega⟩, 0⟩
    (s.ctx x).running = true → (s.ctx x).suspended = true → s.sleep sl = 0 →
    let n := (s.ctx x).entry - 240
    let cost : Int := (fld (s.ent (slInst .egv sl) 1 n 1) 0 16 * 1024000 : Nat)
    let due := forced = true ∧ fld (s.ent (slInst .egv sl) 1 n 0) 16 16 ≠ 0
    (s.failed sl = false → s.safePending x = false → (s.ctx x).yielded = false → exec (.hkRoutineResume sl pup forced) s =
      .next (s.setCtx x { s.ctx x with suspended := false, yielded := false })) ∧
    (s.failed sl = false → s.safePending x = false → (s.ctx x).yielded = true → due ∨ s.energyFloor sl 2 + cost ≤ (s.egv sl).bucket →
      ∃ t, exec (.hkRoutineResume sl pup forced) s = .next t ∧ (t.egv sl).bucket = (s.egv sl).bucket - cost ∧
        t = { s.setCtx x { s.ctx x with suspended := false, yielded := false } with egvs := t.egvs, regs := t.regs }) ∧
    ((s.safePending x = false → (s.ctx x).yielded = true ∧ ¬ due ∧ (s.egv sl).bucket < s.energyFloor sl 2 + cost) →
      exec (.hkRoutineResume sl pup forced) s = .next s)

/-- SAFE and YIELD suspend a housekeeping routine, which resumes: `SafeYieldResume`, `RoutinesResume`. -/
def Obligations.HousekeepingSuspendsAndResumes : Prop :=
  Sys2Proof.Spec.SafeYieldResume ∧
  Sys2Proof.Spec.RoutinesResume

open Sys2Proof.Spec in
/-- R179-R183: the reorder buffer releases a port's descriptor, in order under ORDER, to the switch core and frees its
slot; after a time-out the longest committed descriptor is released; a sequence number that it skips keeps its place in the
buffer until its frame commits (the model's reading, log entry 38). -/
def Sys2Proof.Spec.DescriptorsAreReleased : Prop :=
  ∀ (s : State) (sl : Slice) (lp : Fin 64) (r : Slot) (d : Desc), Quiet s →
    s.regB (slInst .pcl 0) R.PCL_VERSION 17 = false → r ∈ (s.pcl sl).rob → r.lp = lp.val →
    let out := fun (o : Out) => ∃ t, o = .next t ∧ (t.swc sl).descs = (s.swc sl).descs ++ [d] ∧
      (t.pcl sl).rob = (s.pcl sl).rob.filter (fun q => q.fid ≠ d.fid) ∧
      fld (t.reg (slInst .pcl sl) R.PCL_ROBOCC) 0 13 = ((s.pcl sl).rob.filter (fun q => q.fid ≠ d.fid)).length % 8192 ∧
      t = { s with pcls := t.pcls, swcs := t.swcs, regs := t.regs }
    (releasing s sl lp r d → out (exec (.descriptorRelease sl lp) s)) ∧
    ((s.ent (slInst .pcl sl) 2 lp.val 0).getLsbD 8 = false → r.st = .ready d → d.fid = r.fid →
      (∀ q ∈ (s.pcl sl).rob, q.lp = lp.val → q ≠ r → q.st = .open) →
      out (exec (.robTimeout sl lp) s)) ∧
    ((s.ent (slInst .pcl sl) 2 lp.val 0).getLsbD 8 = true → r.st = .ready d → d.fid = r.fid →
      ∀ q : Slot, (s.pcl sl).rob = [q, r] → q.lp = lp.val → q.fid ≠ r.fid → q.st = .open →
      ∃ t, exec (.robTimeout sl lp) s = .next t ∧ (t.swc sl).descs = (s.swc sl).descs ++ [d] ∧
        (t.pcl sl).rob = [{ q with st := .skipped }] ∧
        t.reg (slInst .pcl sl) R.PCL_ROBSKIP =
          BitVec.ofNat 32 (min ((s.reg (slInst .pcl sl) R.PCL_ROBSKIP).toNat + 1) (2 ^ 32 - 1)))

/-- END and DROP free the context (what END's 16 cycles are: the model's reading, log entry 73); ready descriptors are
released in their port's order (a skipped number keeps its place: the model's reading, log entry 38):
`EndAndDropFreeTheContext`, `DescriptorsAreReleased`. -/
def Obligations.DescriptorsBecomeReadyAndAreReleased : Prop :=
  Sys2Proof.Spec.EndAndDropFreeTheContext ∧
  Sys2Proof.Spec.DescriptorsAreReleased

/-! ### Forwarding tables and search arrays -/

namespace Sys2Proof.Spec

/-- FWD of the slice runs nothing, has nothing queued, and works (R216, R229). -/
structure FwdIdle (s : State) (sl : Slice) : Prop where
  quiet : Quiet s
  run : (s.fwd sl).run = none
  queue : (s.fwd sl).queue = []
  awake : s.sleep sl = 0
  block : s.inBlockReset (slInst .fwd sl) = false

/-- R229, R246: an operation has started, with the status and row it will complete with. -/
structure Started (t : State) (sl : Slice) (op : Nat) (args : List Word) (status row : Nat) : Prop where
  run : (t.fwd sl).run = some ⟨op, args⟩
  res : (t.fwd sl).res = (status, row)
  busy : t.regB (slInst .fwd sl) R.FWD_OPCTL 12 = true

/-- R218, R219, R229: the route operations: slice, operation number, arguments, the route (its prefix alone for a deletion)
and whether it is added. -/
def routeForm : Instr → Option (Slice × Nat × List Word × Route × Bool)
  | .routeAdd4 sl a b r =>
    some (sl, 1, [a, b, r], ⟨false, fld b 8 8, fld b 0 8, a.setWidth 128, r.setWidth 31⟩, true)
  | .routeDel4 sl a b => some (sl, 2, [a, b], ⟨false, fld b 8 8, fld b 0 8, a.setWidth 128, 0⟩, false)
  | .routeAdd6 sl a b c d p r =>
    some (sl, 3, [a, b, c, d, p, r], ⟨true, fld p 8 8, fld p 0 8, d ++ c ++ b ++ a, r.setWidth 31⟩, true)
  | .routeDel6 sl a b c d p =>
    some (sl, 4, [a, b, c, d, p], ⟨true, fld p 8 8, fld p 0 8, d ++ c ++ b ++ a, 0⟩, false)
  | _ => none

/-- R219: two routes have the same prefix in the same instance and family. -/
def samePrefix (r q : Route) : Bool :=
  let n := if r.v6 then 128 else 32
  r.v6 == q.v6 && decide (r.inst = q.inst) && decide (r.plen = q.plen) &&
    decide (r.addr.toNat / 2 ^ (n - r.plen) = q.addr.toNat / 2 ^ (n - r.plen))

/-- R218: the route units of a list of routes. -/
def unitsOf (l : List Route) : Nat := (l.map fun r => if !r.v6 then 1 else if r.plen ≤ 64 then 2 else 4).sum

/-- R219, R229: the status of a route operation and the routes after it. -/
def routeResult (l : List Route) (r : Route) (add : Bool) : Nat × List Route :=
  if (if r.v6 then 128 else 32) < r.plen then (4, l)
  else if l.any (samePrefix r) then
    (if add then 1 else 0, (if add then [r] else []) ++ l.filter fun q => !samePrefix r q)
  else if !add then (2, l)
  else if 3145728 < unitsOf (r :: l) then (3, l)
  else (0, r :: l)

end Sys2Proof.Spec

open Sys2Proof.Spec in
/-- R216, R218-R220, R229: a route is added, replaced or deleted, with the status of R229 and FWD_LPMUSE, as the operation
starts (the model's reading, log entry 42); while an operation runs the next one waits in order. -/
def Sys2Proof.Spec.RoutesChange : Prop :=
  ∀ (s : State) (i : Instr) (sl : Slice) (op : Nat) (args : List Word) (r : Route) (add : Bool),
    routeForm i = some (sl, op, args, r, add) →
    (FwdIdle s sl → unitsOf (s.fwd sl).routes = s.regF (slInst .fwd sl) R.FWD_LPMUSE 0 22 →
      let p := routeResult (s.fwd sl).routes r add
      ∃ t, exec i s = .next t ∧ Started t sl op args p.1 0 ∧ (t.fwd sl).routes = p.2 ∧
        t.regF (slInst .fwd sl) R.FWD_LPMUSE 0 22 = unitsOf p.2 ∧
        t = { s with fwds := t.fwds, regs := t.regs, free := t.free }) ∧
    (Quiet s → (s.fwd sl).run ≠ none → s.awake sl = true →
      exec i s = .next (s.updFwd sl fun f => { f with queue := f.queue ++ [⟨op, args⟩] }))

open Sys2Proof.Spec in
/-- R222, R224, R228, R229, R244 (the tables change when the operation starts, its status comes later: the model's reading, log
entry 42): L2_INSERT replaces the data of the key's row or fills a row that is not valid, or is FULL;
L2_DELETE and, for a row that is AGED, L2_AGEDEL invalidate the row, whose CARE, PF and PFCARE stay those of an L2 row, and
clear its data. -/
def Sys2Proof.Spec.L2EntriesChange : Prop :=
  ∀ (s : State) (sl : Slice) (w a0 a1 a2 a3 : Word), FwdIdle s sl → s.l2Part sl = some w →
    let i := slInst .fwd sl
    let key : BitVec 62 := a1.extractLsb' 16 14 ++ (a0 ++ a1.extractLsb' 0 16)
    let data := fun (t : State) (r : Nat) => t.ent i 5 r 0 = a2 &&& 0x03FFFFFF ∧
      t.ent i 5 r 1 = (a3 &&& 0xFFFE0000) ||| BitVec.ofNat 32 (s.regF i R.FWD_AGENOW 0 16)
    let gone := fun (t : State) (r : Nat) => let x := (t.asa sl).shadow.get (l2First w + r)
      x.valid = false ∧ x.care = BitVec.ofNat 160 (2 ^ 62 - 1) ∧ x.pf = 0 ∧ x.pfcare = 0 ∧ t.ent i 5 r 0 = 0 ∧ t.ent i 5 r 1 = 0
    (∀ r, s.l2Find sl w key = some r → r < 32768 →
      (∃ t, exec (.l2Insert sl a0 a1 a2 a3) s = .next t ∧ Started t sl 5 [a0, a1, a2, a3] 1 r ∧ data t r ∧
        t.asas = s.asas) ∧
      ∃ t, exec (.l2Delete sl a0 a1) s = .next t ∧ Started t sl 6 [a0, a1] 0 0 ∧ gone t r) ∧
    (s.l2Find sl w key = none →
      (∀ q, q < l2Rows w → ((s.asa sl).shadow.get (l2First w + q)).valid = false →
        ∃ t r, exec (.l2Insert sl a0 a1 a2 a3) s = .next t ∧ Started t sl 5 [a0, a1, a2, a3] 0 r ∧ r < l2Rows w ∧
          ((s.asa sl).shadow.get (l2First w + r)).valid = false ∧ data t r ∧
          ((t.asa sl).shadow.get (l2First w + r)).valid = true ∧
          ((t.asa sl).shadow.get (l2First w + r)).value = key.setWidth 160) ∧
      ((∀ q, q < l2Rows w → ((s.asa sl).shadow.get (l2First w + q)).valid = true) →
        ∃ t, exec (.l2Insert sl a0 a1 a2 a3) s = .next t ∧ Started t sl 5 [a0, a1, a2, a3] 3 0 ∧ t.asas = s.asas ∧
          t.win = s.win) ∧
      ∃ t, exec (.l2Delete sl a0 a1) s = .next t ∧ Started t sl 6 [a0, a1] 2 0 ∧ t.asas = s.asas ∧ t.win = s.win) ∧
    (∃ t, exec (.l2Agedel sl a0) s = .next t ∧
      (l2Rows w ≤ a0.toNat → Started t sl 7 [a0] 4 0 ∧ t.asas = s.asas ∧ t.win = s.win) ∧
      (a0.toNat < l2Rows w →
        (((s.asa sl).shadow.get (l2First w + a0.toNat)).valid = false → Started t sl 7 [a0] 2 0 ∧ t.asas = s.asas) ∧
        (((s.asa sl).shadow.get (l2First w + a0.toNat)).valid = true →
          ((s.ent i 5 a0.toNat 1).getLsbD 16 = false → Started t sl 7 [a0] 5 0 ∧ t.asas = s.asas) ∧
          ((s.ent i 5 a0.toNat 1).getLsbD 16 = true → Started t sl 7 [a0] 0 0 ∧ gone t a0.toNat))))

/-- Routes and L2 entries are added and deleted with their status: `RoutesChange`, `L2EntriesChange`. -/
def Obligations.ForwardingTablesChange : Prop :=
  Sys2Proof.Spec.RoutesChange ∧
  Sys2Proof.Spec.L2EntriesChange

open Sys2Proof.Spec in
/-- R220, R225-R227, R229, R246: an operation completes with its status; the oldest refresh writes the age clock into TS and
clears AGED; the oldest notice moves to the learn FIFO; the oldest pending key leaves the filter; the age clock counts in 16
bits. In a slice that sleeps, a refresh or a notice that waits asks for its wake (R392, R394). -/
def Sys2Proof.Spec.ForwardingQueuesAdvance : Prop :=
  ∀ (s : State) (sl : Slice), Quiet s →
    let i := slInst .fwd sl
    (∀ o, (s.fwd sl).run = some o → (s.fwd sl).queue = [] → (s.fwd sl).res.1 < 8 →
      ∃ t, exec (.fwdOpComplete sl) s = .next t ∧ (t.fwd sl).run = none ∧
        t.reg i R.FWD_OPCTL = BitVec.ofNat 32 ((s.fwd sl).res.1 * 256) ∧ t.regB i R.FWD_EVENT 0 = true ∧
        (o.op = 5 → (s.fwd sl).res.1 ≤ 1 → t.regF i R.FWD_OPRES 0 15 = (s.fwd sl).res.2 % 2 ^ 15) ∧
        t = { s with fwds := t.fwds, regs := t.regs, hif := hifAfter s t }) ∧
    exec (.trieNodeFree sl) s = .next (s.updFwd sl fun f => { f with freeing := f.freeing - 1 }) ∧
    (s.awake sl = true → ∀ row rest, (s.fwd sl).refreshQ = row :: rest → s.badEntry i 5 row = false →
      ∃ t, exec (.l2RefreshWrite sl) s = .next t ∧ (t.fwd sl).refreshQ = rest ∧
        (t.winWord i 5 (2 * row + 1)).setWidth 16 = (s.reg i R.FWD_AGENOW).setWidth 16 ∧
        (t.winWord i 5 (2 * row + 1)).getLsbD 16 = false ∧
        (t.winWord i 5 (2 * row + 1)).extractLsb' 17 15 = (s.winWord i 5 (2 * row + 1)).extractLsb' 17 15 ∧
        t = { s with fwds := t.fwds, win := t.win, bad := t.bad }) ∧
    exec (.pendingFilterExpiry sl) s = .next (s.updFwd sl fun f => { f with filter := f.filter.tail }) ∧
    ((s.fwd sl).refreshQ = [] → exec (.l2RefreshWrite sl) s = .next s) ∧
    ((s.fwd sl).learnQ = [] → exec (.learnQueueToFifo sl) s = .next s) ∧
    (s.sleep sl ≠ 0 → s.failed sl = false →
      let asks := s.setRegB (slInst .egv sl) R.EGV_SSTAT 10 true
      ((s.fwd sl).refreshQ ≠ [] → exec (.l2RefreshWrite sl) s = .next asks) ∧
      ((s.fwd sl).learnQ ≠ [] → exec (.learnQueueToFifo sl) s = .next asks)) ∧
    (s.awake sl = true → ∀ n rest, (s.fwd sl).learnQ = n :: rest → (s.fifo sl.val).waiting = [] →
      (s.fifo sl.val).words.length + n.length ≤ 64 → n ≠ [] →
      ∃ t, exec (.learnQueueToFifo sl) s = .next t ∧ (t.fwd sl).learnQ = rest ∧
        (t.fifo sl.val).words.map (·.data) = (s.fifo sl.val).words.map (·.data) ++ n) ∧
    (let stopped := s.regB i R.FWD_AGECFG 15 = true ∧
        (s.ent (slInst .egv sl) 1 (s.regF i R.FWD_LRNCFG 8 4) 1).getLsbD 16 = true ∧
        (1 ≤ s.stage ∨ s.regB (slInst .tmg sl) R.TMG_ESTAT 0 = true);
      (stopped → exec (.ageClockTick sl) s = .next s) ∧
      (¬ stopped → exec (.ageClockTick sl) s =
        .next (s.setRegF i R.FWD_AGENOW 0 16 (s.regF i R.FWD_AGENOW 0 16 + 1))))

open Sys2Proof.Spec in
/-- R171, R227, R230: a TRD of table 7 by the ageing routine returns the word as it stood; where the row is valid, not STATIC and
not AGED, and LIMIT or more units old, the word is marked AGED and an AGED notice with the row's key is queued; where it is not,
nothing but the lookup happens. -/
def Sys2Proof.Spec.SweepAgesRows : Prop :=
  ∀ (s : State) (x : CtxId) (d a : Reg) (w : Word), isHk x = true → (s.ctx x).committed = false → Sweeps s x →
    CanLook s x 0x1C7 d 2 [a] → s.l2Part x.slice = some w → (s.fwd x.slice).learnQ.length < 4096 →
    let i := slInst .fwd x.slice
    let row := (s.ctx x).w[a].toNat
    let k := (s.asa x.slice).shadow.get (l2First w + row)
    let e := s.winWord i 5 (2 * row + 1)
    let now := fld (s.reg i R.FWD_AGENOW) 0 16
    let old := k.valid = true ∧ e.getLsbD 17 = false ∧ e.getLsbD 16 = false ∧
      max 1 (fld (s.reg i R.FWD_AGECFG) 0 15) ≤ (now + 65536 - fld e 0 16) % 65536
    row < l2Rows w → (∀ n, s.badWord i 5 n = false) →
    ∃ t c', exec (.trd x 7 d a) s = .next t ∧ Looks (s.ctx x) c' (s.ctx x) 7 d 2 [s.winWord i 5 (2 * row), e] ∧
      t = ({ s with win := t.win, bad := t.bad, fwds := t.fwds, acts := t.acts }).setCtx x c' ∧
      (∀ n, t.winWord i 5 n = if old ∧ n = 2 * row + 1 then e ||| 0x10000 else s.winWord i 5 n) ∧
      (∀ key : BitVec 62, old → key = k.value.setWidth 62 → (t.fwd x.slice).learnQ = (s.fwd x.slice).learnQ ++ [[
        key.extractLsb' 16 32, BitVec.ofNat 32 (key.toNat % 2 ^ 16 + key.toNat / 2 ^ 48 * 2 ^ 16 + x.slice.val * 2 ^ 30),
        0x20000, BitVec.ofNat 32 (row + now * 2 ^ 16)]]) ∧
      (¬ old → t.fwds = s.fwds)

/-- Operations complete, learning and refresh entries drain, the age clock counts and the sweep ages what is old:
`ForwardingQueuesAdvance`, `SweepAgesRows`. -/
def Obligations.ForwardingAdvances : Prop :=
  Sys2Proof.Spec.ForwardingQueuesAdvance ∧
  Sys2Proof.Spec.SweepAgesRows

namespace Sys2Proof.Spec

/-- The source is collected and only reported: no snapshot, ERR_N, Muzzle or reset follows (R499, R508). -/
structure ReportOnly (s : State) (src : Nat) : Prop where
  cls : fld (s.srcCfg src) 0 3 ≤ 1
  pins : fld (s.srcCfg src) 6 3 = 0
  on : s.flt.sealed = false ∧ s.boot.inReset = false
  works : Works s src

/-- A counter of 32 bits has counted `n` more. -/
def Counted (s t : State) (i : InstId) (off n : Nat) : Prop :=
  (t.reg i off).toNat = min ((s.reg i off).toNat + n) (2 ^ 32 - 1)

/-- R232: word `k` of a row, as ASA window 0 shows it. -/
def rowWord (r : AsaRow) (k : Nat) : Word :=
  if k < 5 then r.value.extractLsb' (32 * k) 32
  else if k < 10 then r.care.extractLsb' (32 * (k - 5)) 32
  else (BitVec.ofBool r.valid ++ (r.pfcare ++ r.pf)).setWidth 32

/-- R244: the row lies in the partition of KIND 1. -/
def InL2 (s : State) (sl : Slice) (row : Nat) : Prop := ∃ w, s.rowPart sl row = some w ∧ w.getLsbD 14 = true

/-- R233, R236: the entry of `g` rows that begins at row `n` matches a key under a mask and a pre-filter value. -/
def RowsMatch (rows : Nat → AsaRow) (g n key mask : Nat) (pref : Byte) : Prop :=
  (rows n).valid = true ∧ (pref ^^^ (rows n).pf) &&& (rows n).pfcare = 0 ∧ ∀ j, j < g →
    (rows (n + 2048 * j)).care &&& ~~~ BitVec.ofNat 160 (mask / 2 ^ (160 * j)) &&&
      ((rows (n + 2048 * j)).value ^^^ BitVec.ofNat 160 (key / 2 ^ (160 * j))) = 0

/-- R236, R238, R239, R241: an entry of `g` rows that a search of partition `w` meets: it begins at row `n`, in the half of the
epoch where the partition is versioned, and none of its rows is disabled. -/
def Searched (a : AsaSt) (w : Word) (epoch : Bool) (g n : Nat) : Prop :=
  let bank := n / 2048 - fld w 0 5
  fld w 0 5 ≤ n / 2048 ∧ bank < fld w 5 6 ∧ bank % g = 0 ∧
    (w.getLsbD 13 = true → (epoch = true ↔ fld w 5 6 / 2 ≤ bank)) ∧ ∀ j, j < g → a.disabled.get (n + 2048 * j) = false

end Sys2Proof.Spec

open Sys2Proof.Spec in
/-- R39, R194, R232, R243, R244: the write of a row's last word in ASA window 0 stores the row and its shadow together, the words
staged and the others as they were, and enables the row; one to a row of the KIND 1 partition is ignored with L2_WR, and one to
a bank that does not accept writes is ignored. -/
def Sys2Proof.Spec.RowsAreWritten : Prop :=
  ∀ (s : State) (sl : Slice) (row : Fin 65536) (v : Word),
    let i := slInst .asa sl
    Reached s i → At s i row.val 10 11 → (s.wsOf i).win.toNat = 0 →
    let x := s.wsOf i
    let word := fun k => if k = 10 then v &&& 0x1FFFF else
      ((x.staged.find? fun p => p.1 = row.val * 11 + k).map (·.2)).getD (rowWord ((s.asa sl).shadow.get row.val) k)
    ∃ t, exec (.wdataWrite i v) s = .next t ∧
      (¬ InL2 s sl row.val → s.bankRefuses i 0 row.val = false →
        (∀ k, k < 11 → rowWord ((t.asa sl).row row.val) k = word k) ∧
        (t.asa sl).shadow.get row.val = (t.asa sl).row row.val ∧ (t.asa sl).disabled.get row.val = false ∧
        (t.asa sl).lost.get row.val = false ∧
        (∀ n, n ≠ row.val → (t.asa sl).row n = (s.asa sl).row n ∧ (t.asa sl).shadow.get n = (s.asa sl).shadow.get n ∧
          (t.asa sl).disabled.get n = (s.asa sl).disabled.get n) ∧
        t = { s with asas := t.asas, wst := t.wst, fwds := t.fwds }) ∧
      (InL2 s sl row.val → s.bankRefuses i 0 row.val = false →
        t.regB i R.ASA_STAT 4 = true ∧ t = { s with regs := t.regs, wst := t.wst }) ∧
      (s.bankRefuses i 0 row.val = true → t.asas = s.asas)

open Sys2Proof.Spec in
/-- R233-R241: a search tries the lowest matching rows, at most three, against the key shadow: it returns the first whose shadow
matches, and the rows before it failed; else it misses. When its result returns, each failed row is disabled, queued for its
rewrite, counted, recorded in LASTROW and reported, and MULTI is set after three (of an entry in several banks it is the row of its
first bank: the model's choice, log entry 144). -/
def Sys2Proof.Spec.SearchesAreVerified : Prop :=
  (∀ (s : State) (sl : Slice) (w : Word) (epoch : Bool) (key mask : Nat) (pref : Byte),
    let a := s.asa sl
    let g := 2 ^ fld w 11 2
    let r := s.asaSearch sl w epoch key mask pref
    let stored := fun n => Searched a w epoch g n ∧ RowsMatch a.row g n key mask pref
    let good := fun n => RowsMatch a.shadow.get g n key mask pref
    r.2.length ≤ 3 ∧ (∀ n ∈ r.2, stored n ∧ ¬ good n) ∧ r.2.Pairwise (· < ·) ∧
      (∀ n, r.1 = some n → stored n ∧ good n ∧ ∀ m, m < n → stored m → m ∈ r.2) ∧
      (r.1 = none → r.2.length = 3 ∨ ∀ n, stored n → n ∈ r.2)) ∧
  ∀ (s : State) (x : CtxId) (tag : Fin 4) (l : Lookup), Quiet s → (s.ctx x).look[tag] = some l →
    Plain { l with falseRows := [], multi := false } → s.tableOn x.slice l.table = true → ReportOnly s (srcOf 6 x.slice) →
    let i := slInst .asa x.slice
    let a := s.asa x.slice
    ∃ t, exec (.lookupResult x tag false) s = .next t ∧
      (∀ n, (t.asa x.slice).disabled.get n = (a.disabled.get n || decide (n ∈ l.falseRows))) ∧
      (∀ n ∈ l.falseRows, a.lost.get n = false → n ∈ (t.asa x.slice).rewriteQ) ∧
      (t.asa x.slice).row = a.row ∧ (t.asa x.slice).shadow = a.shadow ∧
      Counted s t i R.ASA_FALSEHIT l.falseRows.length ∧
      (∀ n, l.falseRows.getLast? = some n → t.reg i R.ASA_LASTROW = BitVec.ofNat 32 n ∧ t.latched (srcOf 6 x.slice) = true) ∧
      (l.multi = true → t.regB i R.ASA_STAT 1 = true)

open Sys2Proof.Spec in
/-- R234, R241-R243: a partition descriptor is stored when it may stand beside the others, else ignored with PART_ERR; a
failed row is rewritten from its shadow and enabled; Scrub rewrites a row that differs from its shadow and counts it. -/
def Sys2Proof.Spec.RowsAreRewritten : Prop :=
  ∀ (s : State) (sl : Slice), Reached s (slInst .asa sl) →
    let i := slInst .asa sl
    let a := s.asa sl
    (∀ (part : Fin 32) (v : Word),
      let others := ((List.range 32).filter (· ≠ part.val)).map (fun p => s.ent i 1 p 0) |>.filter (·.getLsbD 15)
      let old := s.ent i 1 part.val 0
      ∃ t, exec (.asaPartitionWrite (Fin.castLE (by omega) sl) part v) s = .next t ∧
        ((if old.getLsbD 15 then v.getLsbD 15 = false else v.getLsbD 15 = true → partLegal v others = true) →
          t.ent i 1 part.val 0 = v &&& 0xFFFF ∧ t = { s with win := t.win, bad := t.bad, regs := t.regs }) ∧
        (¬ (if old.getLsbD 15 then v.getLsbD 15 = false else v.getLsbD 15 = true → partLegal v others = true) →
          t.win = s.win ∧ t.regB i R.ASA_STAT 3 = true)) ∧
    (∀ r rest, a.rewriteQ = r :: rest → ∃ t, exec (.asaRowRewrite sl) s = .next t ∧
      (t.asa sl).row r = a.shadow.get r ∧ (t.asa sl).disabled.get r = false ∧ (t.asa sl).rewriteQ = rest ∧
      (t.asa sl).shadow = a.shadow ∧ t = { s with asas := t.asas }) ∧
    (s.regB i R.ASA_CTRL 0 = true → ∀ (row : Fin 65536), a.shadowErr.get row.val = .clean → a.lost.get row.val = false →
      ∃ t, exec (.asaScrubRow sl row .clean) s = .next t ∧
      (t.asa sl).row row.val = a.shadow.get row.val ∧ (t.asa sl).shadow = a.shadow ∧
      (t.reg i R.ASA_SCRUBFIX).toNat = min ((s.reg i R.ASA_SCRUBFIX).toNat +
        if a.row row.val = a.shadow.get row.val then 0 else 1) (2 ^ 32 - 1))

/-- Partitions are described; rows are written through window 0, verified by each search, and rewritten from their shadow:
`RowsAreWritten`, `SearchesAreVerified`, `RowsAreRewritten`. -/
def Obligations.SearchArraysAreKept : Prop :=
  Sys2Proof.Spec.RowsAreWritten ∧
  Sys2Proof.Spec.SearchesAreVerified ∧
  Sys2Proof.Spec.RowsAreRewritten

/-! ### Rewrite and the switch core -/

namespace Sys2Proof.Spec

/-- RWR or SWC of a slice takes commands: the slice is awake and neither is under reset. -/
structure SwitchOn (s : State) (sl : Slice) : Prop where
  quiet : Quiet s
  awake : s.sleep sl = 0
  swc : s.inBlockReset (slInst .swc sl) = false
  rwr : s.inBlockReset (slInst .rwr sl) = false

/-- A frame that was received whole, with a good FCS, and holds cells. -/
structure GoodFrame (f : Frame) : Prop where
  final : f.final = true
  clean : f.poison = false ∧ f.fcsBad = false ∧ f.gone = false
  length : 64 ≤ f.bytes.length
  fcs : f.bytes.drop (f.bytes.length - 4) = fcsOf (f.bytes.take (f.bytes.length - 4))

/-- R92, R277: a descriptor that asks for nothing but its ACTION: no punt copy, no sample, no capture. -/
structure PlainDesc (s : State) (sl : Slice) (d : Desc) : Prop where
  flags : d.flag 0 = false ∧ d.flag 1 = false
  samples : d.samples = []
  capture : s.regB swc4 R.SWC_HRCFG 8 = false

/-- The charges of a copy are added to its port-class, its tenant and the shared pool (R279). -/
structure Charged (s t : State) (sl : Slice) (c : Copy) (a b n : Nat) : Prop where
  guar : (t.swc sl).gused.get (portClass c.port (c.queue % 8)) = (s.swc sl).gused.get (portClass c.port (c.queue % 8)) + a
  tguar : (t.swc sl).tgused.get c.tid = (s.swc sl).tgused.get c.tid + b
  shared : (t.swc sl).tsused.get c.tid = (s.swc sl).tsused.get c.tid + n
  stored : ((t.swc sl).stored.get c.fid).refs = ((s.swc sl).stored.get c.fid).refs + 1

/-- A 16-bit field of a counter has counted one more. -/
def CountedHalf (s t : State) (i : InstId) (off lo : Nat) : Prop :=
  fld (t.reg i off) lo 16 = min (fld (s.reg i off) lo 16 + 1) 65535

/-- R284: the members of a group: it is valid, has some, and they lie in the list. -/
def GroupList (s : State) (sl : Slice) (g : Nat) (l : List Nat) : Prop :=
  let w := s.ent (slInst .swc sl) 4 g 0
  w.getLsbD 31 = true ∧ fld w 18 12 ≠ 0 ∧ fld w 0 18 + fld w 18 12 ≤ 262144 ∧
  l = (List.range (fld w 18 12)).map (fld w 0 18 + ·)

/-- R284: the copy that a member of a group asks for, none where the member is not valid or is pruned. -/
def memberCopy (s : State) (sl : Slice) (d : Desc) (m : Nat) : Option Copy :=
  let w := s.ent (slInst .swc sl) 5 m 0
  let v := s.ent (slInst .swc sl) 5 m 1
  if w.getLsbD 31 = false ∨ (w.getLsbD 30 = true ∧ d.injected = false ∧ fld w 18 8 = (s.frame d.fid).inport.val) then none
  else some { fid := d.fid, eslice := fld w 0 2, port := fld w 18 8, queue := fld w 2 16 * 8 + d.byte 2 % 8, tid := d.byte 48
              edit := fld v 0 16, ovhd := fld v 16 6, args := slice d.rd 16 32, ecnCap := d.flag 2, multicast := true }

/-- R277: a copy passes steps 3 and 4: its node has good parity and leads to its port, which is in UP, and the egress slice
admits. -/
structure Passes (s : State) (c : Copy) : Prop where
  node : let e : Slice := Fin.ofNat 4 c.eslice
    s.badEntry (slInst .tmg e) 0 (c.queue / 8) = false ∧ s.badEntry (slInst .tmg e) 1 (s.service e (c.queue / 8)) = false ∧
    c.port / 64 = e.val ∧ s.nodePort e (c.queue / 8) = some (c.port % 64)
  port : s.portState c.port = 7
  admits : let e : Slice := Fin.ofNat 4 c.eslice
    s.sleep e = 0 ∧ s.inBlockReset (slInst .swc e) = false ∧ s.inBlockReset (slInst .tmg e) = false

/-- R277, R289: nothing of the frame waits for admission or crosses the fabric. -/
def Settled (s : State) (fid : Nat) : Prop :=
  (∀ e : Slice, ∀ c ∈ (s.swc e).admitQ, c.fid ≠ fid) ∧ s.onLinks fid = false

/-- R257: the edit list of a copy holds a word with a parity error, or else the template that one of its edits takes bytes
from does: whether it is the template, and the index. -/
def DamagedEdit (s : State) (sl : Slice) (c : Copy) (template : Bool) (index : Nat) : Prop :=
  let i := slInst .rwr sl
  if template then s.badEntry i 0 c.edit = false ∧ s.badEntry i 1 index = true ∧
      fld (s.ent i 0 c.edit 0) 0 12 = index ∧
      ∃ w ∈ edits (s.editList c), (fld w 0 4 = 1 ∨ fld w 0 4 = 2) ∧ w.getLsbD 20 = false
  else s.badEntry i 0 c.edit = true ∧ index = c.edit

/-- The device has written bytes to host memory at an address, and no other byte of it. -/
def HostWritten (s t : State) (a : Nat) (l : List Byte) : Prop :=
  ∀ n, memGet t.hif.mem n = if a ≤ n ∧ n < a + l.length then l[n - a]? else memGet s.hif.mem n

/-- R298, R487: the smallest buffer cached for a punt ring that holds `n` bytes: its class and address; of equal classes the
lowest (the model's choice, log entry 54). -/
def BufferFor (s : State) (r n k : Nat) (addr : BitVec 64) : Prop :=
  let size := fun j => fld (s.ring (puntBlk r) 7) (8 * j) 8 * 128
  let holds := fun j => j < 4 ∧ n ≤ size j ∧ size j ≠ 0 ∧ ∃ e ∈ (s.hif.rings.get r).cache, e.1 = j
  holds k ∧ (∀ j, holds j → size k < size j ∨ (size k = size j ∧ k ≤ j)) ∧
  ((s.hif.rings.get r).cache.find? fun e => e.1 = k) = some (k, addr)

/-- R488: the completion descriptor of a punt item. -/
def puntCompletion (s : State) (p : PuntItem) (addr : BitVec 64) (n k : Nat) : List Byte :=
  let phase : Nat := if (s.hif.rings.get p.ring).phase then 128 else 0
  leBytes 8 addr.toNat ++ leBytes 2 n ++ [BitVec.ofNat 8 (p.kind + 4 * k + phase), BitVec.ofNat 8 p.inport] ++
    leBytes 4 p.aux.toNat ++ leBytes 4 p.tsSec.toNat ++ leBytes 4 p.tsNs.toNat ++
    [BitVec.ofNat 8 p.tid, BitVec.ofNat 8 p.tclass, 0, 0] ++ leBytes 4 p.seq.toNat

end Sys2Proof.Spec

open Sys2Proof.Spec in
/-- R261, R262: the carried FCS of a good frame, computed from the difference of the heads alone, is the FCS of the frame
as it leaves, padding included. -/
def Obligations.CarriedFcsIsFresh : Prop :=
  ∀ (f : Frame) (h : List Byte), GoodFrame f → f.injected = false →
    rewriteFcs f h false = fcsOf (padTo60 (h ++ frameTail f)) ∧
      rewritten f h false = padTo60 (h ++ frameTail f) ++ fcsOf (padTo60 (h ++ frameTail f))

open Sys2Proof.Spec in
/-- R256-R262, R266, R274: the oldest dequeued copy whose edits are legal goes to its MAC with its edited head and an FCS
of its bytes; one whose list is not legal, whose list or template is damaged, or whose bytes would be too many, is dropped and
counted, the first two with the index in RWR_LASTBAD and their fault source; the signature of an instance whose clock domain runs is
recomputed from its registers. -/
def Sys2Proof.Spec.FramesAreRewritten : Prop :=
  ∀ (s : State) (sl : Slice) (c : Copy) (r : List Copy), SwitchOn s sl → (s.swc sl).rewriteQ = c :: r →
    c.gone = false → c.eslice = sl.val → GoodFrame (s.frame c.fid) →
    let f := s.frame c.fid
    (s.editPar c = none → listLegal (frameHead f).length (s.editList c) = true → s.tooLong c = false → c.ce = false →
      ∃ t, exec (.frameRewrite sl .clean) s = .next t ∧ (t.swc sl).rewriteQ = r ∧
        (t.port c.port).mac = (s.port c.port).mac ++ [{
          copy := c, head := s.rewriteHead c
          bytes := padTo60 (s.rewriteHead c ++ frameTail f) ++ fcsOf (padTo60 (s.rewriteHead c ++ frameTail f))
          final := true }] ∧
        t = { s with ports := t.ports, swcs := t.swcs, acts := t.acts }) ∧
    (s.editPar c = none → listLegal (frameHead f).length (s.editList c) = true → s.tooLong c = true → c.deep = none →
      ∃ t, exec (.frameRewrite sl .clean) s = .next t ∧ (t.swc sl).rewriteQ = r ∧ t.ports = s.ports ∧
        Counted s t (slInst .rwr sl) R.RWR_LENDROP 1) ∧
    (s.editPar c = none → listLegal (frameHead f).length (s.editList c) = false → c.deep = none → ReportOnly s (srcOf 8 sl) →
      ∃ t, exec (.frameRewrite sl .clean) s = .next t ∧ (t.swc sl).rewriteQ = r ∧ t.ports = s.ports ∧
        CountedHalf s t (slInst .rwr sl) R.RWR_DROP 16 ∧ t.latched (srcOf 8 sl) = true ∧
        (c.edit < 65536 → t.reg (slInst .rwr sl) R.RWR_LASTBAD = BitVec.ofNat 32 c.edit)) ∧
    (∀ template index, DamagedEdit s sl c template index → c.deep = none → ReportOnly s (srcOf 9 sl) →
      ∃ t, exec (.frameRewrite sl .clean) s = .next t ∧ (t.swc sl).rewriteQ = r ∧ t.ports = s.ports ∧
        CountedHalf s t (slInst .rwr sl) R.RWR_DROP 0 ∧ t.latched (srcOf 9 sl) = true ∧
        t.reg (slInst .rwr sl) R.RWR_LASTBAD = BitVec.ofNat 32 (index + 65536 + if template then 131072 else 0)) ∧
    ∀ i : InstId, i.present = true → s.clocked i = true →
      exec (.configSignatureRecompute i) s = .next { s with sigs := s.sigs.set (instIndex i) (s.sigNow i) }

open Sys2Proof.Spec in
/-- R277, R278, R284, R289: the oldest released descriptor is resolved by its ACTION: dropped and counted, a copy for the
port of its queue, a copy for each member of its group, or a punt; its cells are freed, kept or moved with it. -/
def Sys2Proof.Spec.DescriptorsAreResolved : Prop :=
  ∀ (s : State) (sl : Slice) (d : Desc) (r : List Desc), SwitchOn s sl → (s.swc sl).descs = d :: r → PlainDesc s sl d →
    GoodFrame (s.frame d.fid) → (s.frame d.fid).linked = {} → Settled s d.fid →
    let dest := d.dest
    let e : Slice := Fin.ofNat 4 (fld dest 0 2)
    let node := fld dest 2 16
    let cells := ((s.frame d.fid).bytes.length + 255) / 256
    let freed := fun (t : State) => (t.frame d.fid).ingCells = 0 ∧ (t.swc sl).descs = r ∧
      t = { s with swcs := t.swcs, frames := t.frames, regs := t.regs, hif := t.hif }
    (d.byte 0 = 0 → ∃ t, exec (.descriptorResolve sl false) s = .next t ∧ freed t ∧
      Counted s t (slInst .swc sl) R.SWC_DROP 1 ∧ (t.swc sl).admitQ = (s.swc sl).admitQ) ∧
    (∃ t, exec (.descriptorResolve sl true) s = .next t ∧ freed t ∧ Counted s t (slInst .swc sl) (R.SWC_DROP + 4) 1) ∧
    (d.byte 0 = 1 → s.badEntry (slInst .tmg e) 0 node = false →
      s.badEntry (slInst .tmg e) 1 (s.service e node) = false → fld dest 18 8 / 64 = e.val →
      s.nodePort e node = some (fld dest 18 8 % 64) → s.sleep e = 0 → s.inBlockReset (slInst .swc e) = false →
      s.inBlockReset (slInst .tmg e) = false →
      (s.portState (fld dest 18 8) = 7 → ∃ t c, exec (.descriptorResolve sl false) s = .next t ∧
        (t.swc e).admitQ = (s.swc e).admitQ ++ [c] ∧ c.fid = d.fid ∧ c.eslice = e.val ∧ c.port = fld dest 18 8 ∧
        c.queue = node * 8 + d.byte 2 % 8 ∧ c.edit = d.le 8 2 ∧ c.tid = d.byte 48 ∧ c.args = slice d.rd 16 32 ∧
        t.frames = s.frames ∧ t = { s with swcs := t.swcs }) ∧
      (s.portState (fld dest 18 8) ≠ 7 → ∃ t, exec (.descriptorResolve sl false) s = .next t ∧ freed t ∧
        Counted s t (slInst .swc sl) (R.SWC_DROP + 12) 1)) ∧
    (d.byte 0 = 2 → (∀ l, ¬ GroupList s sl (fld dest 0 16) l) → ∃ t, exec (.descriptorResolve sl false) s = .next t ∧
      freed t ∧ Counted s t (slInst .swc sl) (R.SWC_DROP + 16) 1) ∧
    (∀ l, d.byte 0 = 2 → GroupList s sl (fld dest 0 16) l → (∀ m ∈ l, ∀ c, memberCopy s sl d m = some c → Passes s c) →
      let copies := l.filterMap (memberCopy s sl d)
      ∃ t, exec (.descriptorResolve sl false) s = .next t ∧ (t.swc sl).descs = r ∧
        (∀ n : Slice, (t.swc n).admitQ = (s.swc n).admitQ ++ copies.filter fun c => c.eslice = n.val) ∧
        (copies ≠ [] → t.frames = s.frames ∧ t = { s with swcs := t.swcs })) ∧
    (d.byte 0 = 3 → portSlice (s.frame d.fid).inport.val = sl →
      (s.swc sl).puntUse + cells ≤ s.regF (slInst .swc sl) R.SWC_PUNTRSV 0 19 →
      ∃ t p, exec (.descriptorResolve sl false) s = .next t ∧ freed t ∧ (t.swc sl).punts = (s.swc sl).punts ++ [p] ∧
        (t.swc sl).puntUse = (s.swc sl).puntUse + cells ∧ p.kind = 0 ∧ p.ring = fld dest 0 6 ∧ p.fid = d.fid ∧
        p.cells = cells)

/-- Descriptors become copies for their destinations, whose frames are rewritten: `FramesAreRewritten`,
`DescriptorsAreResolved`. -/
def Obligations.CopiesAreResolvedAndRewritten : Prop :=
  Sys2Proof.Spec.FramesAreRewritten ∧
  Sys2Proof.Spec.DescriptorsAreResolved

open Sys2Proof.Spec in
/-- R279-R282, R345, R365: a copy is admitted against the guarantees of its port-class and tenant and the shared pool: it is
charged, numbered, and queued under the energy class of its queue at that time; where the pool refuses it, it is dropped and
counted. Where gates act, a copy that becomes the head of its queue and is longer than its class's longest window is dropped and
counted (when a head is judged is the model's reading, log entry 141). -/
def Sys2Proof.Spec.CopiesAreAdmitted : Prop :=
  ∀ (s : State) (sl : Slice) (c : Copy) (r : List Copy), SwitchOn s sl → (s.swc sl).admitQ = c :: r →
    c.eslice = sl.val → GoodFrame (s.frame c.fid) → (s.frame c.fid).cut = false →
    portSlice (s.frame c.fid).inport.val = sl → s.stage = 0 → c.ecnCap = false →
    s.inBlockReset (slInst .tmg sl) = false →
    let e := s.energyClass sl (c.queue / 8) (c.queue % 8) c.port
    e ≠ 3 →
    (s.qprof sl c.queue 1).getLsbD 19 = false → Settled { s with swcs := s.swcs.set sl.val { s.swc sl with admitQ := r } } c.fid →
    let n := ((s.frame c.fid).bytes.length + 255) / 256
    (∀ a b m, s.admission sl (portClass c.port (c.queue % 8)) c.tid n = some (a, b, m) → c.gone = false → c.deep = none →
      portSlice c.port = sl → s.portState c.port = 7 → s.portQueues c.port = [] → s.queue sl c.queue = [] →
      s.gatesAct sl (c.port % 64) = true →
      ∀ w : Nat, ((s.tmg sl).gates.get (c.port % 64)).longest[c.queue % 8]? = some (some w) →
        let long := (w : Int) * s.portRate c.port <
          ((s.frame c.fid).bytes.length + sext (fld (s.ent (slInst .tmg sl) 2 (c.port % 64) 2) 10 8) 8 + 20) * 8
        ∃ t, exec (.copyAdmit sl) s = .next t ∧ (t.swc sl).admitQ = r ∧
          (long → t.queue sl c.queue = [] ∧
            Counted s t (slInst .tmg sl) R.TMG_GATEDROP 1 ∧ t.regB (slInst .tmg sl) R.TMG_STAT 3 = true ∧
            (t.swc sl).gused.get (portClass c.port (c.queue % 8)) = (s.swc sl).gused.get (portClass c.port (c.queue % 8))) ∧
          (¬ long → (t.queue sl c.queue).map (·.fid) = [c.fid] ∧ Charged s t sl c a b m)) ∧
    (s.gatesAct (portSlice c.port) (c.port % 64) = false ∨ s.portState c.port ≠ 7 →
      ∀ a b m, s.admission sl (portClass c.port (c.queue % 8)) c.tid n = some (a, b, m) →
      ∃ t, exec (.copyAdmit sl) s = .next t ∧ (t.swc sl).admitQ = r ∧ Charged s t sl c a b m ∧
        t.queue sl c.queue = s.queue sl c.queue ++ [{ c with
          cid := s.nextCopy, a := a, b := b, s := m, len := (s.frame c.fid).bytes.length, cutThrough := false, eclass := e
          admitted := s.time }] ∧
        t.nextCopy = s.nextCopy + 1 ∧ (t.frame c.fid).ingCells = 0) ∧
    (s.gatesAct (portSlice c.port) (c.port % 64) = false ∨ s.portState c.port ≠ 7 ∨ s.portQueues c.port = [] →
      s.admission sl (portClass c.port (c.queue % 8)) c.tid n = none →
      ∃ t, exec (.copyAdmit sl) s = .next t ∧ (t.swc sl).admitQ = r ∧ t.tmgs = s.tmgs ∧
        Counted s t (slInst .swc sl) (R.SWC_DROP + 20) 1 ∧ t.regB (slInst .swc sl) R.SWC_STAT 4 = true)

open Sys2Proof.Spec in
/-- R281, R286, R395: a waiting cell crosses a link that runs; a cell received well leaves the link and counts as an arrival of
the last 10 µs, and the last cell of a frame to arrive frees the frame's cells in its ingress slice; a cell that fails its check is
sent again with every cell sent after it, each of which is counted, and the eighth failure in a row retrains the link; a retrain
that succeeds ends and counts, one that fails is repeated, and the third to fail kills the link: it
is empty from then on, its event and fault source are raised, and each frame it held is dropped under FABRIC, once, in the slice
that sends (which frames are dropped and where they count is the model's reading, log entry 56). -/
def Sys2Proof.Spec.CellsCrossTheFabric : Prop :=
  ∀ (s : State) (l : Link), Quiet s →
    let x := s.link l.src l.dst
    let k := 4 * l.src.val + l.dst.val
    (s.linkRuns l = true → ∀ f r, x.waiting = f :: r → ∃ t, exec (.fabricCellCross l .clean) s = .next t ∧
      t = { s.updLink l.src l.dst fun y => { y with waiting := r, flying := y.flying ++ [f] } with acts := t.acts }) ∧
    (∀ f r, x.flying = f :: r → f ∈ r → portSlice (s.frame f).inport.val = l.src →
      ∃ t, exec (.fabricCellReceive l true) s = .next t ∧
        t.fabIn.get l.dst.val = s.time :: (s.fabIn.get l.dst.val).filter (fun x => s.time ≤ x + 10000) ∧
        t = { s.updLink l.src l.dst fun y => { y with flying := r, fails := 0 } with acts := t.acts, fabIn := t.fabIn }) ∧
    (∀ f r, x.flying = f :: r → f ∉ r → f ∉ x.waiting → portSlice (s.frame f).inport.val = l.src → Settled
        { s with links := s.links.set k { x with flying := r } } f → (s.frame f).final = true →
      (s.frame f).ingCells ≤ s.regF (slInst .swc l.src) R.SWC_INGUSE 0 19 →
      ∃ t, exec (.fabricCellReceive l true) s = .next t ∧ t.link l.src l.dst = { x with flying := r, fails := 0 } ∧
        t.frame f = { s.frame f with ingCells := 0, ingShared := 0 } ∧
        t.regF (slInst .swc l.src) R.SWC_INGUSE 0 19 = s.regF (slInst .swc l.src) R.SWC_INGUSE 0 19 - (s.frame f).ingCells) ∧
    (x.flying ≠ [] → ReportOnly s 90 → ∃ t, exec (.fabricCellReceive l false) s = .next t ∧
      t.link l.src l.dst = { x with
        waiting := x.flying ++ x.waiting, flying := [], fails := x.fails + 1, retraining := decide (x.fails = 7) } ∧
      Counted s t swc4 R.SWC_FABRETRY x.flying.length ∧ t.latched 90 = true ∧
      (x.fails = 7 → t.regB swc4 R.SWC_FABSTAT k = false) ∧
      (x.fails ≠ 7 → t.reg swc4 R.SWC_FABSTAT = s.reg swc4 R.SWC_FABSTAT)) ∧
    (x.retraining = true → ∃ t, exec (.fabricRetrainComplete l true) s = .next t ∧
      t.link l.src l.dst = { x with fails := 0, retraining := false, retrainFails := 0 } ∧
      Counted s t swc4 R.SWC_FABRETRAIN 1 ∧ t.regB swc4 R.SWC_FABSTAT k = true ∧
      t.regB swc4 R.SWC_FABEVENT k = true) ∧
    (x.retraining = true → x.retrainFails < 2 → ∃ t, exec (.fabricRetrainComplete l false) s = .next t ∧
      t.link l.src l.dst = { x with retraining := true, retrainFails := x.retrainFails + 1 } ∧
      Counted s t swc4 R.SWC_FABRETRAIN 1) ∧
    (x.retraining = true → x.retrainFails = 2 → ReportOnly s 91 → ReportOnly s (56 + l.dst.val) →
      ∃ t, exec (.fabricRetrainComplete l false) s = .next t ∧
      t.link l.src l.dst = { x with waiting := [], flying := [], retraining := false, retrainFails := 3 } ∧
      t.linkRuns l = false ∧ Counted s t swc4 R.SWC_FABRETRAIN 1 ∧ t.regB swc4 R.SWC_FABEVENT (16 + k) = true ∧
      t.latched 91 = true ∧ Counted s t (slInst .swc l.src) (R.SWC_DROP + 44) (x.flying ++ x.waiting).dedup.length)

open Sys2Proof.Spec in
/-- R287, R288, R314, R319: a copy chosen for spill, by its queue's depth at its admission, gets a buffer of its tenant's quota
and counts in SWC_SPILLCNT as it is handed over (the model's reading, log entry 59); its SRAM charges go once the channels it
lies in serve the write; a queue below DRAINTH starts reading its next copy back, and the data that returns is charged in
SRAM. A copy that waits for its spill wakes a slice that sleeps (R336). -/
def Sys2Proof.Spec.CopiesSpillAndDrain : Prop :=
  (∀ (s : State) (sl : Slice) (read : SramRead), Quiet s → s.inBlockReset (slInst .swc sl) = false → s.awake sl = false →
    (s.swc sl).spillQ ≠ [] → ∃ t, exec (.copySpill sl read) s = .next t ∧ (t.swc sl).spillQ = (s.swc sl).spillQ ∧
      (s.failed sl = false → (t.reg (slInst .egv sl) R.EGV_SSTAT).getLsbD 10 = true)) ∧
  ∀ (s : State) (sl : Slice) (q : Fin 524288) (c : Copy), SwitchOn s sl → s.queue sl q.val = [c] → c.gone = false →
    c.eslice = sl.val → c.queue = q.val →
    ((s.swc sl).spillQ = [(q.val, c.cid)] → c.deep = none → (s.frame c.fid).final = true → s.cellsHere c.fid sl = true →
      (∀ a, (s.spillBuffer sl c 1).1 = some a →
        ∃ t, exec (.copySpill sl .clean) s = .next t ∧ (t.swc sl).spillQ = [] ∧
          (t.swc sl).spilling = (s.swc sl).spilling ++ [(q.val, c.cid)] ∧
          t.queue sl q.val = [{ c with deep := some a }] ∧ (t.bpm sl).refs.get a = 1 ∧
          Counted s t (slInst .swc sl) R.SWC_SPILLCNT 1) ∧
      ((s.spillBuffer sl c 1).1 = none → s.stage < 2 →
        ∃ t, exec (.copySpill sl .clean) s = .next t ∧ t.queue sl q.val = [c] ∧ (t.swc sl).spillQ = [])) ∧
    (∀ a, (s.swc sl).spilling = [(q.val, c.cid)] → c.deep = some a → s.deepServes sl 0 a c.deepBytes = true →
      ∃ t, exec (.spillWriteComplete sl) s = .next t ∧ (t.swc sl).spilling = [] ∧
        t.queue sl q.val = [{ c with a := 0, b := 0, s := 0 }] ∧
        (t.swc sl).gused.get (portClass c.port (c.queue % 8)) =
          (s.swc sl).gused.get (portClass c.port (c.queue % 8)) - c.a) ∧
    (∀ a, c.deep = some a → c.a + c.b + c.s = 0 → (s.swc sl).draining = [] →
      s.inBlockReset (slInst .dtc sl) = false → s.throttled sl 1 = false → s.gov.drain5 = false →
      exec (.drainReadback sl q) s = .next (if fld (s.qprof sl q.val 2) 0 19 = 0 then s else
        s.updSwc sl fun x => { x with draining := [(q.val, c.cid)] })) ∧
    (∀ a pa pb pn block dev, c.deep = some a → s.deepServes sl 1 a c.deepBytes = true →
      (s.swc sl).draining = [(q.val, c.cid)] → s.stage < 3 →
      (s.bpm sl).refs.get a = 2 → s.bufferOffline sl a c.deepBytes = false →
      s.admission sl (portClass c.port (c.queue % 8)) c.tid ((c.len + 255) / 256) = some (pa, pb, pn) →
      ∃ t, exec (.drainReadComplete sl .clean block dev) s = .next t ∧ (t.swc sl).draining = [] ∧
        t.queue sl q.val = [{ c with a := pa, b := pb, s := pn, deep := none, wasDeep := true }] ∧
        (t.bpm sl).refs.get a = 1 ∧ Counted s t (slInst .swc sl) R.SWC_DRAINCNT 1 ∧ Charged s t sl c pa pb pn)

/-- Copies are admitted or dropped for a reason, spill to the deep tier and drain back: `CopiesAreAdmitted`,
`CopiesSpillAndDrain`. -/
def Obligations.CopiesAreAdmittedAndSpilled : Prop :=
  Sys2Proof.Spec.CopiesAreAdmitted ∧
  Sys2Proof.Spec.CopiesSpillAndDrain

open Sys2Proof.Spec in
/-- R275, R292, R293, R299, R303: a reserve or guarantee is stored when SHSIZE stays at 4,096 cells, else ignored with
CFG_ERR; EN of SWC_HRCFG starts the capture ring; a record of the slice whose turn it is, with its PHASE, is written to host
memory at HRHEAD, which then moves on, or, with the ring full, is counted in HRDROP; the first sweep that finds a cell
unaccounted for only remembers it, and the second frees it and counts it (that records and punted items share the turn of the
slices is the model's choice, log entry 130, and that the sweep's task holds a housekeeping pup until its end, log entry 37).
-/
def Sys2Proof.Spec.SwitchRingsAndReserves : Prop :=
  ∀ (s : State) (sl : Slice), SwitchOn s sl →
    (Reached s (slInst .swc sl) → ∀ (pc : Fin 512) (v : Word),
      let u := s.setEnt (slInst .swc sl) 0 pc.val 0 (v &&& winMaskAt (slInst .swc sl) 0 pc.val 0)
      ∃ t, exec (.sharedPoolConfigWrite (Fin.castLE (by omega) sl) (.guar pc) v) s = .next t ∧
        (u.takenCells sl + 4096 ≤ 393216 →
          t.ent (slInst .swc sl) 0 pc.val 0 = v &&& winMaskAt (slInst .swc sl) 0 pc.val 0 ∧
          t.regF (slInst .swc sl) R.SWC_SHSIZE 0 19 = 393216 - u.takenCells sl ∧ t = { u with regs := t.regs }) ∧
        (393216 < u.takenCells sl + 4096 → t.win = s.win ∧ t.regB (slInst .swc sl) R.SWC_STAT 0 = true)) ∧
    (Reached s swc4 → ∀ v : Word, v.getLsbD 8 = true → ∃ t, exec (.hrcfgEnable v) s = .next t ∧
      t.regB swc4 R.SWC_HRCFG 8 = true ∧ t.reg swc4 R.SWC_HRHEAD = 0 ∧ t.hrPhase = true) ∧
    (∀ b r, s.regB swc4 R.SWC_HRCFG 8 = true → s.inBlockReset hif4 = false → s.hif.puntRr = sl.val →
      (s.swc sl).captures = b :: r → b.length = 64 →
      let n := 2 ^ max 6 (min 20 (s.regF swc4 R.SWC_HRCFG 0 5))
      let h := s.regF swc4 R.SWC_HRHEAD 0 20
      ∃ t, exec (.headerCaptureWrite .clean) s = .next t ∧ (t.swc sl).captures = r ∧ t.hif.puntRr = (sl.val + 1) % 4 ∧
        (t.swc sl).puntUse = (s.swc sl).puntUse - 1 ∧
        ((h + 1) % n = s.regF swc4 R.SWC_HRTAIL 0 20 → Counted s t swc4 R.SWC_HRDROP 1 ∧ t.hif.mem = s.hif.mem) ∧
        ((h + 1) % n ≠ s.regF swc4 R.SWC_HRTAIL 0 20 → t.reg swc4 R.SWC_HRHEAD = BitVec.ofNat 32 ((h + 1) % n) ∧
          t.hrPhase = (if (h + 1) % n ≤ h then !s.hrPhase else s.hrPhase) ∧
          HostWritten s t ((s.reg swc4 R.SWC_HRBASE_HI).toNat * 2 ^ 32 + (s.reg swc4 R.SWC_HRBASE_LO).toNat + 64 * h)
            (b.take 9 ++ (if s.hrPhase then 1 else 0) :: b.drop 10))) ∧
    (s.regB (slInst .swc sl) R.SWC_CTRL 0 = true → s.taskActs sl 16 = true →
      let lost := (s.swc sl).leaked
      ((∀ k ∈ lost, k ∉ (s.swc sl).suspect) → exec (.retrieverSweepEnd sl) s =
        .next ((s.updSwc sl fun x => { x with suspect := lost }).updEgv sl fun e =>
          { e with tasks := e.tasks.filter fun t => t.1 ≠ 16 })) ∧
      (∀ k, lost = [k] → k ∈ (s.swc sl).suspect → ReportOnly s (srcOf 13 sl) →
        ∃ t, exec (.retrieverSweepEnd sl) s = .next t ∧ (t.swc sl).leaked = [] ∧
          Counted s t (slInst .swc sl) R.SWC_RETRIEVE 1))

/-- Cells cross the fabric (the frames of a dead link: the model's reading, log entry 56); reserves and rings of the switch core
(the turn: the model's choice, log entry 130): `CellsCrossTheFabric`, `SwitchRingsAndReserves`. -/
def Obligations.FabricRingsAndReserves : Prop :=
  Sys2Proof.Spec.CellsCrossTheFabric ∧
  Sys2Proof.Spec.SwitchRingsAndReserves

open Sys2Proof.Spec in
/-- R289, R487-R489: HIF writes the item of the slice it serves, with the FCS of its frame (the model's reading, log entry
55; the turn that items share with captured records is its choice, log entry 130), into the smallest buffer that holds it and
its completion into the completion ring, or drops and counts it; it caches a posted buffer; it takes an injected frame that
its owner may send, by a port of its slice (log entry 60), from the ring whose turn it is (the model's choice of turn, log
entry 116). -/
def Obligations.PuntsAndInjections : Prop :=
  ∀ (s : State), Quiet s → s.inBlockReset hif4 = false →
    (∀ (sl : Slice) (p : PuntItem) (r : List PuntItem), s.hif.puntRr = sl.val → SwitchOn s sl →
      (s.swc sl).punts = p :: r → s.puntReady p = true →
      ∃ t, exec (.puntDeliver .clean) s = .next t ∧ (t.swc sl).punts = r ∧ (t.swc sl).puntUse = (s.swc sl).puntUse - p.cells ∧
        t.hif.puntRr = (sl.val + 1) % 4 ∧
        (s.puntOn p.ring = false → Counted s t hif4 R.HIF_PUNTDROP 1 ∧ t.regB hif4 R.HIF_EVENT 6 = true) ∧
        (s.puntOn p.ring = true → ∀ k addr,
          let b := if p.kind = 2 then p.bytes else (s.frame p.fid).bytes
          let done := puntCompletion s p addr b.length k
          let at_ := (s.ring (puntBlk p.ring) 4).toNat * 2 ^ 32 + (s.ring (puntBlk p.ring) 3).toNat + 32 * s.cplHead p.ring
          BufferFor s p.ring b.length k addr →
          (addr.toNat + b.length ≤ at_ ∨ at_ + 32 ≤ addr.toNat → ∀ n, memGet t.hif.mem n =
            if addr.toNat ≤ n ∧ n < addr.toNat + b.length then b[n - addr.toNat]?
            else if at_ ≤ n ∧ n < at_ + 32 then done[n - at_]? else memGet s.hif.mem n) ∧
          fld (t.ring (puntBlk p.ring) 6) 16 14 = (s.cplHead p.ring + 1) % s.cplSize p.ring ∧
          (t.hif.rings.get p.ring).cache.length + 1 = (s.hif.rings.get p.ring).cache.length ∧
          t.reg hif4 R.HIF_PUNTDROP = s.reg hif4 R.HIF_PUNTDROP)) ∧
    (∀ (ring : Fin 64) (addr : BitVec 64) (cls : Fin 4), s.puntOn ring.val = true →
      fld (s.ring (puntBlk ring.val) 5) 16 14 ≠ fld (s.ring (puntBlk ring.val) 5) 0 14 →
      ((s.hif.rings.get ring.val).cache.countP fun p => p.1 = cls.val) < 16 →
      ∃ t, exec (.freeDescriptorPrefetch ring addr cls) s = .next t ∧
        (t.hif.rings.get ring.val).cache = (s.hif.rings.get ring.val).cache ++ [(cls.val, addr)] ∧
        fld (t.ring (puntBlk ring.val) 5) 16 14 = (fld (s.ring (puntBlk ring.val) 5) 16 14 + 1) %
          2 ^ max 6 (min 14 (fld (s.ring (puntBlk ring.val) 2) 0 5))) ∧
    (∀ (ring : Fin 64) (desc frame : List Byte), s.injTurn = some ring.val → s.injOn ring.val = true →
      fld (s.ring (injBlk ring.val) 3) 16 14 ≠ fld (s.ring (injBlk ring.val) 3) 0 14 →
      let len := ofLe (slice desc 8 2)
      let action := ((desc[10]?).getD 0).toNat
      let sl : Slice := Fin.ofNat 4 (((desc[20]?).getD 0).toNat % 4)
      let ok := (action = 1 ∨ action = 2) ∧ 60 ≤ len ∧ len ≤ 16379 ∧
        s.injectAllowed (s.ringOwner false ring.val) action (BitVec.ofNat 32 (ofLe (slice desc 12 4))) = true
      ∃ t, (exec (.injectFetch ring desc frame) s = .next t) ∧
        (¬ ok → Counted s t hif4 R.HIF_INJDENY 1 ∧ t.frames = s.frames ∧
          fld (t.ring (injBlk ring.val) 3) 16 14 = (fld (s.ring (injBlk ring.val) 3) 16 14 + 1) %
            2 ^ max 6 (min 14 (fld (s.ring (injBlk ring.val) 2) 0 5))) ∧
        (ok → SwitchOn s sl → s.regF (slInst .swc sl) R.SWC_INGUSE 0 19 + (len + 4 + 255) / 256 ≤
            s.regF (slInst .swc sl) R.SWC_INGRSV 0 19 →
          (t.frame s.nextFrame).bytes = slice frame 0 len ++ fcsOf (slice frame 0 len) ∧
          (t.frame s.nextFrame).injected = true ∧ t.nextFrame = s.nextFrame + 1 ∧
          fld (t.ring (injBlk ring.val) 3) 16 14 = (fld (s.ring (injBlk ring.val) 3) 16 14 + 1) %
            2 ^ max 6 (min 14 (fld (s.ring (injBlk ring.val) 2) 0 5))))

/-! ### The deep tier -/

namespace Sys2Proof.Spec

/-- A channel's register can be written at once. -/
structure ChannelReached (s : State) (c : Nat) : Prop where
  reached : Reached s (chInst c)

/-- R307: the GiB of a DIMM word: density × (16 ÷ device width) × physical ranks × logical ranks, 8 devices a rank of x8. -/
def gibOf (w : Word) : Nat :=
  (match fld w 6 2 with | 0 => 16 | 1 => 24 | 2 => 32 | _ => 64) / 8 * (if w.getLsbD 8 then 8 else 16) *
    2 ^ fld w 2 2 * 2 ^ fld w 4 2

/-- DTC_CCFG, DTC_CSTAT's STATE and cause of a channel. -/
def chStatus (t : State) (c : Nat) : Nat × Nat := (t.chF c R.DTC_CSTAT 0 3, t.chF c R.DTC_CSTAT 8 4)

/-- R318: no spill write of the channel's slice is under way. -/
def NoSpill (s : State) (c : Nat) : Prop := (s.swc (chSlice c)).spilling = []

/-- R325: the tracker of a bank has the row. -/
def tracked (l : List HeelRow) (row : Nat) : Option Nat := (l.find? fun h => h.row = row).map (·.count)

end Sys2Proof.Spec

open Sys2Proof.Spec in
/-- R305-R307, R315-R317, R338 (that OFFCAUSE keeps its value until the next failure is the model's reading, log entry 64): a
DIMM's description is stored in OFF, READY and FAILED, with the channel's capacity or
BADCFG; START trains a described channel that is not ONLINE; training ends in READY, or in FAILED when an eye is too
narrow. -/
def Sys2Proof.Spec.ChannelsAreTrained : Prop :=
  ∀ (s : State) (ch : Reg), Reached s (chInst ch.val) →
    let c := ch.val
    let st := s.chF c R.DTC_CSTAT 0 3
    (∀ v : Word, s.chReg c (R.DTC_DIMM + 4) = 0 → s.chF c R.DTC_CCFG 4 3 ≤ 5 →
      ((st = 0 ∨ st = 2 ∨ st = 4) → v.getLsbD 0 = true →
        let w := v &&& 0x00FF01FF
        ∃ t, exec (.dimmDescribe ch 0 v) s = .next t ∧ t.chReg c R.DTC_DIMM = w ∧
          (gibOf w ≤ 1024 → (w.getLsbD 1 = true ∨ fld w 4 2 = 0) → fld w 2 2 ≠ 3 →
            t.chF c R.DTC_SIZE 0 26 = gibOf w * 16384 ∧ t.chF c R.DTC_SIZE 31 1 = 0) ∧
          (1024 < gibOf w ∨ (w.getLsbD 1 = false ∧ fld w 4 2 ≠ 0) ∨ fld w 2 2 = 3 → t.chF c R.DTC_SIZE 31 1 = 1) ∧
          t = { s with regs := t.regs }) ∧
      (st = 1 ∨ st = 3 → exec (.dimmDescribe ch 0 v) s = .next s)) ∧
    (∀ v : Word, v.getLsbD 0 = true →
      (st = 3 → ∃ t, exec (.trainingStart ch v) s = .next t ∧ t.chF c R.DTC_TRNSTAT 0 3 = 4 ∧ t.deepMem = s.deepMem ∧
        t.chF c R.DTC_CSTAT 0 3 = 3) ∧
      (st = 0 ∨ st = 2 ∨ st = 4 → s.trainRefused c = false → s.badCfg c = false → s.dimms c ≠ [] →
        ∃ t, exec (.trainingStart ch v) s = .next t ∧ t.chF c R.DTC_CSTAT 0 3 = 1 ∧
          t.regB (chInst c) (chOff c R.DTC_EVENT) 0 = true) ∧
      (st = 0 ∨ st = 2 ∨ st = 4 → s.trainRefused c = false → s.badCfg c = true ∨ s.dimms c = [] →
        ∃ t, exec (.trainingStart ch v) s = .next t ∧ t.chF c R.DTC_CSTAT 0 3 = st ∧ t.chF c R.DTC_TRNSTAT 0 3 = 3)) ∧
    (∀ (ms : BitVec 16) (full : Bool) (lanes : List Word), st = 1 → lanes.length = 80 →
      let eye := s.chF c R.DTC_TRNCTL 4 6
      let fitted := (s.fittedLanes c lanes).map (·.2)
      let wide := fitted.all fun w => decide (eye ≤ fld w 16 8) && decide (eye ≤ fld w 24 8)
      ∃ t, exec (.ddrTrainingComplete ch ms full lanes) s = .next t ∧
        t.chF c R.DTC_TRNSTAT 16 16 = ms.toNat ∧ t.regB (chInst c) (chOff c R.DTC_EVENT) 1 = true ∧
        (wide = true → chStatus t c = (2, s.chF c R.DTC_CSTAT 8 4) ∧ t.chF c R.DTC_TRNSTAT 0 3 = 1) ∧
        (wide = false → chStatus t c = (4, 4) ∧ t.chF c R.DTC_TRNSTAT 0 3 = 2) ∧
        t = { s with regs := t.regs, hif := hifAfter s t })

open Sys2Proof.Spec in
/-- R309, R315, R318, R320, R321: EN takes a READY channel ONLINE while no buffer is in use, and an ONLINE one to READY;
MEMBER and BPM_CTRL.EN change only where R309 admits it; a parity alert that persists fails an ONLINE channel. -/
def Sys2Proof.Spec.ChannelsGoOnline : Prop :=
  ∀ (s : State) (ch : Reg), Reached s (chInst ch.val) →
    let c := ch.val
    let sl := chSlice c
    let cfg := s.chReg c R.DTC_CCFG
    let st := s.chF c R.DTC_CSTAT 0 3
    let free := ∀ p, p < 4 → s.reg (slInst .bpm sl) (R.BPM_BUFUSE + 4 * p) = 0
    (∀ v : Word, v.getLsbD 1 = cfg.getLsbD 1 →
      (v.getLsbD 0 = true → cfg.getLsbD 0 = false → st = 2 →
        (free → ∃ t, exec (.channelEnable ch v) s = .next t ∧ t.chF c R.DTC_CSTAT 0 3 = 3 ∧
          (t.chReg c R.DTC_CCFG).getLsbD 0 = true) ∧
        (¬ free → ∃ t, exec (.channelEnable ch v) s = .next t ∧ t.chF c R.DTC_CSTAT 0 3 = 2 ∧
          t.chF c R.DTC_CSTAT 7 1 = 1 ∧ (t.chReg c R.DTC_CCFG).getLsbD 0 = false)) ∧
      (v.getLsbD 0 = false → st = 3 → NoSpill s c → ∃ t, exec (.channelDisable ch v) s = .next t ∧
        chStatus t c = (2, 1) ∧ (t.chReg c R.DTC_CCFG).getLsbD 0 = false)) ∧
    (∀ v : Word, v.getLsbD 1 ≠ cfg.getLsbD 1 → v.getLsbD 0 = cfg.getLsbD 0 → v.getLsbD 0 = false → st = 0 →
      ∃ t, exec (.memberWrite ch v) s = .next t ∧
        (s.regB (slInst .bpm sl) R.BPM_CTRL 0 = false ∧ free → (t.chReg c R.DTC_CCFG).getLsbD 1 = v.getLsbD 1) ∧
        (¬ (s.regB (slInst .bpm sl) R.BPM_CTRL 0 = false ∧ free) →
          (t.chReg c R.DTC_CCFG).getLsbD 1 = cfg.getLsbD 1 ∧ t.chF c R.DTC_CSTAT 6 1 = 1)) ∧
    (Reached s (slInst .bpm sl) → ∀ v : Word, ∃ t, exec (.bpmEnable (Fin.castLE (by omega) sl) v) s = .next t ∧
      ((s.members sl).length = 3 → v.getLsbD 0 = true → t.chF (4 * sl.val) R.DTC_CSTAT 6 1 = 1 ∧
        t.reg (slInst .bpm sl) R.BPM_CTRL = s.reg (slInst .bpm sl) R.BPM_CTRL) ∧
      ((s.members sl).length ≠ 3 → t.regB (slInst .bpm sl) R.BPM_CTRL 0 = v.getLsbD 0)) ∧
    exec (.caParityAlert ch false) s = .next s ∧
    (st = 3 → NoSpill s c → ReportOnly s (60 + sl.val) → ∃ t, exec (.caParityAlert ch true) s = .next t ∧
      chStatus t c = (4, 2) ∧ t.latched (60 + sl.val) = true)

/-- DDR5 channels are described, trained, brought online and taken off: `ChannelsAreTrained`, `ChannelsGoOnline`. -/
def Obligations.ChannelsAreTrainedAndOnline : Prop :=
  Sys2Proof.Spec.ChannelsAreTrained ∧
  Sys2Proof.Spec.ChannelsGoOnline

open Sys2Proof.Spec in
/-- R323-R326: MR4 doubles or restores a rank's refresh; a refresh takes 8 times the management threshold from its banks'
activation counts, and a rank has 8 groups of 4 banks (PRESUMED, as DDR5 has it, log entry 65); an activation counts its bank
and its row, and at TH takes the reactions of Heel; a window's end clears the trackers. In a slice that failed self-test, whose
DTC is held in reset, nothing of this happens (R537). -/
def Sys2Proof.Spec.RowsAreRefreshed : Prop :=
  (∀ (s : State) (ch : Reg) (rank : Fin 8), Quiet s → s.failed (chSlice ch.val) = true →
    (∀ above persists : Bool, exec (.mr4Poll ch rank above persists) s = .next s) ∧ exec (.refreshIssue ch rank) s = .next s ∧
    (∀ (port : Fin 4) (lr bg : Fin 8) (bank : Fin 4) (row : BitVec 18),
      exec (.dramActivate ch port rank lr bg bank row) s = .next s ∧ exec (.heelHoldExpiry ch port) s = .next s) ∧
    exec (.heelWindowClear ch rank) s = .next s) ∧
  ∀ (s : State) (ch : Reg) (rank : Fin 8), Quiet s → s.failed (chSlice ch.val) = false →
    let c := ch.val
    let r := rank.val
    let n := fld (s.chReg c (R.DTC_DIMM + 4 * (r / 4))) 16 8 * 8
    (s.rankPwr c r = 0 → ∀ above : Bool, ∃ t, exec (.mr4Poll ch rank above false) s = .next t ∧
      t.chF c R.DTC_REFSTAT (8 + r) 1 = 0 ∧
      (above = true → t.chF c R.DTC_REFSTAT r 1 = 1 ∧ (t.chan c).coolReads.get r = 0) ∧
      (above = false → (t.chan c).coolReads.get r = (s.chan c).coolReads.get r + 1 ∧
        (1 ≤ (s.chan c).coolReads.get r → t.chF c R.DTC_REFSTAT r 1 = 0)) ∧
      t = { s with regs := t.regs, chans := t.chans }) ∧
    (s.rankPwr c r = 0 → ∃ t, exec (.refreshIssue ch rank) s = .next t ∧ t = { s with chans := t.chans } ∧
      (t.chan c).refreshes.get r = (s.chan c).refreshes.get r + 1 ∧
      ((s.chan c).raa.wf = true → ∀ bank : Fin 1024, (t.chan c).raa.get (256 * r + bank.val % 256) =
        (s.chan c).raa.get (256 * r + bank.val % 256) - n)) ∧
    (∀ (port : Fin 4) (lr bg : Fin 8) (bank : Fin 4) (row : BitVec 18),
      let k := ((r * 8 + lr.val) * 8 + bg.val) * 4 + bank.val
      let l := (s.chan c).heel.get k
      let th := max 1 (s.chF c R.DTC_HEELCFG 0 16)
      let count := (tracked l row.toNat).getD 0
      (n = 0 → (l.length < 8 ∨ count ≠ 0) → count + 1 < th →
        ∃ t, exec (.dramActivate ch port rank lr bg bank row) s = .next t ∧ t = { s with chans := t.chans } ∧
          tracked ((t.chan c).heel.get k) row.toNat = some (count + 1) ∧
          (t.chan c).raa.get k = (s.chan c).raa.get k + 1) ∧
      (n = 0 → 0 < count → count + 1 = th → ReportOnly s (72 + (chSlice c).val) →
        ∃ t, exec (.dramActivate ch port rank lr bg bank row) s = .next t ∧
          tracked ((t.chan c).heel.get k) row.toNat = some 0 ∧ (t.chan c).rfms = (s.chan c).rfms + 1 ∧
          port.val ∈ (t.chan c).throttled ∧ t.chF c R.DTC_HEELSTAT 16 2 = port.val ∧
          fld (t.chReg c R.DTC_HEELROW) 0 18 = row.toNat ∧ t.latched (72 + (chSlice c).val) = true) ∧
      exec (.heelHoldExpiry ch port) s = .next ((s.settlePort c port.val).updChan c fun x => { x with
        throttled := x.throttled.filter (· ≠ port.val) })) ∧
    (∃ t, exec (.heelWindowClear ch rank) s = .next t ∧ t = { s with chans := t.chans } ∧
      ((s.chan c).heel.wf = true → ∀ bank : Fin 1024, (t.chan c).heel.get (256 * r + bank.val % 256) = []))

open Sys2Proof.Spec in
/-- R310, R314, R329-R334: while its task acts (that a fixed task holds a housekeeping pup is the model's choice, log entry
37), scrub reads a block of an allocated page, and an error it finds lies where R310 places the block; a block that it
corrects is written back; a read or a write that the channels do not serve yet waits on the housekeeping port (the model's
choice, log entry 123); GO repairs a row of a READY channel and is refused elsewhere; a repair's end sets RESULT; a candidate
whose page is empty is repaired and logged, or its page retired, and in Nap or Deep it wakes the slice first; ranks enter
self-refresh and MPSM, and a wake ends self-refresh, and MPSM where BPM has allocated from a page of the rank. -/
def Sys2Proof.Spec.RowsAreRepairedAndRanksRest : Prop :=
  (∀ (s : State) (ch : Reg) (loc : DeepLoc) (unc spare : Bool), Quiet s → 2 ≤ s.sleep (chSlice ch.val) →
    s.failed (chSlice ch.val) = false → (s.chan ch.val).candidates = [(loc, unc)] →
    (s.bpm (chSlice ch.val)).pageOwner.get loc.page.toNat = 0 → ∃ t, exec (.spprApply ch spare) s = .next t ∧
      (t.reg (slInst .egv (chSlice ch.val)) R.EGV_SSTAT).getLsbD 10 = true ∧ t = { s with regs := t.regs }) ∧
  ∀ (s : State) (ch : Reg) (rank : Fin 8), Reached s (chInst ch.val) →
    let c := ch.val
    let r := rank.val
    let sl := chSlice c
    let st := s.chF c R.DTC_CSTAT 0 3
    (∀ (block : BitVec 33) (dev : BitVec 5), s.taskActs sl 17 = true → c ∈ s.members sl →
      let k := block.toNat * (s.members sl).length + (s.members sl).idxOf c
      let loc := s.blockLoc sl c k dev
      s.chF c R.DTC_ECCCFG 16 1 = 1 → st = 3 → (s.bpm sl).pageOwner.get (k / 256) ≠ 0 →
      s.rankPwr c (s.rankNo c (s.pageRank c (k / 256))) ≤ 1 → (s.bpm sl).hkWrite = none →
      let u := s.setHkRead sl none
      (u.deepServes sl 2 (k * 256) 256 = false → ∀ ecc, exec (.deepScrubBlock ch ecc block dev false) s =
        .next (u.setHkRead sl (some (k * 256, 256)))) ∧
      (u.deepServes sl 2 (k * 256) 256 = true → ∃ t, exec (.deepScrubBlock ch .clean block dev false) s = .next t ∧
        t = { u with regs := t.regs, chans := t.chans, acts := t.acts } ∧ t.chReg c R.DTC_ECCCNT = s.chReg c R.DTC_ECCCNT) ∧
      (u.deepServes sl 2 (k * 256) 256 = true → ReportOnly s (64 + sl.val) →
        ∃ t, exec (.deepScrubBlock ch .corrected block dev false) s = .next t ∧
        ((t.bpm sl).hkWrite = none ∨ (t.bpm sl).hkWrite = some { addr := k * 256, bytes := 256 }) ∧
        t.chF c R.DTC_ECCCNT 0 16 = min (s.chF c R.DTC_ECCCNT 0 16 + 1) 65535 ∧
        fld (t.chReg c R.DTC_ECCPAGE) 0 27 = loc.page.toNat ∧ fld (t.chReg c R.DTC_ECCROW) 0 18 = loc.row.toNat ∧
        t.latched (64 + sl.val) = true)) ∧
    (∀ (block : BitVec 33) (dev : BitVec 5) (w : HkWrite), s.taskActs sl 17 = true → c ∉ s.members sl →
      (s.bpm sl).hkWrite = some w → s.writeStands sl w = true →
      ∃ t, exec (.deepScrubBlock ch .clean block dev false) s = .next t ∧
        (t.bpm sl).hkWrite = (if s.deepServes sl 2 w.addr w.bytes = true then none else some w)) ∧
    (∀ v : Word, v.getLsbD 5 = true → (s.chan c).repairing = false →
      (st = 2 → ∃ t, exec (.hpprRequest ch v) s = .next t ∧ (t.chan c).repairing = true ∧
        t.chF c R.DTC_RPRSTAT 0 4 = 4) ∧
      (st = 0 ∨ st = 4 → ∃ t, exec (.hpprRequest ch v) s = .next t ∧ t.chans = s.chans ∧
        t.chF c R.DTC_RPRSTAT 0 4 = 3)) ∧
    ((s.chan c).repairing = true → ∀ spare : Bool, ∃ t, exec (.hpprComplete ch spare) s = .next t ∧
      (t.chan c).repairing = false ∧ t.chF c R.DTC_RPRSTAT 0 4 = (if spare then 1 else 2) ∧
      t.chF c R.DTC_RPRSTAT 8 8 = min (s.chF c R.DTC_RPRSTAT 8 8 + if spare then 1 else 0) 255) ∧
    (∀ (loc : DeepLoc) (unc spare : Bool), (s.chan c).candidates = [(loc, unc)] →
      (s.bpm sl).pageOwner.get loc.page.toNat = 0 → loc.page.toNat ∉ (s.bpm sl).retired →
      ∃ t, exec (.spprApply ch spare) s = .next t ∧ (t.chan c).candidates = [] ∧
        t.regB (chInst c) (chOff c R.DTC_EVENT) 5 = true ∧
        (spare = true → t.chF c R.DTC_RPRSTAT 16 8 = min (s.chF c R.DTC_RPRSTAT 16 8 + 1) 255 ∧
          (t.bpm sl).retired = (s.bpm sl).retired) ∧
        (spare = false → loc.page.toNat ∈ (t.bpm sl).retired ∧
          t.regF (slInst .bpm sl) R.BPM_RETIRED 0 28 = ((s.bpm sl).retired.length + 1) % 2 ^ 28)) ∧
    (s.rankPwr c r = 0 → st ≠ 1 → s.chF c R.DTC_PWRCFG 0 10 ≠ 0 →
      exec (.rankSelfRefreshEntry ch rank) s = .next (s.setRankPwr c r 1)) ∧
    (s.rankPwr c r ≤ 1 → 2 ≤ st → s.chF c R.DTC_PWRCFG 10 1 = 1 → s.rankEmpty c r = true →
      (s.chan c).prewoken = [] → ∃ t, exec (.rankMpsmEntry ch rank) s = .next t ∧ t.rankPwr c r = 2 ∧
        (t.chan c) = s.chan c) ∧
    (st = 3 → s.rankPwr c r = 1 ∨ (s.rankPwr c r = 2 ∧ s.rankEmpty c r = false) →
      ∃ t, exec (.rankWake ch rank) s = .next t ∧ t.rankPwr c r = 0) ∧
    (s.rankPwr c r = 2 → s.rankEmpty c r = true → exec (.rankWake ch rank) s = .next s)

open Sys2Proof.Spec in
/-- R335, R398: while its task acts (log entry 37, as for scrub), compaction moves the highest buffer with one reference to a
free buffer of its pool in a lower rank, and the queued copy follows it once the write is served; a read or a write that the
channels do not serve yet waits (the model's choice, log entry 123); a drain that conflicts abandons the move. -/
def Sys2Proof.Spec.CompactionMovesABuffer : Prop :=
  ∀ (s : State) (sl : Slice) (block : Fin 256) (dev : BitVec 5) (m : List Nat) (a b q : Nat) (c : Copy),
    Quiet s → s.taskActs sl 18 = true → s.inBlockReset (slInst .dtc sl) = false → s.members sl = 4 * sl.val :: m →
    s.chF (4 * sl.val) R.DTC_PWRCFG 11 1 = 1 →
    s.bpmServes sl = true → s.topSingle sl = some a →
    (s.bpm sl).freeBuffer ((s.bpm sl).pageOwner.get (a / 65536) - 1) = some b →
    (s.tmg sl).queues = ({} : Tbl (List Copy)).set q [c] → c.deep = some a →
    s.lowerRank sl b a = true → (s.swc sl).spilling = [] → (s.swc sl).draining = [] → (s.bpm sl).hkWrite = none →
    let n := c.deepBytes
    let u := s.setHkRead sl none
    let v := (u.serveDeep sl 2 a n).startMove sl ((s.bpm sl).pageOwner.get (a / 65536) - 1) a b n q c.cid
    (u.deepServes sl 2 a n = false → ∀ drained, exec (.compactionMove sl .clean block dev drained false) s =
      .next (u.setHkRead sl (some (a, n)))) ∧
    (u.deepServes sl 2 a n = true → ∃ t, exec (.compactionMove sl .clean block dev true false) s = .next t ∧
      t = { u with regs := t.regs, chans := t.chans, acts := t.acts }) ∧
    (u.deepServes sl 2 a n = true → v.writeStands sl ⟨b, n, some (a, q, c.cid)⟩ = true →
      ∃ t, exec (.compactionMove sl .clean block dev false false) s = .next t ∧ (t.bpm sl).refs.get b = 1 ∧
        (v.deepServes sl 2 b n = true → t.queue sl q = [{ c with deep := some b }] ∧ (t.bpm sl).refs.get a = 0 ∧
          (t.bpm sl).hkWrite = none) ∧
        (v.deepServes sl 2 b n = false → t.queue sl q = [c] ∧ (t.bpm sl).refs.get a = 1 ∧
          (t.bpm sl).hkWrite = some ⟨b, n, some (a, q, c.cid)⟩))

/-- Refresh, row repair, rank rest and compaction of the deep tier: `RowsAreRefreshed`, `RowsAreRepairedAndRanksRest`,
`CompactionMovesABuffer`. -/
def Obligations.RowsAreRefreshedRepairedAndMoved : Prop :=
  Sys2Proof.Spec.RowsAreRefreshed ∧
  Sys2Proof.Spec.RowsAreRepairedAndRanksRest ∧
  Sys2Proof.Spec.CompactionMovesABuffer

/-! ### The traffic manager -/

namespace Sys2Proof.Spec

/-- The value that a write of an entry gives word `k`: the bits that are fields (R36). -/
def newWord (i : InstId) (w e : Nat) (l : List Word) (k : Nat) : Word := ((l[k]?).getD 0) &&& winMaskAt i w e k

/-- Entry `e` of a window of `m` words holds the words written, and the other entries below `n` what they held. -/
def EntryStored (s t : State) (i : InstId) (w e m n : Nat) (l : List Word) : Prop :=
  (∀ k, k < m → t.ent i w e k = newWord i w e l k) ∧
  ∀ d : Fin n, d.val ≠ e → ∀ k, k < m → t.ent i w d.val k = s.ent i w d.val k

/-- A refused write: its bit of TMG_STAT is set, and nothing else of the machine but an interrupt request changes. -/
def Refused (s t : State) (sl : Slice) (bitNo : Nat) : Prop :=
  t.regB (tmgI sl) R.TMG_STAT bitNo = true ∧ t = { s with regs := t.regs, hif := hifAfter s t }

/-- A copy is queued under a service node. -/
def Under (s : State) (sl : Slice) (v : Nat) : Prop :=
  ∃ q, s.queue sl q ≠ [] ∧ fld (s.ent (tmgI sl) 0 (q / 8) 0) 0 12 = v

/-- R353: a bucket's shortfall below its burst after a store: none where a field that governs it changed, else what a
refill at `rate` since the last one leaves. -/
def bucketAfter (changed : Bool) (rate dt : Nat) (short : Int) : Int :=
  if changed then 0 else if rate = 0x7FFFFFF then 0 else max 0 (short - (rate * dt : Nat))

/-- Some word of two entries differs at one of the named words. -/
def differ (a b : Nat → Word) (l : List Nat) : Bool := l.any fun k => a k ≠ b k

/-- R363: the gate states in force `x` ns into a cycle: the entries in order, those of interval 0 skipped, the last one's
states to the end. -/
def gateStates : List (Nat × Nat) → Nat → Nat → Nat
  | [], last, _ => last
  | (g, n) :: r, last, x => if n = 0 then gateStates r last x else if x < n then g else gateStates r g (x - n)

/-- The gate list of a port, from the words of windows 2 and 4 (R362). -/
def gateWords (s : State) (sl : Slice) (lp : Nat) : List (Nat × Nat) :=
  (List.range (fld (s.ent (tmgI sl) 2 lp 2) 1 8 + 1)).map fun e =>
    (fld (s.ent (tmgI sl) 4 (lp * 256 + e) 0) 0 8, (s.ent (tmgI sl) 4 (lp * 256 + e) 1).toNat)

/-- Gate `t` is open `x` ns into a cycle. -/
def opens (s : State) (sl : Slice) (lp t x : Nat) : Bool :=
  (gateStates (gateWords s sl lp) 255 (x % fld (s.ent (tmgI sl) 2 lp 3) 0 30)).testBit t

/-- R365: `w` ns is the longest time for which gate `t` stays open without a break, over the turn of the cycle too. -/
def LongestOpen (s : State) (sl : Slice) (lp t w : Nat) : Prop :=
  let cycle := fld (s.ent (tmgI sl) 2 lp 3) 0 30
  (w = 0 ∨ ∃ x : Fin cycle, ∀ d : Fin w, opens s sl lp t (x.val + d.val) = true) ∧
  ∀ x : Fin cycle, ∃ d : Fin (w + 1), opens s sl lp t (x.val + d.val) = false

/-- The entry in force of a running schedule is the one R363 gives: it began at its place in the cycle, and its gate states
hold until it ends. -/
structure InStep (s : State) (sl : Slice) (lp k : Nat) : Prop where
  entry : ((s.tmg sl).gates.get lp).entry = some k
  run : ((s.gateCycle sl lp)[k]?).isSome = true
  ends : ((s.tmg sl).gates.get lp).ends = ((s.tmg sl).gates.get lp).started + (((s.gateCycle sl lp)[k]?).getD (0, 0)).2
  after : ((s.tmg sl).gates.get lp).base ≤ ((s.tmg sl).gates.get lp).started
  place : (((s.tmg sl).gates.get lp).started - ((s.tmg sl).gates.get lp).base) % fld (s.ent (tmgI sl) 2 lp 3) 0 30 =
    (((s.gateCycle sl lp).take k).map (·.2)).sum

/-- One copy waits in the slice, in queue `q`, for port `p`, and may be sent: its cells lie here and its frame is whole,
nothing is damaged, no gate runs, no reset is in progress, the buckets above it are full and no deficit is held. -/
structure LoneCopy (s : State) (p : Port) (q : Nat) (c : Copy) : Prop where
  quiet : Quiet s ∧ s.flt.resets = [] ∧ s.bad = {}
  alone : (s.tmg (portSlice p.val)).queues = ({} : Tbl (List Copy)).set q [c]
  port : c.port = p.val ∧ c.eslice = (portSlice p.val).val ∧ c.gone = false ∧ c.deep = none
  frame : s.ingSlice c.fid = portSlice p.val ∧ (s.frame c.fid).final = true
  free : s.portUp p.val = true ∧ bit (s.laneReg p.val R.PRT_PSTAT) 4 = false ∧ s.awake (portSlice p.val) = true ∧
    (s.swc (portSlice p.val)).rewriteQ = [] ∧ (s.port p.val).mac = []
  gates : bit (s.ent (tmgI (portSlice p.val)) 2 (p.val % 64) 2) 0 = false
  scheduled : (s.tmg (portSlice p.val)).refusedQ = []
  full : (s.tmg (portSlice p.val)).nodeC = {} ∧ (s.tmg (portSlice p.val)).nodeP = {} ∧
    (s.tmg (portSlice p.val)).svcC = {} ∧ (s.tmg (portSlice p.val)).svcP = {} ∧ (s.tmg (portSlice p.val)).portB = {}
  fresh : (s.tmg (portSlice p.val)).defQueue = {} ∧ (s.tmg (portSlice p.val)).defNodeC = {} ∧
    (s.tmg (portSlice p.val)).defNodeX = {} ∧ (s.tmg (portSlice p.val)).defSvcC = {} ∧
    (s.tmg (portSlice p.val)).defSvcX = {}

/-- Two copies of energy class E0 wait in the slice, in the queues `q` and `r`, for port `p`, and either could be sent: the
conditions are those of `LoneCopy`, and each node above them may serve. -/
structure TwoCopies (s : State) (p : Port) (q r : Nat) (c d : Copy) : Prop where
  quiet : Quiet s ∧ s.flt.resets = [] ∧ s.bad = {}
  alone : (s.tmg (portSlice p.val)).queues = (({} : Tbl (List Copy)).set q [c]).set r [d]
  order : q < r ∧ r < 524288
  copies : ∀ x ∈ [c, d], x.port = p.val ∧ x.eslice = (portSlice p.val).val ∧ x.gone = false ∧ x.deep = none ∧ x.eclass = 0 ∧
    x.cutThrough = false ∧ s.ingSlice x.fid = portSlice p.val ∧ (s.frame x.fid).final = true ∧
    s.countedLen (portSlice p.val) x.len x.ovhd ≤ 16446
  free : s.portUp p.val = true ∧ bit (s.laneReg p.val R.PRT_PSTAT) 4 = false ∧ s.awake (portSlice p.val) = true ∧
    (s.swc (portSlice p.val)).rewriteQ = [] ∧ (s.port p.val).mac = []
  gates : bit (s.ent (tmgI (portSlice p.val)) 2 (p.val % 64) 2) 0 = false
  fresh : s.tmg (portSlice p.val) = { queues := (s.tmg (portSlice p.val)).queues }

/-- Queue `q` of the slice sends its copy `c`, and queue `r` keeps its copy `d`. -/
def Sends (s t : State) (sl : Slice) (q r : Nat) (c d : Copy) : Prop :=
  (t.swc sl).rewriteQ = [c] ∧ t.queue sl q = [] ∧ t.queue sl r = [d] ∧
  t = { s with regs := t.regs, swcs := t.swcs, tmgs := t.tmgs, egvs := t.egvs, acts := t.acts }

/-- CIR and PIR of the node and the service node above a queue. -/
def rates (s : State) (sl : Slice) (q : Nat) : Nat × Nat × Nat × Nat :=
  let v := fld (s.ent (tmgI sl) 0 (q / 8) 0) 0 12
  (fld (s.ent (tmgI sl) 0 (q / 8) 1) 0 27, fld (s.ent (tmgI sl) 0 (q / 8) 3) 0 27,
    fld (s.ent (tmgI sl) 1 v 1) 0 27, fld (s.ent (tmgI sl) 1 v 3) 0 27)

/-- R366: the cost of a copy that was never in the deep tier, in 1/1,024 token. -/
def price (s : State) (sl : Slice) (c : Copy) : Nat :=
  fld (s.reg (tmgI sl) (R.TMG_EBASE + 4 * c.eclass)) 0 16 * 64 + c.len * fld (s.reg (tmgI sl) R.TMG_EBYTE) 0 16

/-- R367: the reserves of the classes above class `e`, in 1/1,024 token. -/
def reserves (s : State) (sl : Slice) (e : Nat) : Nat :=
  1024 * ((if 0 < e then fld (s.reg (tmgI sl) R.TMG_ERES0) 0 24 else 0) +
    (if 1 < e then fld (s.reg (tmgI sl) R.TMG_ERES1) 0 24 else 0) +
    (if 2 < e then fld (s.reg (tmgI sl) R.TMG_ERES2) 0 24 else 0))

/-- A 64-bit count at word `k` of a packet counter (R359). -/
def count64 (s : State) (sl : Slice) (c k : Nat) : Nat :=
  (s.ent (tmgI sl) 6 c k).toNat + 2 ^ 32 * (s.ent (tmgI sl) 6 c (k + 1)).toNat

end Sys2Proof.Spec

open Sys2Proof.Spec in
/-- R341-R344, R353: a write to a node whose place in the hierarchy it would change while the node is in use or holds copies
is refused under MAP_REFUSED; any other is stored, filling the buckets whose rate or burst it changes; a write to a meter
is stored and fills likewise, all of its buckets where MODE or EN changes. -/
def Obligations.HierarchyWrites : Prop :=
  ∀ (s : State) (sl : Slice) (w : List Word), Reached s (tmgI sl) → w.length = 5 → (s.tmg sl).queues.wf = true →
    let i := tmgI sl
    let inst : Fin 16 := Fin.castLE (by omega) sl
    let x := s.tmg sl
    (∀ n : Fin 65536,
      let old := s.ent i 0 n.val
      let new := newWord i 0 n.val w
      let fixed := bit (old 0) 31 = true ∨ ∃ tc : Fin 8, s.queue sl (8 * n.val + tc.val) ≠ []
      let dt := s.time - x.nodeT.get n.val
      (fld (new 0) 0 12 ≠ fld (old 0) 0 12 ∧ fixed →
        ∃ t, exec (.subscriberNodeWrite inst n w) s = .next t ∧ Refused s t sl 1) ∧
      (fld (new 0) 0 12 = fld (old 0) 0 12 ∨ ¬ fixed → ∃ t, exec (.subscriberNodeWrite inst n w) s = .next t ∧
        EntryStored s t i 0 n.val 5 65536 w ∧ t = { s with win := t.win, bad := t.bad, tmgs := t.tmgs } ∧
        (t.tmg sl).nodeC.get n.val = bucketAfter (differ old new [1] || decide (fld (old 2) 0 24 ≠ fld (new 2) 0 24))
          (fld (old 1) 0 27) dt (x.nodeC.get n.val) ∧
        (t.tmg sl).nodeP.get n.val = bucketAfter (differ old new [3, 4]) (max (fld (old 1) 0 27) (fld (old 3) 0 27)) dt
          (x.nodeP.get n.val))) ∧
    (∀ v : Fin 4096,
      let old := s.ent i 1 v.val
      let new := newWord i 1 v.val w
      let fixed := bit (old 0) 31 = true ∨ Under s sl v.val
      let dt := s.time - x.svcT.get v.val
      (fld (new 0) 0 6 ≠ fld (old 0) 0 6 ∧ fixed →
        ∃ t, exec (.serviceNodeWrite inst v w) s = .next t ∧ Refused s t sl 1) ∧
      (fld (new 0) 0 6 = fld (old 0) 0 6 ∨ ¬ fixed → ∃ t, exec (.serviceNodeWrite inst v w) s = .next t ∧
        EntryStored s t i 1 v.val 5 4096 w ∧ t = { s with win := t.win, bad := t.bad, tmgs := t.tmgs } ∧
        (t.tmg sl).svcC.get v.val = bucketAfter (differ old new [1, 2]) (fld (old 1) 0 27) dt (x.svcC.get v.val) ∧
        (t.tmg sl).svcP.get v.val = bucketAfter (differ old new [3, 4]) (max (fld (old 1) 0 27) (fld (old 3) 0 27)) dt
          (x.svcP.get v.val))) ∧
    (∀ m : Fin 131072,
      let old := s.ent i 5 m.val
      let new := newWord i 5 m.val w
      let all := decide (fld (old 0) 0 2 ≠ fld (new 0) 0 2) || decide (bit (old 0) 9 ≠ bit (new 0) 9)
      ∃ t, exec (.meterConfigWrite inst m w) s = .next t ∧ EntryStored s t i 5 m.val 5 131072 w ∧
        t = { s with win := t.win, bad := t.bad, tmgs := t.tmgs } ∧
        (t.tmg sl).mtrC.get m.val = bucketAfter (all || differ old new [1, 2]) (fld (old 1) 0 27)
          (s.time - x.mtrT.get m.val) (x.mtrC.get m.val) ∧
        ((all || (differ old new [3] && decide (fld (new 0) 0 2 ≠ 0)) || differ old new [4]) = true →
          (t.tmg sl).mtrE.get m.val = 0))

open Sys2Proof.Spec in
/-- R362-R365 (that an entry of interval 0 takes no time, and that the last entry executed holds to the end of the cycle, is
the model's reading, log entry 68): a write to a running port's list or gate fields is refused under CFG_REFUSED, and so is
one that would start gates with CYCLE out of range; any other is stored, and GATE_EN 0 stops the gates. GATE_EN from 0 to 1
starts the schedule at the first BASE + k × CYCLE not earlier than now, with every gate open until then and the longest open
time of each class; a copy that stands at the head of its queue for a port in UP and is longer than that is dropped and counted
(when a head is judged is the model's reading, log entry 141). The entries then take effect in turn at their places in the
cycle. -/
def Obligations.GatesFollowTheirList : Prop :=
  ∀ (s : State) (sl : Slice) (lp : Fin 64), Reached s (tmgI sl) →
    let i := tmgI sl
    let inst : Fin 16 := Fin.castLE (by omega) sl
    let old := s.ent i 2 lp.val
    let none_ := s.portQueues (64 * sl.val + lp.val) = []
    (∀ (e : Fin 256) (w : List Word), w.length = 2 →
      (bit (old 2) 0 = true → ∃ t, exec (.gateConfigWrite inst lp (some e) w) s = .next t ∧ Refused s t sl 2) ∧
      (bit (old 2) 0 = false → ∃ t, exec (.gateConfigWrite inst lp (some e) w) s = .next t ∧
        EntryStored s t i 4 (lp.val * 256 + e.val) 2 16384 w ∧ t = { s with win := t.win, bad := t.bad })) ∧
    (∀ w : List Word, w.length = 7 →
      let new := newWord i 2 lp.val w
      let cycle := fld (new 3) 0 30
      let refused := (bit (old 2) 0 = true ∧ (fld (new 2) 1 31 ≠ fld (old 2) 1 31 ∨ differ old new [3, 4, 5, 6] = true)) ∨
        (bit (new 2) 0 = true ∧ (cycle < 1000 ∨ 1000000000 < cycle))
      (refused → ∃ t, exec (.gateConfigWrite inst lp none w) s = .next t ∧ Refused s t sl 2) ∧
      (¬ refused → ∃ t, exec (.gateConfigWrite inst lp none w) s = .next t ∧ EntryStored s t i 2 lp.val 7 64 w ∧
        (bit (old 2) 0 = true ∨ bit (new 2) 0 = false ∨ none_ → t = { s with win := t.win, bad := t.bad, tmgs := t.tmgs }) ∧
        (t.tmg sl).portB.get lp.val = bucketAfter (differ old new [0, 1]) (fld (old 0) 0 27)
          (s.time - (s.tmg sl).portT.get lp.val) ((s.tmg sl).portB.get lp.val) ∧
        (bit (old 2) 0 = true → bit (new 2) 0 = false → ((t.tmg sl).gates.get lp.val).running = false) ∧
        (bit (old 2) 0 = bit (new 2) 0 → (t.tmg sl).gates = (s.tmg sl).gates))) ∧
    (∀ w2 : Word, bit w2 0 = true → bit (old 2) 0 = false →
      let cycle := fld (old 3) 0 30
      let base := ((old 5).toNat + 2 ^ 32 * fld (old 6) 0 16) * 1000000000 + fld (old 4) 0 30
      (cycle < 1000 ∨ 1000000000 < cycle → ∃ t, exec (.gateEnable inst lp w2) s = .next t ∧ Refused s t sl 2) ∧
      (1000 ≤ cycle → cycle ≤ 1000000000 → (∀ k, k < 7 → old k &&& winMaskAt i 2 lp.val k = old k) →
        ∃ t, exec (.gateEnable inst lp w2) s = .next t ∧
        EntryStored s t i 2 lp.val 7 64 [old 0, old 1, w2, old 3, old 4, old 5, old 6] ∧
        (none_ → t = { s with win := t.win, bad := t.bad, tmgs := t.tmgs }) ∧
        (∀ (q : Fin 524288) (c : Copy), s.bad = {} → (s.tmg sl).queues = ({} : Tbl (List Copy)).set q.val [c] →
          c.port = 64 * sl.val + lp.val → c.eslice = sl.val → c.gone = false → c.deep = none → (s.frame c.fid).final = true →
          s.portState c.port = 7 → ∀ w : Nat, ((t.tmg sl).gates.get lp.val).longest[q.val % 8]? = some (some w) →
          let long := (w : Int) * s.portRate c.port < (c.len + sext (fld w2 10 8) 8 + 20) * 8
          (long → t.queue sl q.val = [] ∧ Counted s t i R.TMG_GATEDROP 1) ∧
          (¬ long → t.queue sl q.val = [c] ∧ t.regs = s.regs)) ∧
        let g := (t.tmg sl).gates.get lp.val
        g.running = true ∧ g.entry = none ∧ g.ends = g.base ∧ s.tsuNs ≤ g.base ∧ base ≤ g.base ∧
        (g.base - base) % cycle = 0 ∧ (g.base = base ∨ g.base - cycle < s.tsuNs) ∧
        ((gateWords t sl lp.val).any (fun x => decide (x.2 ≠ 0)) = true → ∀ tc : Fin 8,
          (g.longest[tc.val]? = some none ∧ ∀ x : Fin cycle, opens t sl lp.val tc.val x.val = true) ∨
          ∃ w, g.longest[tc.val]? = some (some w) ∧ LongestOpen t sl lp.val tc.val w))) ∧
    (∀ p : Port, portSlice p.val = sl → p.val % 64 = lp.val → 0 < fld (old 3) 0 30 →
      let g := (s.tmg sl).gates.get lp.val
      (g.running = false → exec (.gateEntryChange p) s = .next s) ∧
      (g.running = true → ∃ t, exec (.gateEntryChange p) s = .next t ∧ t = { s with tmgs := t.tmgs } ∧
        ((t.tmg sl).gates.get lp.val).started = g.ends ∧
        (g.entry = none → g.ends = g.base → InStep t sl lp.val 0) ∧
        ∀ k, k < 257 → InStep s sl lp.val k →
          InStep t sl lp.val (if k + 1 < (s.gateCycle sl lp.val).length then k + 1 else 0)))

open Sys2Proof.Spec in
/-- R346-R349, R366-R369: the one copy that waits for a free port is sent: it goes to rewrite, its cost is debited from the
slice's tokens and its counted length from the peak buckets of its nodes and port, and from the committed bucket of each
node with a CIR; one of E1-E3 that the reserve above it does not leave the tokens for is refused and its queue waits for
the refill. A refill adds TOKRATE tokens up to the cap, returns the queues and may end a hold. -/
def Sys2Proof.Spec.LoneCopyIsPriced : Prop :=
  ∀ (s : State) (p : Port) (q : Fin 524288) (c : Copy), LoneCopy s p q.val c →
    let sl := portSlice p.val
    let x := s.tmg sl
    let e := c.eclass
    let v := fld (s.ent (tmgI sl) 0 (q.val / 8) 0) 0 12
    let r := rates s sl q.val
    let n := s.countedLen sl c.len c.ovhd
    let b := (s.egv sl).bucket
    let pays := e = 0 ∨ (reserves s sl e : Int) ≤ b - price s sl c
    c.wasDeep = false → c.cutThrough = false → n ≤ 16446 → 0 < r.1 ∨ 0 < r.2.1 → 0 < r.2.2.1 ∨ 0 < r.2.2.2 →
    (e ≤ 1 ∨ (e ≤ 3 ∧ s.regB (tmgI sl) R.TMG_ESTAT 0 = false ∧ x.allot = none)) →
    (pays → ∃ t, exec (.copyDequeue p) s = .next t ∧ (t.swc sl).rewriteQ = [c] ∧ t.queue sl q.val = [] ∧
      (t.egv sl).bucket = b - price s sl c ∧
      (t.tmg sl).nodeP.get (q.val / 8) = n * 1000000 ∧ (t.tmg sl).svcP.get v = n * 1000000 ∧
      (t.tmg sl).portB.get (p.val % 64) = n * 1000000 ∧
      (t.tmg sl).nodeC.get (q.val / 8) = (if 0 < r.1 then n * 1000000 else 0) ∧
      (t.tmg sl).svcC.get v = (if 0 < r.2.2.1 then n * 1000000 else 0) ∧
      t = { s with regs := t.regs, swcs := t.swcs, tmgs := t.tmgs, egvs := t.egvs, acts := t.acts }) ∧
    (¬ pays → (e = 1 → s.regB (tmgI sl) R.TMG_ESTAT 0 = true) → ∃ t, exec (.copyDequeue p) s = .next t ∧
      t.queue sl q.val = [c] ∧ (t.tmg sl).refusedQ = [q.val] ∧ (t.egv sl).bucket = b ∧
      t.reg (tmgI sl) R.TMG_EREFUSE = BitVec.ofNat 32 (min ((s.reg (tmgI sl) R.TMG_EREFUSE).toNat + 1) (2 ^ 32 - 1)) ∧
      t = { s with regs := t.regs, tmgs := t.tmgs }) ∧
    (let cap := fld (s.reg (slInst .egv sl) R.EGV_BKTCAP) 0 24
     let rate := if s.regB egv4 R.EGV_DCTRL 2 then fld (s.reg (slInst .egv sl) R.EGV_TOKRATE) 0 24 else cap
     ∃ t, exec (.energyRefill sl) s = .next t ∧ (t.egv sl).bucket = min (b + (1024 * rate : Nat)) (1024 * cap : Nat) ∧
      (t.tmg sl).refusedQ = [] ∧ (t.tmg sl).queues = x.queues ∧
      (t.regB (tmgI sl) R.TMG_ESTAT 0 = (s.regB (tmgI sl) R.TMG_ESTAT 0 && x.e1Refused)) ∧
      t = { s with regs := t.regs, tmgs := t.tmgs, egvs := t.egvs })

open Sys2Proof.Spec in
/-- R346-R348: of two copies of one node the one in a queue of strict priority is sent first, the higher queue before the
lower; else the queues' deficit round robin decides, adding QW × 256 bytes to each queue it visits, the lower one first in
its first round (that order is the model's reading, log entry 70). Of two nodes of one service node, and of two service
nodes, one that is committed-eligible comes before one that is excess-eligible. -/
def Sys2Proof.Spec.CopiesAreChosen : Prop :=
  ∀ (s : State) (p : Port) (q r : Nat) (c d : Copy), TwoCopies s p q r c d →
    let sl := portSlice p.val
    let a := rates s sl q
    let b := rates s sl r
    let served := fun (cir pir : Nat) => 0 < cir ∨ 0 < pir
    let committed := fun (cir : Nat) => 0 < cir
    let excess := fun (cir pir : Nat) => cir = 0 ∧ 0 < pir
    let prof := fld (s.ent (tmgI sl) 0 (q / 8) 0) 12 4
    let nsp := fld (s.ent (tmgI sl) 3 prof 0) 0 3
    let quantum := fun (k : Nat) => 256 * fld (s.ent (tmgI sl) 3 prof (1 + k % 8 / 4)) (8 * (k % 8 % 4)) 8
    let n := fun (x : Copy) => s.countedLen sl x.len x.ovhd
    (q / 8 = r / 8 → served a.1 a.2.1 → served a.2.2.1 a.2.2.2 →
      (8 ≤ r % 8 + nsp → ∃ t, exec (.copyDequeue p) s = .next t ∧ Sends s t sl r q d c) ∧
      (r % 8 + nsp < 8 → 0 < quantum q → n c ≤ quantum q → ∃ t, exec (.copyDequeue p) s = .next t ∧ Sends s t sl q r c d ∧
        (t.tmg sl).defQueue.get q = quantum q - n c ∧ (t.tmg sl).defQueue.get r = 0) ∧
      (r % 8 + nsp < 8 → 0 < quantum q → quantum q < n c → 0 < quantum r → n d ≤ quantum r →
        ∃ t, exec (.copyDequeue p) s = .next t ∧ Sends s t sl r q d c ∧
        (t.tmg sl).defQueue.get q = quantum q ∧ (t.tmg sl).defQueue.get r = quantum r - n d)) ∧
    (q / 8 ≠ r / 8 → s.service sl (q / 8) = s.service sl (r / 8) → served a.2.2.1 a.2.2.2 → excess a.1 a.2.1 → committed b.1 →
      ∃ t, exec (.copyDequeue p) s = .next t ∧ Sends s t sl r q d c) ∧
    (s.service sl (q / 8) ≠ s.service sl (r / 8) → served a.1 a.2.1 → served b.1 b.2.1 → excess a.2.2.1 a.2.2.2 →
      committed b.2.2.1 → ∃ t, exec (.copyDequeue p) s = .next t ∧ Sends s t sl r q d c)

/-- A copy that waits alone is sent and charged, or refused; of two the hierarchy chooses (which queue goes first in its first
round: the model's reading, log entry 70): `LoneCopyIsPriced`, `CopiesAreChosen`. -/
def Obligations.CopiesAreScheduledAndPriced : Prop :=
  Sys2Proof.Spec.LoneCopyIsPriced ∧
  Sys2Proof.Spec.CopiesAreChosen

open Sys2Proof.Spec in
/-- R359, R360, R371, R373, R374, R376: TMG flushes the queues of a port out of UP under DOWNFLUSH, and counts the copies; the
oldest counter request adds a packet and its length to the counter that its tenant's
partition gives it, or none and counts in TMG_CNTDROP; EN of TMG_SRCFG starts sampling at record 0; a monitored queue gets
one record a period, while the ring has room and the stage is below S1. -/
def Obligations.CountersAndQueueRecords : Prop :=
  ∀ (s : State) (sl : Slice), Reached s (tmgI sl) → s.bad = {} →
    let i := tmgI sl
    let x := s.tmg sl
    (∀ (p : Port) (q : Fin 524288) (c : Copy), portSlice p.val = sl → s.portUp p.val = false →
      x.queues = ({} : Tbl (List Copy)).set q.val [c] → c.port = p.val → c.gone = false → c.deep = none → c.eslice = sl.val →
      ((s.ent i 2 (p.val % 64) 2).getLsbD 9 = false → exec (.copyDequeue p) s = .next s) ∧
      ((s.ent i 2 (p.val % 64) 2).getLsbD 9 = true → ∃ t, exec (.copyDequeue p) s = .next t ∧ t.queue sl q.val = [] ∧
        (t.reg i R.TMG_FLUSH).toNat = min ((s.reg i R.TMG_FLUSH).toNat + 1) (2 ^ 32 - 1) ∧
        (t.swc sl).gused.get (portClass c.port (c.queue % 8)) = (s.swc sl).gused.get (portClass c.port (c.queue % 8)) - c.a)) ∧
    (x.countQ = [] → exec (.countRequestApply sl) s = .next s) ∧
    (∀ r rest, x.countQ = r :: rest → r.tid < 4096 →
      let base := fld (s.ent i 7 r.tid 0) 0 20
      let c := base + r.index
      let u := { s with tmgs := s.tmgs.set sl { x with countQ := rest } }
      (r.index < fld (s.ent i 7 r.tid 1) 0 21 → c < 1048576 →
        (∀ n, (r.fid = none ∧ n = r.len) ∨
            (∃ f, r.fid = some f ∧ (s.frame f).final = true ∧ n = (s.frame f).bytes.length) →
          ∃ t, exec (.countRequestApply sl) s = .next t ∧ count64 t sl c 0 = (count64 s sl c 0 + 1) % 2 ^ 64 ∧
            count64 t sl c 2 = (count64 s sl c 2 + n) % 2 ^ 64 ∧ t = { u with win := t.win, bad := t.bad }) ∧
        (∀ f, r.fid = some f → (s.frame f).final = false → ∃ t, exec (.countRequestApply sl) s = .next t ∧
          count64 t sl c 0 = (count64 s sl c 0 + 1) % 2 ^ 64 ∧ count64 t sl c 2 = count64 s sl c 2 ∧
          (t.tmg sl).pendBytes = x.pendBytes ++ [(c, f)])) ∧
      (fld (s.ent i 7 r.tid 1) 0 21 ≤ r.index ∨ 1048576 ≤ c → ∃ t, exec (.countRequestApply sl) s = .next t ∧
        t.reg i R.TMG_CNTDROP = BitVec.ofNat 32 (min ((s.reg i R.TMG_CNTDROP).toNat + 1) (2 ^ 32 - 1)) ∧
        t.regB i R.TMG_STAT 5 = true ∧ t = { u with regs := t.regs, hif := hifAfter s t })) ∧
    (∀ v : Word, ∃ t, exec (.samplerEnable (Fin.castLE (by omega) sl) v) s = .next t ∧
      t.reg i R.TMG_SRCFG = written { off := R.TMG_SRCFG, rw := 0x07FF011F } (s.reg i R.TMG_SRCFG) v ∧
      (v.getLsbD 8 = true → fld (t.reg i R.TMG_SRHEAD) 0 20 = 0 ∧ (t.tmg sl).srPhase = true) ∧
      t = { s with regs := t.regs, tmgs := t.tmgs }) ∧
    (∀ late, s.regB i R.TMG_SRCFG 8 = false ∨ 1 ≤ s.stage → exec (.queueSampleRecord sl late) s = .next s) ∧
    (∀ q, s.monitored sl = [q] → s.queue sl q = [] → s.regB i R.TMG_SRCFG 8 = true → s.stage = 0 →
      let size := 2 ^ (min 20 (max 6 (fld (s.reg i R.TMG_SRCFG) 0 5)))
      let head := fld (s.reg i R.TMG_SRHEAD) 0 20
      let tail := fld (s.reg i R.TMG_SRTAIL) 0 20
      ((head + 1) % size ≠ tail → ∃ t, exec (.queueSampleRecord sl false) s = .next t ∧
        fld (t.reg i R.TMG_SRHEAD) 0 20 = (head + 1) % size ∧ (t.tmg sl).sampled.get q = 0 ∧
        (t.tmg sl).srPhase = (if (head + 1) % size = 0 then !x.srPhase else x.srPhase) ∧
        let a := ((s.reg i R.TMG_SRBASE_LO).toNat / 32 * 32) + 2 ^ 32 * (s.reg i R.TMG_SRBASE_HI).toNat + 32 * head
        (List.range 28).map (fun k => memGet t.hif.mem (a + k)) = (leBytes 4 s.tsu.sec.toNat ++ leBytes 4 s.tsu.ns ++
          leBytes 4 (q + 2 ^ 19 * sl.val + if x.srPhase then 2 ^ 31 else 0) ++ leBytes 12 0 ++
          leBytes 4 (min (x.sampled.get q) (2 ^ 32 - 1))).map some) ∧
      ((head + 1) % size = tail → ∃ t, exec (.queueSampleRecord sl false) s = .next t ∧ t.hif.mem = s.hif.mem ∧
        t.reg i R.TMG_SRDROP = BitVec.ofNat 32 (min ((s.reg i R.TMG_SRDROP).toNat + 1) (2 ^ 32 - 1)) ∧
        t.regB i R.TMG_STAT 6 = true ∧ t.reg i R.TMG_SRHEAD = s.reg i R.TMG_SRHEAD))

/-! ### The energy governor -/

namespace Sys2Proof.Spec

/-- R508, R522: a detection of the source fires no snapshot trigger. -/
def NoSnapshot (s : State) (src : Nat) : Prop :=
  (s.srcCfg src).getLsbD 8 = false ∧ s.regB flt4 R.FLT_CTRL 1 = false

/-- R508, R522: a detection of the source fires no snapshot trigger, no ERR_N and no Muzzle. -/
def Unpinned (s : State) (src : Nat) : Prop :=
  fld (s.srcCfg src) 6 3 = 0 ∧ s.regB flt4 R.FLT_CTRL 1 = false

/-- R533: a chip reset of a cause. Registers outside FLT, KNL and EGV take their reset values, block resets end, no context
or frame is left, and the Kennel and the fault collector stay, but for what the collector writes with `reactions`. -/
structure ChipReset (s t : State) (cause : Nat) (reactions : List Nat) : Prop where
  held : t.boot.inReset = true ∧ t.boot.avs = false
  cause : t.regF knl4 R.KNL_BOOT 8 4 = cause
  resets : t.flt.resets = [] ∧ t.flt.waiting = []
  regs : ∀ i off r, i.block ≠ .flt → i.block ≠ .knl → i.block ≠ .egv → regRow i off = some r → off < 4096 →
    t.reg i off = r.reset
  work : t.ctxs = {} ∧ t.frames = {} ∧ t.ports = {} ∧ t.tmgs = {} ∧ t.kce = {}
  stays : t.time = s.time ∧ ∀ off, off < 4096 → off ∉ [R.FLT_BRST, R.FLT_NMI, R.FLT_FIRST] ++ reactions → 12 ≤ off →
    t.reg flt4 off = s.reg flt4 off

def bootBit (s : State) (k : Nat) : Bool := s.regB knl4 R.KNL_BOOT k

/-- The registers that the reactions ERR_N and Muzzle write. -/
def pinRegs : List Nat := [R.FLT_ERRPIN, R.FLT_MUZZLE]

/-- The valid readings of a slice's sensors, in 1/8 °C. -/
def readings (s : State) (sl : Slice) : List Int :=
  (List.range 6).filterMap fun k =>
    let w := s.reg (slInst .egv sl) (R.EGV_SENSOR + 4 * k)
    if w.getLsbD 16 then none else some (w.extractLsb' 0 16).toInt

def allReadings (s : State) : List Int := readings s 0 ++ readings s 1 ++ readings s 2 ++ readings s 3

/-- R391, R404: the cap of a slice while its regulator answers. -/
def capOf (s : State) (sl : Slice) : Nat :=
  ((if 3 ≤ s.stage then [2] else []) ++ (if s.regB egv4 R.EGV_DSTAT 31 then [0] else []) ++
    (if (readings s sl).length < 3 then [0] else []) ++ (s.egv sl).droopCap.toList ++
    (if s.regB egv4 R.EGV_DCTRL 2 then [] else [2])).foldl min 5

def capField (s : State) (sl : Slice) : Nat := s.regF (slInst .egv sl) R.EGV_SSTAT 12 3
def levelField (s : State) (sl : Slice) : Nat := s.regF (slInst .egv sl) R.EGV_SSTAT 0 3
def avsFailed (s : State) (sl : Slice) : Bool := s.regB (slInst .egv sl) R.EGV_SSTAT 18

/-- R388: the P clock of a level, in MHz. -/
def clockOf (l : Nat) : Nat := 700 + 210 * l

/-- R391: a level serves the counts of 100 µs: packets assigned, their issue cycles, and dequeues. -/
def serves (headroom assigned issue dequeued l : Nat) : Prop :=
  (16 + headroom) * max (max (5 * (issue + 6 * assigned)) (336 * dequeued)) (240 * assigned) ≤ clockOf l * 100 * 16 * 1920

/-- A slice whose level may change: awake, no reset and no change of level in progress, the governor in charge, no cap, and
no absorption buffer a quarter full. -/
structure Steady (s : State) (sl : Slice) : Prop where
  quiet : Quiet s ∧ s.flt.resets = [] ∧ s.boot.avs = true ∧ s.awake sl = true
  rest : (s.egv sl).changing = none ∧ (s.egv sl).want = levelField s sl ∧ levelField s sl ≤ 5 ∧
    (s.egv sl).fallTo ≤ (s.egv sl).want
  uncapped : capOf s sl = 5 ∧ avsFailed s sl = false
  calm : ∀ m : Fin 8, 4 * (s.macro (8 * sl.val + m.val)).absBytes < 2097152

/-- The levels that follow: DEMAND, the demand in force, LEVEL and the change in progress. -/
def levels (t : State) (sl : Slice) : Nat × Nat × Nat × Option Nat :=
  (t.regF (slInst .egv sl) R.EGV_SSTAT 4 3, (t.egv sl).want, levelField t sl, (t.egv sl).changing)

/-- The sprint bins of the Kennel: seconds of sprint by hour (R546, R547). -/
def bins (s : State) : List Nat := (List.range 24).map fun k => s.knlNat (0x40 + 2 * k) 2

/-- R384, R408: the power cap in W. -/
def capWatts (t : State) : Nat :=
  let p := if t.regB egv4 R.EGV_DSTAT 29 then min 490 (t.regF egv4 R.EGV_PCAP 16 10) else min 420 (t.regF egv4 R.EGV_PCAP 0 10)
  match t.stage with
  | 0 => p
  | 1 => min p (t.regF egv4 R.EGV_SCAP1 0 10)
  | 2 => min p (t.regF egv4 R.EGV_SCAP2 0 10)
  | 3 => min p (t.regF egv4 R.EGV_SCAP3 0 10)
  | 4 => min p (t.regF egv4 R.EGV_SCAP4 0 10)
  | _ => min p (t.regF egv4 R.EGV_SCAP5 0 10)

/-- The refills of the four slices, in tokens per 10 µs. -/
def refills (t : State) : Nat :=
  t.regF (slInst .egv 0) R.EGV_TOKRATE 0 24 + t.regF (slInst .egv 1) R.EGV_TOKRATE 0 24 +
    t.regF (slInst .egv 2) R.EGV_TOKRATE 0 24 + t.regF (slInst .egv 3) R.EGV_TOKRATE 0 24

/-- An entry of the estimator's coefficients (R381). -/
def coef (s : State) (sl : Slice) (e : Nat) : Nat := fld (s.ent (slInst .egv sl) 2 e 0) 0 16

/-- The factor 1 + KT × (Td - 85), with KT in 1/32,768 per 1/8 °C. -/
def thermalFactor (s : State) (sl : Slice) : Int :=
  32768 + (coef s sl 38 : Int) * (((s.reg (slInst .egv sl) R.EGV_TSLICE).extractLsb' 0 16).toInt - 680)

/-- R388: the voltage of a level, in mV. -/
def voltOf (l : Nat) : Nat := [550, 600, 660, 720, 780, 850].getD l 850

/-- R381: the estimate of a slice, in nW: the static power of its level and temperature, and its events weighed and scaled by
the square of the voltage. Quotients are rounded down (the model's reading, log entry 74). -/
def slicePower (s : State) (sl : Slice) : Int :=
  let v := voltOf (levelField s sl)
  ((coef s sl (32 + levelField s sl) * 10000000 : Nat) : Int) * thermalFactor s sl / 32768 +
    ((((List.range 12).map fun k => s.actOf sl k * coef s sl k).sum * (v * v) / 722500 : Nat) : Int)

/-- The host has set no resistance or capacitance of the thermal model to 0 (the spec states no quotient by 0). -/
def NodeValues (s : State) : Prop :=
  s.regF egv4 R.EGV_RTH 10 10 ≠ 0 ∧ s.regF egv4 R.EGV_RTH 20 10 ≠ 0 ∧ s.regF egv4 R.EGV_CTH 0 16 ≠ 0 ∧
  s.regF egv4 R.EGV_CTH 16 16 ≠ 0

/-- R382: one millisecond of the thermal nodes from `th` and `tp`, in µ°C: Th is no cooler than the die shows, and heat flows from
Th to Tp and from Tp to the air. Powers in nW, resistances in mK/W, CH in 0.01 J/K and CP in J/K. -/
def NodesStep (s t : State) (th : Slice → Int) (tp : Int) : Prop :=
  let td := fun sl : Slice => ((s.reg (slInst .egv sl) R.EGV_TSLICE).extractLsb' 0 16).toInt * 125000
  let rdh : Int := s.regF egv4 R.EGV_RTH 0 10
  let rhp : Int := s.regF egv4 R.EGV_RTH 10 10
  let rpa : Int := s.regF egv4 R.EGV_RTH 20 10
  let shown := fun sl => max (th sl) (td sl - rdh * slicePower s sl / 1000000 - 3000000)
  let flow := fun sl => (shown sl - tp) * 1000000 / rhp
  let other := s.otherPower s.otherActivity
  (∀ sl : Slice, (t.egv sl).th = shown sl + (slicePower s sl - flow sl) / (10000 * s.regF egv4 R.EGV_CTH 0 16 : Nat)) ∧
  t.gov.tp = tp + (flow 0 + flow 1 + flow 2 + flow 3 + other - (tp - s.tamb) * 1000000 / rpa) /
    (1000000 * s.regF egv4 R.EGV_CTH 16 16 : Nat)

/-- The slice may go to sleep state `k`: it is in a lighter one, idle (R393), no wake is in progress, and its governor is not
under reset (R417). -/
def Drowsy (s : State) (sl : Slice) (k : Nat) : Prop :=
  s.sleep sl < k ∧ s.regB (slInst .egv sl) R.EGV_SSTAT 10 = false ∧ s.idle sl = true ∧ s.inBlockReset (slInst .egv sl) = false

/-- R395: the fabric cells, of 256 bytes, that arrived in the last 10 µs keep NAPFAB, in Gbit/s. -/
def FabricFits (s : State) (sl : Slice) : Prop :=
  ((s.fabIn.get sl.val).filter fun t => s.time < t + 10000).length * 2048 ≤ s.regF (slInst .egv sl) R.EGV_NAPCFG 16 11 * 10000

/-- R394: every port of the slice is out of UP, or in LPI both ways. -/
def PortsRest (s : State) (sl : Slice) : Prop :=
  ∀ k : Fin 64, s.portState (64 * sl.val + k.val) ≠ 7 ∨
    (s.laneReg (64 * sl.val + k.val) R.PRT_PSTAT).extractLsb' 8 2 = 3

/-- R405, R573: an input of `v` µV reads as code `c`: 4,095 at full scale (1.200 V) and above, 0 at or below 0, and between them
floor(4,096 × V ÷ FS) within 10 codes. -/
def ConvertsTo (v : Int) (c : Nat) : Prop :=
  c ≤ 4095 ∧ (1200000 ≤ v → c = 4095) ∧ (v ≤ 0 → c = 0) ∧
  (0 < v → v < 1200000 → 4096 * v / 1200000 - 10 ≤ c ∧ (c : Int) ≤ 4096 * v / 1200000 + 10)

/-- The supply thresholds: EN, TH and HYS of threshold `k`, 1-6. -/
def th (s : State) (k : Nat) : Word := s.reg egv4 (R.EGV_STH + 4 * (k - 1))

/-- The stages asked for: by the plant, by the power module, by the host. -/
def asked (s : State) : Nat :=
  max (max s.gov.plantStage s.gov.pmbStage) (min 6 (s.regF egv4 R.EGV_STAGECTL 0 3))

/-- No copy of any queue lies in the deep tier. -/
def DeepEmpty (t : State) : Prop := ∀ (sl : Slice) (q : Nat), ∀ c ∈ t.queue sl q, c.inDeep = false

end Sys2Proof.Spec

open Sys2Proof.Spec in
/-- R380, R391, R401, R403, R413: a sample is stored, and a sensor out of range fails for good; TD is the highest valid
reading; HOT is set at THOT and cleared 5 °C below it; every slice's cap follows. The condition of 115 °C holds until every
valid reading, of which there is one (the model's reading, log entry 77), is below 95 °C, in the chip reset that it brings
too. A reading of 115 °C resets the chip, and one of 125 °C seals it and asserts THERMTRIP_N, in any reset. Readings of the S
variant below 0 °C aside. -/
def Sys2Proof.Spec.TemperaturesAreLimited : Prop :=
  ∀ (s : State) (sl : Slice) (idx : Fin 6) (temp : BitVec 16), Calm s → s.boot.vaon = true →
    let i := slInst .egv sl
    let off := R.EGV_SENSOR + 4 * idx.val
    let failed := s.regB i off 16 || decide (temp.toInt < -440 ∨ 1200 < temp.toInt)
    let kept := fun t : State => t.regF i off 0 16 = temp.toNat ∧ t.regB i off 16 = failed
    let hot : Int := 8 * (min 114 (s.regF egv4 R.EGV_TLIM 16 8) : Nat)
    let cooled := fun t : State => allReadings t ≠ [] ∧ ∀ v ∈ allReadings t, v < 760
    (Config.variantS = false ∨ 0 ≤ temp.toInt ∨ failed = true) →
    (s.boot.inReset = false → ReportOnly s 84 → ReportOnly s 87 → (∀ n : Slice, avsFailed s n = false) →
      (failed = true ∨ temp.toInt < 920) → (∀ v ∈ allReadings s, v < 920) →
      ∃ t, exec (.sensorSample sl idx temp) s = .next t ∧ kept t ∧
        (let td := ((t.reg i R.EGV_TSLICE).extractLsb' 0 16).toInt
         readings t sl ≠ [] → td ∈ readings t sl ∧ ∀ v ∈ readings t sl, v ≤ td) ∧
        t.regB egv4 R.EGV_DSTAT 31 = ((allReadings t).any (fun v => decide (hot ≤ v)) ||
          (s.regB egv4 R.EGV_DSTAT 31 && !(decide (allReadings t ≠ []) &&
            (allReadings t).all fun v => decide (v < hot - 40)))) ∧
        (t.flt.t115 = true ↔ s.flt.t115 = true ∧ ¬ cooled t) ∧
        (failed = true → s.regB i off 16 = false → t.latched 84 = true) ∧
        (∀ n : Slice, capField t n = capOf t n) ∧
        t = { s with regs := t.regs, win := t.win, egvs := t.egvs, gov := t.gov, flt := t.flt, hif := t.hif
                     boot := { s.boot with warm := t.boot.warm } }) ∧
    (s.boot.inReset = true → failed = false → temp.toInt < 1000 → s.flt.t115 = true → (∀ v ∈ allReadings s, v < 1000) →
      s.regB egv4 R.EGV_DSTAT 31 = true ∨ temp.toInt < hot ∧ (∀ v ∈ allReadings s, v < hot) →
      ∃ t, exec (.sensorSample sl idx temp) s = .next t ∧ kept t ∧ t.boot = { s.boot with warm := t.boot.warm } ∧
        (t.flt.t115 = true ↔ ¬ cooled t) ∧ (t.gov.t115Held = true ↔ s.gov.t115Held = true ∧ ¬ cooled t)) ∧
    (s.boot.inReset = false → failed = false → 920 ≤ temp.toInt → temp.toInt < 1000 → (∀ v ∈ allReadings s, v < 1000) →
      s.flt.t115 = false → ReportOnly s 87 → faultClass s 88 = 3 → NoSnapshot s 88 →
      ∃ t, exec (.sensorSample sl idx temp) s = .next t ∧ kept t ∧ isLatched t 88 = true ∧ t.flt.t115 = true ∧
        t.gov.t115Held = true ∧ ChipReset s t 4 pinRegs) ∧
    (failed = false → 1000 ≤ temp.toInt → faultClass s 89 = 4 →
      ∃ t, exec (.sensorSample sl idx temp) s = .next t ∧ kept t ∧ isLatched t 89 = true ∧ t.flt.sealed = true ∧
        t.flt.thermtrip = true ∧ t.boot.inReset = true ∧ t.regF knl4 R.KNL_BOOT 8 4 = 3)

open Sys2Proof.Spec in
/-- R389-R391, R402, R404 (that a fall goes to the highest of the ten demands is the model's reading, log entry 75; that the
stretched time is examined when droop recovers is log entry 77): the demand level is the lowest that serves the last 100 µs,
within LMIN and LMAX, or FLEVEL; a rise is applied at once and its clocks change when the voltage is there, a fall after 10
lower computations and its clocks change first. A regulator's failure holds the level (one with no change in progress too: the
model's reading, log entry 75). Droop halves the clocks, counts, and when it lasts lowers the level for 100 ms; in a slice
that failed self-test it does nothing (the model's reading, log entry 28). -/
def Obligations.LevelsFollowDemandAndCap : Prop :=
  ∀ (s : State) (sl : Slice),
    let i := slInst .egv sl
    let want := (s.egv sl).want
    let falls := (s.egv sl).falls
    let lo := min 5 (s.regF i R.EGV_SCTRL 0 3)
    let hi := min 5 (s.regF i R.EGV_SCTRL 4 3)
    (Steady s sl →
      let frame := fun t : State => t = { s with regs := t.regs, egvs := t.egvs, acts := t.acts }
      let ok := serves (s.regF i R.EGV_SCTRL 12 4) (s.actOf sl 12) (s.actOf sl 13) (s.actOf sl 14)
      (s.regB i R.EGV_SCTRL 19 = true → ∃ t, exec (.dvfsCompute sl) s = .next t ∧ frame t ∧
        (levels t sl).1 = min 5 (s.regF i R.EGV_SCTRL 16 3)) ∧
      (∀ d0, d0 < 6 → s.regB i R.EGV_SCTRL 19 = false → lo ≤ hi → (∀ l, l < d0 → ¬ ok l) → (ok d0 ∨ d0 = 5) →
        let d := min (max d0 lo) hi
        ∃ t, exec (.dvfsCompute sl) s = .next t ∧ frame t ∧
          (want < d → levels t sl = (d, d, want, some d)) ∧
          (d = want → levels t sl = (d, want, want, none) ∧ (t.egv sl).falls = 0) ∧
          (d < want → falls < 9 → levels t sl = (d, want, want, none) ∧ (t.egv sl).falls = falls + 1 ∧
            (t.egv sl).fallTo = max (s.egv sl).fallTo d) ∧
          (d < want → 9 ≤ falls → (s.egv sl).fallTo < want →
            let e := max (s.egv sl).fallTo d
            levels t sl = (d, e, e, some e) ∧ (t.egv sl).falls = 0))) ∧
    (Quiet s → s.inBlockReset i = false → ∀ l, l < 6 → (s.egv sl).changing = some l →
      l = min want (capField s sl) → ∃ t, exec (.levelChangeComplete sl true) s = .next t ∧ levelField t sl = l ∧
        (t.egv sl).changing = none ∧ t = { s with regs := t.regs, egvs := t.egvs }) ∧
    (Quiet s → s.inBlockReset i = false → (s.egv sl).changing.isSome = true ∨ s.boot.avs = true →
      (ReportOnly s 85 → ∃ t, exec (.levelChangeComplete sl false) s = .next t ∧ avsFailed t sl = true ∧
        levelField t sl ≤ levelField s sl ∧ capField t sl ≤ levelField s sl ∧ t.latched 85 = true)) ∧
    (Quiet s → (s.egv sl).changing = none → exec (.levelChangeComplete sl true) s = .next s) ∧
    (Quiet s → s.failed sl = false → ∃ t, exec (.droopDetect sl) s = .next t ∧ (t.egv sl).droop = true ∧
      t.pMhz sl = clockOf (min 5 (levelField s sl)) / 2 ∧
      t.regF i R.EGV_DROOP 16 16 = min 65535 (s.regF i R.EGV_DROOP 16 16 + 1) ∧
      t = { s with regs := t.regs, egvs := t.egvs }) ∧
    (Quiet s → s.failed sl = false → (s.egv sl).droop = true → (s.egv sl).droops = [] → (s.egv sl).droopSince ≤ s.time →
      let n := s.time - (s.egv sl).droopSince
      (n ≤ 1000000 ∨ (s.egv sl).droopCap.isSome = true → ∃ t, exec (.droopRecover sl) s = .next t ∧
        (t.egv sl).droop = false ∧ t = { s with egvs := t.egvs }) ∧
      (1000000 < n → n ≤ 10000000 → (s.egv sl).droopCap = none → ∃ t, exec (.droopRecover sl) s = .next t ∧
        (t.egv sl).droop = false ∧ capField t sl ≤ levelField s sl - 1 ∧ t.regB egv4 R.EGV_EVENT 6 = true ∧
        (Steady s sl → levelField t sl = levelField s sl - 1))) ∧
    (Quiet s → s.failed sl = false → avsFailed s sl = false → ∃ t, exec (.droopLongEnd sl) s = .next t ∧
      (t.egv sl).droopCap = none ∧ capField t sl = capOf t sl ∧ t = { s with regs := t.regs, egvs := t.egvs }) ∧
    (Quiet s → s.failed sl = true → ∀ c ∈ [Instr.droopDetect sl, .droopRecover sl, .droopLongEnd sl], exec c s = .next s)

open Sys2Proof.Spec in
/-- R381-R384, R399, R400, R547 (that quotients are rounded down is the model's reading, log entry 74; that the seconds of
sprint are those with the estimate above SUS, and that EGV_DUTY keeps 16 bits, is log entry 78): each tick estimates the
power, steps the thermal nodes, which start at the lowest reading, grants sprint only while its conditions hold, and gives
the slices refills that, with the other consumers, never exceed the power cap. The Kennel's bins count the seconds of sprint,
and the duty of 4 % denies sprint until it falls below 3 %. -/
def Sys2Proof.Spec.GovernorKeepsThePowerCap : Prop :=
  ∀ (s : State), Quiet s → s.boot.vaon = true →
    (∃ t, exec .governorTick s = .next t ∧
      t = { s with regs := t.regs, tmgs := t.tmgs, egvs := t.egvs, gov := t.gov, acts := t.acts, hif := hifAfter s t } ∧
      ((∀ sl : Slice, 0 ≤ thermalFactor s sl) →
        ((refills t * 100000 : Nat) : Int) ≤ max 0 ((capWatts t * 1000000000 : Nat) - s.otherPower s.otherActivity)) ∧
      (∀ sl : Slice, levelField s sl ≤ 5 → t.regF (slInst .egv sl) R.EGV_PSLICE 0 16 =
        min 65535 (slicePower s sl / 100000000).toNat) ∧
      (∀ low, ((∀ sl : Slice, levelField s sl ≤ 5) ∧ NodeValues s) → s.gov.init = false → low ∈ allReadings s →
        (∀ v ∈ allReadings s, low ≤ v) → NodesStep s t (fun _ => low * 125000) (low * 125000)) ∧
      (((∀ sl : Slice, levelField s sl ≤ 5) ∧ NodeValues s) → s.gov.init = true ∨ allReadings s = [] →
        NodesStep s t (fun sl => (s.egv sl).th) s.gov.tp) ∧
      (t.gov.init = true ↔ s.gov.init = true ∨ allReadings s ≠ []) ∧
      (t.regB egv4 R.EGV_DSTAT 29 = true → s.regB egv4 R.EGV_DCTRL 0 = true ∧ s.regB egv4 R.EGV_DCTRL 2 = true ∧
        s.stage < 3 ∧ s.regB egv4 R.EGV_DSTAT 31 = false ∧ s.regB egv4 R.EGV_DSTAT 30 = false ∧
        (∀ sl : Slice, 3 ≤ (readings s sl).length) ∧ t.gov.sprintMs < 1000 * max 1 (s.regF egv4 R.EGV_SPRINTCFG 0 8) ∧
        (s.regB egv4 R.EGV_DSTAT 29 = true ∨ 9999 ≤ s.gov.sinceSprint)) ∧
      (s.regB egv4 R.EGV_DSTAT 29 = true → t.regB egv4 R.EGV_DSTAT 29 = false →
        t.regB egv4 R.EGV_EVENT 2 = true ∧ t.gov.sinceSprint = 0) ∧
      (∀ sl : Slice, (t.tmg sl).refusedCost = 0)) ∧
    (s.boot.vkeep = true →
      let n := s.gov.unbinned / 1000
      let hour := s.knl.sec.toNat / 3600 % 2 ^ 32
      let old := s.knlNat 0x20 4
      let kept := if old < hour then (bins s).zipIdx.map fun (n, k) =>
        if 24 ≤ hour - old ∨ (k + 24 - (old + 1) % 24) % 24 < hour - old then 0 else n else bins s
      ∃ t, exec .sprintBinUpdate s = .next t ∧ t.knlNat 0x20 4 = max old hour ∧
        bins t = (kept.zipIdx.map fun (m, k) => if k = max old hour % 24 then min 65535 (m + n) else m) ∧
        t.knlNat 0x18 8 = (s.knlNat 0x18 8 + n) % 2 ^ 64 ∧ t.gov.unbinned = s.gov.unbinned % 1000 ∧
        t.regF egv4 R.EGV_DUTY 0 16 = (bins t).sum * 10000 / 86400 % 2 ^ 16 ∧
        (3456 < (bins t).sum → t.regB egv4 R.EGV_DSTAT 30 = true ∧ (s.regB egv4 R.EGV_DSTAT 30 = false →
          t.regB egv4 R.EGV_DSTAT 29 = false ∧ t.regB egv4 R.EGV_EVENT 3 = true)) ∧
        ((bins t).sum < 2592 → t.regB egv4 R.EGV_DSTAT 30 = false) ∧
        (2592 ≤ (bins t).sum → (bins t).sum ≤ 3456 → t.regB egv4 R.EGV_DSTAT 30 = s.regB egv4 R.EGV_DSTAT 30))

/-- Temperatures are limited, and the governor keeps the power cap: `TemperaturesAreLimited`,
`GovernorKeepsThePowerCap`. -/
def Obligations.TemperaturesAndPowerAreLimited : Prop :=
  Sys2Proof.Spec.TemperaturesAreLimited ∧
  Sys2Proof.Spec.GovernorKeepsThePowerCap

open Sys2Proof.Spec in
/-- R385, R393-R398: an idle slice enters Doze, Nap or Deep where that is enabled and its conditions hold, and else stays
(copies that wait for it move their cells, R22); a wake ends it, credits one refill for each whole 10 µs slept, and from Deep
leaves the buckets full; a due housekeeping routine starts on the lowest free pup, of which it then holds context 0 (which
pup, and that it is held, are the model's choices, log entries 37 and 54), when the tokens above the reserves of E0 and E1 pay
it, or past MAXDEFER, and never while withheld. -/
def Obligations.SlicesSleepAndWork : Prop :=
  ∀ (s : State) (sl : Slice), Quiet s →
    let i := slInst .egv sl
    let en := fun k => s.regB i R.EGV_SCTRL k = true
    let slumbers := fun t : State => t = { s with regs := t.regs, egvs := t.egvs, frames := t.frames, swcs := t.swcs } ∧
      t.egv sl = { s.egv sl with sleptAt := some ((s.egv sl).sleptAt.getD s.time) } ∧
      ((s.swc sl).admitQ = [] → t.frames = s.frames ∧ t.swcs = s.swcs)
    let woken := s.failed sl = false ∧ (s.egv sl).changing = none ∧ s.flt.resets = [] ∧ s.flt.waiting = []
    let nap := (∀ m : Fin 8, ∀ r ∈ (s.macro (8 * sl.val + m.val)).rates,
        r * 1500 ≤ 1024 * min 2048 (s.regF i R.EGV_NAPCFG 0 11)) ∧ FabricFits s sl →
      ∃ t, exec (.napEntry sl) s = .next t ∧ t.sleep sl = 2 ∧ slumbers t ∧
        t.regF i R.EGV_SLEEPCNT 0 16 = min 65535 (s.regF i R.EGV_SLEEPCNT 0 16 + 1) ∧
        ∀ c : Fin 4, ∀ r ∈ s.ranksOf (4 * sl.val + c.val), t.rankPwr (4 * sl.val + c.val) r ≠ 0
    (en 8 ∧ Drowsy s sl 1 → ∃ t, exec (.dozeEntry sl) s = .next t ∧ t.sleep sl = 1 ∧ slumbers t) ∧
    (¬ (en 8 ∧ Drowsy s sl 1) → exec (.dozeEntry sl) s = .next s) ∧
    (en 9 → Drowsy s sl 2 → (s.egv sl).changing = none → s.flt.resets = [] → nap) ∧
    (¬ (en 9 ∧ Drowsy s sl 2) ∨ (s.egv sl).changing ≠ none ∨ ¬ FabricFits s sl → exec (.napEntry sl) s = .next s) ∧
    (en 10 ∨ 5 ≤ s.stage → Drowsy s sl 3 → (s.egv sl).changing = none → s.flt.resets = [] → PortsRest s sl →
      ∃ t, exec (.deepEntry sl) s = .next t ∧ t.sleep sl = 3 ∧ slumbers t ∧
        t.regF i R.EGV_SLEEPCNT 16 16 = min 65535 (s.regF i R.EGV_SLEEPCNT 16 16 + 1)) ∧
    (¬ ((en 10 ∨ 5 ≤ s.stage) ∧ Drowsy s sl 3) ∨ (s.egv sl).changing ≠ none ∨ ¬ PortsRest s sl →
      exec (.deepEntry sl) s = .next s) ∧
    ((s.sleep sl = 0 ∨ s.regB i R.EGV_SSTAT 10 = false → exec (.wakeComplete sl) s = .next s) ∧
      (∀ since, s.sleep sl ≠ 0 → s.regB i R.EGV_SSTAT 10 = true → woken → (s.fwd sl).queue = [] →
        (s.egv sl).sleptAt = some since → since ≤ s.time →
        let intervals := (s.time - since) / 10000
        let cap := s.regF i R.EGV_BKTCAP 0 24
        let rate := if s.regB egv4 R.EGV_DCTRL 2 then s.regF i R.EGV_TOKRATE 0 24 else cap
        ∃ t, exec (.wakeComplete sl) s = .next t ∧ t.sleep sl = 0 ∧ t.regB i R.EGV_SSTAT 10 = false ∧
          (t.egv sl).bucket = min ((s.egv sl).bucket + (1024 * intervals * rate : Nat)) (1024 * cap : Nat) ∧
          (s.sleep sl = 3 → (t.tmg sl).nodeC = {} ∧ (t.tmg sl).svcP = {} ∧ (t.tmg sl).mtrC = {} ∧
            (t.tmg sl).queues = (s.tmg sl).queues) ∧
          (s.sleep sl ≠ 3 → t.tmgs = s.tmgs) ∧
          t = { s with regs := t.regs, tmgs := t.tmgs, egvs := t.egvs })) ∧
    (∀ (task : Fin 16) (forced : Bool),
      let cost := fld (s.ent i 1 task.val 1) 0 16 * 1000
      let w := s.ent (slInst .pup sl) (if s.regB (slInst .pup sl) R.PUP_CTRL 1 then 3 else 2) (240 + task.val) 0
      let withheld := (s.ent i 1 task.val 1).getLsbD 16 = true ∧ (1 ≤ s.stage ∨ s.regB (tmgI sl) R.TMG_ESTAT 0 = true)
      let due := forced = true ∧ fld (s.ent i 1 task.val 0) 16 16 ≠ 0
      let pays := (reserves s sl 2 : Int) + (1024 * cost : Nat) ≤ (s.egv sl).bucket
      let ready := s.regB (slInst .pup sl) R.PUP_CTRL (8 + task.val) = true ∧
        s.regB (slInst .pup sl) R.PUP_HKSTAT task.val = false ∧ w.getLsbD 14 = true ∧ s.running sl = [] ∧
        s.failed sl = false ∧ s.flt.resets = [] ∧ (s.pup sl).groupReset = [] ∧ (s.egv sl).tasks = []
      let x : CtxId := ⟨sl, 384, 0⟩
      (withheld → exec (.hkTaskStart sl (task.castLE (by omega)) forced) s = .next s) ∧
      (¬ withheld → ready → s.sleep sl = 0 → (s.ctx x).running = false → due ∨ pays →
        ∃ t, exec (.hkTaskStart sl (task.castLE (by omega)) forced) s = .next t ∧ (t.ctx x).running = true ∧
          (t.ctx x).pc = w.extractLsb' 0 14 ∧ (t.ctx x).entry = 240 + task.val ∧
          (t.egv sl).bucket = (s.egv sl).bucket - (1024 * cost : Nat) ∧
          t = { s with regs := t.regs, ctxs := t.ctxs, egvs := t.egvs }) ∧
      (¬ due → ¬ pays → s.sleep sl = 0 → exec (.hkTaskStart sl (task.castLE (by omega)) forced) s = .next s) ∧
      (¬ withheld → ready → s.sleep sl ≠ 0 → due → ∃ t,
        exec (.hkTaskStart sl (task.castLE (by omega)) forced) s = .next t ∧ t.regB i R.EGV_SSTAT 10 = true))

open Sys2Proof.Spec in
/-- R405-R410, R573 (that the plant stage is latched until STAGE_FALL, and that the mean is rounded down, is the model's
reading, log entries 79 and 136): a window of 16 samples of PLANT_SENSE, each converted within 10 codes, counts at each
threshold it reaches, and ENTRYN windows in a row raise the plant stage; the stage in force is the highest asked for, and rises
through every stage's entry actions: S3 ends sprint and caps the levels, S4 and S5 take their ports in order and S5 the deep
tier, S6 clears FORCE, fires the snapshot and muzzles. It falls by one when its cause has cleared; thresholds are kept in
order; S6 holds the device in reset until it is released. -/
def Obligations.SupplyStages : Prop :=
  ∀ (s : State), Calm s →
    let i := egv4
    let k := s.stage
    let w := th s k
    let cleared := (s.gov.plantStage < k ∨ w.getLsbD 31 = false ∨ fld w 0 12 + fld w 16 12 ≤ s.regF i R.EGV_PLANT 0 12) ∧
      s.gov.pmbStage < k ∧ min 6 (s.regF i R.EGV_STAGECTL 0 3) < k
    let entered := s.gov.toShed = [] ∧ (k = 5 → s.gov.drain5 = false) ∧ (k = 6 → s.gov.s6Held = true)
    let falls := fun t : State => t.stage = k - 1 ∧ t.gov.plantStage ≤ k - 1 ∧ t.regB i R.EGV_EVENT 1 = true ∧
      t.gov.shed = s.gov.shed.filter (fun x => x.2 ≠ k)
    (s.boot.vaon = true → 0 < k → cleared → entered → ∃ t, exec .stageFall s = .next t ∧ falls t) ∧
    (s.boot.vaon = true → s.gov.s6Held = true → s.stage < 6 → ∃ t, exec .s6Release s = .next t ∧
      t.gov = { s.gov with s6Held := false } ∧ t.boot = s.boot ∧ (s.boot.inReset = false → t = { s with gov := t.gov })) ∧
    (s.boot.inReset = false →
    let rises := fun (samples : Nat) (t : State) => t.stage = max s.stage (asked t) ∧
      (asked t ≤ max 2 s.stage →
        t = { s with free := s.free + samples, regs := t.regs, gov := t.gov, hif := hifAfter s t }) ∧
      (s.stage < 3 → 3 ≤ t.stage → t.regB i R.EGV_DSTAT 29 = false ∧
        ∀ sl : Slice, avsFailed s sl = false → capField t sl ≤ 2) ∧
      (s.stage < 4 → t.stage = 4 → s.gov.toShed = [] → ∀ p : Port,
        let w := s.laneReg p.val R.PRT_PCFG
        w.getLsbD 0 = true → w.getLsbD 11 = false → w.getLsbD 12 = true → s.portState p.val ≠ 0 →
        s.portState p.val ≠ 8 → p.val ∈ (t.gov.shed ++ t.gov.toShed).map (·.1)) ∧
      (s.stage < 5 → t.stage = 5 → s.regB i R.EGV_STAGECTL 8 = false → (∀ sl, (s.tmg sl).queues.wf = true) → DeepEmpty t)
    (∀ volts : List Int, s.stage < 6 → volts.length = 16 →
      let n := max 1 (s.regF i R.EGV_STAGECTL 12 4)
      ∃ t, exec (.plantWindow volts) s = .next t ∧
        (∃ codes : List Nat, codes.length = 16 ∧ (∀ (k c : Nat) (v : Int), codes[k]? = some c → volts[k]? = some v → ConvertsTo v c) ∧
          t.regF i R.EGV_PLANT 0 12 = codes.sum / 16) ∧
        let code := (t.reg i R.EGV_PLANT).extractLsb' 0 12
        (∀ k : Fin 6, let w := th s (k.val + 1)
          t.gov.below.get k.val = (if w.getLsbD 31 = true ∧ code.toNat ≤ fld w 0 12 then
            min 15 (s.gov.below.get k.val + 1) else 0) ∧ (n ≤ t.gov.below.get k.val → k.val + 1 ≤ t.gov.plantStage)) ∧
        (t.gov.plantStage = s.gov.plantStage ∨
          ∃ k : Fin 6, t.gov.plantStage = k.val + 1 ∧ n ≤ t.gov.below.get k.val) ∧ (asked t < 6 → rises 16 t)) ∧
    (∀ a : Bool, s.stage < 6 → ∃ t, exec (.pmbAlert a) s = .next t ∧
      t.gov.pmbStage = (if a then min 6 (s.regF i R.EGV_STAGECTL 4 3) else 0) ∧ (asked t < 6 → rises 0 t)) ∧
    (Reached s egv4 → ∀ v : Word, s.stage < 6 →
      (fld v 0 3 < 6 → max s.gov.plantStage s.gov.pmbStage < 6 → ∃ t, exec (.stageForceWrite v) s = .next t ∧
        t.reg i R.EGV_STAGECTL = written { off := R.EGV_STAGECTL, rw := 0xFFFFF177 } (s.reg i R.EGV_STAGECTL) v ∧
        (v.getLsbD 8 = s.regB i R.EGV_STAGECTL 8 → rises 0 t)) ∧
      (s.stage = 5 → 6 ≤ fld v 0 3 → ∃ t, exec (.stageForceWrite v) s = .next t ∧ t.stage = 6 ∧
        t.regF i R.EGV_STAGECTL 0 3 = 0 ∧ t.regB flt4 R.FLT_MUZZLE 0 = true ∧ t.regB flt4 R.FLT_MUZZLE 7 = true ∧
        t.flt.lastTrigger.isSome = true)) ∧
    ((k = 0 ∨ ¬ (cleared ∧ entered) → exec .stageFall s = .next s) ∧
     (0 < k → cleared → entered → ∃ t, exec .stageFall s = .next t ∧ falls t ∧
       ∀ x ∈ s.gov.shed, x.2 = k → x.1 < 256 → s.portState x.1 = 8 → t.portState x.1 = 1)) ∧
    (Reached s egv4 → ∀ (k : Fin 6) (v : Word),
      let new := fun j => if j = k.val + 1 then v else th s j
      let ordered := ∀ a b : Fin 6, a < b → (new (a.val + 1)).getLsbD 31 = true → (new (b.val + 1)).getLsbD 31 = true →
        fld (new (b.val + 1)) 0 12 ≤ fld (new (a.val + 1)) 0 12
      (ordered → exec (.stageThresholdWrite k v) s = .next (s.setReg i (R.EGV_STH + 4 * k.val)
        (written { off := R.EGV_STH, rw := 0x8FFF0FFF } (th s (k.val + 1)) v))) ∧
      (¬ ordered → ∃ t, exec (.stageThresholdWrite k v) s = .next t ∧ t.regB i R.EGV_EVENT 10 = true ∧
        th t (k.val + 1) = th s (k.val + 1) ∧ t = { s with regs := t.regs, hif := hifAfter s t })) ∧
    (s.gov.drain5 = false → exec .s5DrainEnd s = .next s) ∧
    (s.gov.drain5 = true → (∀ sl, (s.tmg sl).queues.wf = true) → ∃ t, exec .s5DrainEnd s = .next t ∧
      t.gov.drain5 = false ∧ DeepEmpty t) ∧
    (s.stage ≠ 6 ∨ s.gov.s6Held = true → exec .s6Halt s = .next s) ∧
    (s.stage = 6 → s.gov.s6Held = false → ∃ t, exec .s6Halt s = .next t ∧ t.gov.s6Held = true ∧
      t.boot.inReset = true ∧ t.regF knl4 R.KNL_BOOT 8 4 = 5 ∧ t.ctxs = {} ∧ t.knl = s.knl) ∧
    (s.gov.s6Held = false ∨ 6 ≤ s.stage → exec .s6Release s = .next s))

/-! ### Time -/

namespace Sys2Proof.Spec

/-- The counter in 2^-48 ns (R418). -/
def clock (s : State) : Int := (((s.tsu.sec.toNat * 1000000000 + s.tsu.ns) * 2 ^ 48 + s.tsu.frac : Nat) : Int)

/-- A number that the counter can hold. -/
def OnClock (v : Int) : Prop := 0 ≤ v ∧ v < 2 ^ 48 * 1000000000 * 2 ^ 48

/-- Whole nanoseconds of the counter. -/
def nowNs (s : State) : Nat := s.tsu.sec.toNat * 1000000000 + s.tsu.ns

/-- The first whole nanosecond that is not earlier than the counter. -/
def ceilNs (s : State) : Nat := nowNs s + if s.tsu.frac = 0 then 0 else 1

def tsuStat (s : State) (lo n : Nat) : Nat := s.regF tsu4 R.TSU_STAT lo n
def tsuEvent (s : State) (k : Nat) : Bool := s.regB tsu4 R.TSU_EVENT k

/-- The device-side fields of a command's state that a TSU command leaves: registers, the unit and interrupt requests. -/
def OnlyTsu (s t : State) : Prop := t = { s with regs := t.regs, tsu := t.tsu, hif := hifAfter s t }

/-- A register of output `n`. -/
def outReg (s : State) (n : Nat) (off : Nat) : Word := s.reg tsu4 (off + 32 * n)

/-- START of output `n` and SNAP, in ns. -/
def startOf (s : State) (n : Nat) : Nat :=
  ((outReg s n R.TSU_TOUTSLO).toNat + 2 ^ 32 * fld (outReg s n R.TSU_TOUTSHI) 0 16) * 1000000000 + fld (outReg s n R.TSU_TOUTNS) 0 30
def snapOf (s : State) : Nat :=
  ((s.reg tsu4 R.TSU_SNAPSLO).toNat + 2 ^ 32 * fld (s.reg tsu4 R.TSU_SNAPSHI) 0 16) * 1000000000 +
    fld (s.reg tsu4 R.TSU_SNAPNS) 0 30

/-- A point of the grid from `start` by `period`, the first at or after `now`. -/
def FirstAt (start period now next : Nat) : Prop :=
  start ≤ next ∧ now ≤ next ∧ (next - start) % period = 0 ∧ (next = start ∨ next < now + period)

/-- R451, R480: the oldest accepted command of a function has an opcode, its mark is written, the interface is not in reset,
the function's counters stand, it has not been reset meanwhile, and no KEY_LOAD of it awaits its blob. -/
structure Accepted (s : State) (f : Nat) (c : Cmd) (op : Nat) : Prop where
  quiet : Quiet s
  front : (s.fn f).accepted.head? = some c
  cmd : c.opcode = op ∧ c.fn = f ∧ c.seq < s.mark f
  hif : s.inBlockReset hif4 = false
  counters : s.counterLost f = false
  alone : (s.fn f).muted = [] ∧ (s.fn f).dups = [] ∧ (s.fn f).unproved = none

/-- R477: the command has left its queue and completes with a status and a result. -/
def Completes (s t : State) (c : Cmd) (status : Nat) (result : List Byte) : Prop :=
  (t.fn c.fn).accepted = (s.fn c.fn).accepted.drop 1 ∧
  (t.fn c.fn).done = (s.fn c.fn).done ++
    [{ tag := c.tag, status := status, opcode := c.opcode, fn := c.fn, seq := c.seq, icv := c.icv, no := c.no, result := result,
       acc := true }]

end Sys2Proof.Spec

open Sys2Proof.Spec in
/-- R418, R421-R425, R444: FREQ, of the last value written to TSU_FREQHI, is committed within ±1,000 ppm, and both registers
read what is stored (the model's reading, log entry 135); a correction within JUMPTH joins the remaining slew and a larger
one is refused whole; a slew is complete once nothing of it remains; a step is applied in ARMED alone; TIME_ARM, expiry and
CANCEL move the state; a read of TSU_TNS latches the counter; the Kennel's seconds follow it. With no command waiting (the
model's choice, log entry 2) a cycle adds a nanosecond, FREQ and up to 250 ppm of the slew, floor(2^48 / 4,000) units (log
entry 81). -/
def Obligations.TimeIsDisciplined : Prop :=
  ∀ (s : State), Reached s tsu4 →
    (∀ v : Word, ∃ t, exec (.registerWrite 0 (addrOf tsu4 R.TSU_FREQHI) v) s = .next t ∧ t.tsu = { s.tsu with
      freqHi := v.extractLsb' 0 8 } ∧ fld (t.reg tsu4 R.TSU_FREQHI) 0 8 = fld v 0 8 ∧ OnlyTsu s t) ∧
    (∀ v : Word, let f := (BitVec.ofNat 40 (s.tsu.freqHi.toNat * 2 ^ 32 + v.toNat)).toInt
      ∃ t, exec (.freqCommit v) s = .next t ∧ t.tsu.freq = max (-281474976711) (min 281474976711 f) ∧
        (BitVec.ofNat 40 (fld (t.reg tsu4 R.TSU_FREQHI) 0 8 * 2 ^ 32 + (t.reg tsu4 R.TSU_FREQLO).toNat)).toInt = t.tsu.freq ∧
        OnlyTsu s t) ∧
    (∀ v : Word,
      let new := s.tsu.slew + v.toInt * 2 ^ 44
      let limit := max 1 (min 1000000 (fld (s.reg tsu4 R.TSU_JUMPTH) 0 20))
      (new.natAbs ≤ limit * 2 ^ 48 → ∃ t, exec (.offsetWrite v) s = .next t ∧ t.tsu = { s.tsu with slew := new } ∧
        (tsuStat t 3 1 = if new = 0 then 0 else 1) ∧ OnlyTsu s t) ∧
      (limit * 2 ^ 48 < new.natAbs → ∃ t, exec (.offsetWrite v) s = .next t ∧ t.tsu = s.tsu ∧
        t.reg tsu4 R.TSU_LASTREF = v ∧ tsuEvent t 0 = true ∧ OnlyTsu s t)) ∧
    (s.tsu.slew = 0 → ∃ t, exec .slewComplete s = .next t ∧ t.tsu = s.tsu ∧ tsuStat t 3 1 = 0 ∧ OnlyTsu s t) ∧
    (s.tsu.slew ≠ 0 → exec .slewComplete s = .next s) ∧
    (∀ v : Word,
      let sec := (BitVec.ofNat 48 (fld (s.reg tsu4 R.TSU_STEPSHI) 0 16 * 2 ^ 32 + (s.reg tsu4 R.TSU_STEPSLO).toNat)).toInt
      let new := clock s + (sec * 1000000000 + fld v 0 30) * 2 ^ 48
      (tsuStat s 0 2 = 1 → OnClock new → ∃ t, exec (.stepWrite v) s = .next t ∧ clock t = new ∧ t.tsu.slew = 0 ∧
        tsuStat t 0 2 = 0 ∧ tsuStat t 2 1 = 0 ∧ tsuEvent t 2 = true) ∧
      (tsuStat s 0 2 ≠ 1 → ∃ t, exec (.stepWrite v) s = .next t ∧ t.tsu = s.tsu ∧ tsuEvent t 1 = true ∧
        t.reg tsu4 R.TSU_STEPNS = s.reg tsu4 R.TSU_STEPNS ∧ tsuStat t 0 4 = tsuStat s 0 4 ∧ OnlyTsu s t)) ∧
    (∀ (f : Fin 257) (c : Cmd), Accepted s f.val c 0x050 → ∃ t, exec (.timeArm f) s = .next t ∧ Completes s t c 0 [] ∧
      tsuStat t 0 2 = 1 ∧ t = { s with regs := t.regs, win := t.win, bad := t.bad, hif := t.hif }) ∧
    (tsuStat s 0 2 = 1 → ∃ t, exec .armExpiry s = .next t ∧ tsuStat t 0 2 = 0 ∧ tsuEvent t 3 = true ∧ OnlyTsu s t) ∧
    (tsuStat s 0 2 ≠ 1 → exec .armExpiry s = .next s) ∧
    (∀ v : Word, ∃ t, exec (.armCancel v) s = .next t ∧ fld (t.reg tsu4 R.TSU_ARM) 8 8 = fld v 8 8 ∧
      (v.getLsbD 0 = true → tsuStat t 0 2 = 0) ∧ (v.getLsbD 0 = false → tsuStat t 0 2 = tsuStat s 0 2) ∧ OnlyTsu s t) ∧
    (∃ t, exec .timeLatchRead s = .next t ∧ t.hif.readData = BitVec.ofNat 32 s.tsu.ns ∧
      t.reg tsu4 R.TSU_TNS = BitVec.ofNat 32 s.tsu.ns ∧ t.reg tsu4 R.TSU_TSECLO = s.tsu.sec.extractLsb' 0 32 ∧
      (t.reg tsu4 R.TSU_TSECHI).toNat = (s.tsu.sec.extractLsb' 32 16).toNat ∧
      t.reg tsu4 R.TSU_TFRAC = BitVec.ofNat 32 (s.tsu.frac / 2 ^ 32) ∧ t = { s with regs := t.regs, hif := t.hif }) ∧
    (∀ v : Word, ∃ t, exec (.ksetWrite v) s = .next t ∧ t.regB tsu4 R.TSU_CTRL 0 = v.getLsbD 0 ∧
      t.tsu.ksetPending = (s.tsu.ksetPending || v.getLsbD 1) ∧ OnlyTsu s t) ∧
    (let follows := s.boot.vkeep = true ∧ (s.tsu.ksetPending = true ∨ (s.regB tsu4 R.TSU_CTRL 0 = true ∧ tsuStat s 2 1 = 0))
     (follows → ∃ t, exec .kennelTimeFollow s = .next t ∧ t.knl.sec = s.tsu.sec ∧ t.knl.ticks = 0 ∧
       t.tsu.ksetPending = false ∧ t = { s with regs := t.regs, tsu := t.tsu, knl := t.knl }) ∧
     (¬ follows → exec .kennelTimeFollow s = .next s)) ∧
    (s.pending = [] → s.regB knl4 R.KNL_BOOT 0 = true →
      let paid := if 0 ≤ s.tsu.slew then min s.tsu.slew (2 ^ 48 / 4000) else max s.tsu.slew (-(2 ^ 48 / 4000))
      OnClock (clock s + 2 ^ 48 + s.tsu.freq + paid) → ∃ t, step s = .next t ∧
        clock t = clock s + 2 ^ 48 + s.tsu.freq + paid ∧ t.tsu.slew = s.tsu.slew - paid)

open Sys2Proof.Spec in
/-- R435-R441 (the model's readings, log entry 82: a PERIOD below 100 acts as 100, a time is reached by the counter with its
fraction, an output pulses only when its time is reached, and ARM 0 of a running output writes nothing off): ARM commits a
schedule, refuses a one-shot whose start lies within 100 ns or before, which leaves ARM as it was, and starts a late periodic
output at its next point; an output pulses when its time comes, and a one-shot once; PPS_OUT pulses while enabled; a selected
edge of an input stable for 8 ns captures the counter unless the latch is full; the compare fires the snapshot trigger once;
a recovered clock resumes once its conditions hold. -/
def Obligations.OutputsAndCaptures : Prop :=
  ∀ (s : State), Reached s tsu4 →
    let now := nowNs s
    let soon := ceilNs s + 100
    (∀ (n : Fin 8) (v : Word),
      let x := s.tsu.tout.get n.val
      let start := startOf s n.val
      let period := max 100 (outReg s n.val R.TSU_TOUTPER).toNat
      let width := max 8 (min (outReg s n.val R.TSU_TOUTWID).toNat (period - 8))
      let arm := fun t : State => (outReg t n.val R.TSU_TOUTCFG).getLsbD 2
      (fld v 0 2 = 1 → v.getLsbD 2 = true → start < soon → ∃ t, exec (.toutArm n v) s = .next t ∧ arm t = arm s ∧
        (outReg t n.val R.TSU_TOUTCFG).getLsbD 5 = true ∧ tsuEvent t 4 = true ∧ t.tsu = s.tsu ∧ OnlyTsu s t) ∧
      (fld v 0 2 = 1 → v.getLsbD 2 = true → soon ≤ start → ∃ t, exec (.toutArm n v) s = .next t ∧ arm t = true ∧
        t.tsu.tout.get n.val = { x with mode := 1, start := start, period := period, width := width, next := start } ∧
        OnlyTsu s t) ∧
      (fld v 0 2 = 2 → v.getLsbD 2 = true → ∃ t, exec (.toutArm n v) s = .next t ∧ arm t = true ∧
        FirstAt start period soon (t.tsu.tout.get n.val).next ∧
        (start < soon → (outReg t n.val R.TSU_TOUTCFG).getLsbD 6 = true ∧ tsuEvent t 5 = true) ∧ OnlyTsu s t) ∧
      (fld v 0 2 = 0 ∨ fld v 0 2 = 3 → ∃ t, exec (.toutArm n v) s = .next t ∧ arm t = false ∧
        (t.tsu.tout.get n.val).pin = false ∧ OnlyTsu s t) ∧
      (fld v 0 2 = 1 ∨ fld v 0 2 = 2 → v.getLsbD 2 = false → ∃ t, exec (.toutArm n v) s = .next t ∧ arm t = arm s ∧
        t.tsu = s.tsu ∧ OnlyTsu s t) ∧
      (arm s = true → x.next ≤ now → 0 < x.period → ∃ t, exec (.toutPulse n) s = .next t ∧
        (t.tsu.tout.get n.val).pin = true ∧ arm t = decide (x.mode ≠ 1) ∧ now < (t.tsu.tout.get n.val).next ∧ OnlyTsu s t) ∧
      (arm s = false ∨ now < x.next → exec (.toutPulse n) s = .next s) ∧
      (∃ t, exec (.toutPulseEnd n) s = .next t ∧ t.tsu.tout.get n.val = { x with pin := false } ∧ t.regs = s.regs ∧
        OnlyTsu s t)) ∧
    exec .ppsOutPulse s = .next { s with tsu := { s.tsu with pps := s.tsu.pps || s.regB tsu4 R.TSU_PPSOCFG 0 } } ∧
    exec .ppsOutPulseEnd s = .next { s with tsu := { s.tsu with pps := false } } ∧
    (∀ (n : Fin 5) (rising : Bool),
      let l := s.tsu.latches.get n.val
      let selected := if n.val = 4 then s.regB tsu4 R.TSU_PPSIN 0 && rising
        else (s.reg tsu4 (R.TSU_TINCFG + 16 * n.val)).getLsbD (if rising then 0 else 1)
      let stable := ∀ b, s.tsu.edgeAt.get n.val = some b → b + 8 ≤ s.time
      (selected = false ∨ ¬ stable → exec (.tinEdge n rising) s =
        .next { s with tsu := { s.tsu with edgeAt := s.tsu.edgeAt.set n.val (some s.time) } }) ∧
      (selected = true → stable → l.valid = false → ∃ t, exec (.tinEdge n rising) s = .next t ∧
        t.tsu.latches.get n.val = { l with valid := true, sec := s.tsu.sec, ns := BitVec.ofNat 32 s.tsu.ns } ∧
        tsuEvent t (if n.val = 4 then 9 else 7) = true ∧ OnlyTsu s t) ∧
      (selected = true → stable → l.valid = true → ∃ t, exec (.tinEdge n rising) s = .next t ∧
        t.tsu.latches.get n.val = { l with ovr := true } ∧ tsuEvent t 8 = true ∧ OnlyTsu s t) ∧
      (∃ t, exec (.captureRead n) s = .next t ∧ t.hif.readData = l.ns ∧
        t.tsu.latches.get n.val = { l with valid := false } ∧ t = { s with tsu := t.tsu, hif := t.hif })) ∧
    (∀ v : Word, v.getLsbD 0 = true →
      (snapOf s < soon → ∃ t, exec (.snapArm v) s = .next t ∧
        t.regB tsu4 R.TSU_SNAPCFG 0 = s.regB tsu4 R.TSU_SNAPCFG 0 ∧
        t.regB tsu4 R.TSU_SNAPCFG 4 = true ∧ tsuEvent t 4 = true ∧ t.tsu = s.tsu ∧ OnlyTsu s t) ∧
      (soon ≤ snapOf s → ∃ t, exec (.snapArm v) s = .next t ∧ t.regB tsu4 R.TSU_SNAPCFG 0 = true ∧
        t.tsu = { s.tsu with snapTime := snapOf s } ∧ OnlyTsu s t)) ∧
    (s.regB tsu4 R.TSU_SNAPCFG 0 = false ∨ now < s.tsu.snapTime → exec .snapCompareFire s = .next s) ∧
    (s.regB tsu4 R.TSU_SNAPCFG 0 = true → s.tsu.snapTime ≤ now → s.flt.lastTrigger = none →
      ∃ t, exec .snapCompareFire s = .next t ∧ t.regB tsu4 R.TSU_SNAPCFG 0 = false ∧ t.flt.lastTrigger = some s.time ∧
        (s.flt.shadow = none → (∃ b : Fin 4, s.regB flt4 R.FLT_SNAPSTAT b.val = false ∧
          s.regB flt4 R.FLT_SNAPSTAT (4 + b.val) = false) → t.flt.shadow.isSome = true)) ∧
    (∀ c : Fin 2,
      let w := s.reg tsu4 (R.TSU_RCLK + 4 * c.val)
      let up := fun p : Nat => s.laneOwner (fld w 0 8) = some p ∧ s.portState p = 7 ∧ (s.laneReg p R.PRT_PSTAT).getLsbD 8 = false
      (∀ p, w.getLsbD 24 = true → up p → s.muzzled 1 = false → s.rclkFast c.val = false →
        exec (.recoveredClockResume c) s = .next (s.setReg tsu4 (R.TSU_RCLK + 4 * c.val) (setBit w 25 false))) ∧
      (w.getLsbD 24 = false ∨ s.laneOwner (fld w 0 8) = none ∨ s.muzzled 1 = true ∨ s.rclkFast c.val = true →
        exec (.recoveredClockResume c) s = .next s))

/-! ### The keyed check engine and the command channel -/

namespace Sys2Proof.Spec

/-- A completion of a command, as it is queued to be written. -/
def cplOf (c : Cmd) (status : Nat) (result : List Byte) : Cpl :=
  { tag := c.tag, status := status, opcode := c.opcode, fn := c.fn, seq := c.seq, icv := c.icv, no := c.no, result := result,
    acc := true }

/-- A command that was already taken up completes. -/
def Ends (s t : State) (c : Cmd) (status : Nat) (result : List Byte) : Prop :=
  (t.fn c.fn).done = (s.fn c.fn).done ++ [cplOf c status result]

/-- The function of a command has not been reset since it was accepted, and holds no duplicate. -/
def Simple (s : State) (c : Cmd) : Prop := (s.fn c.fn).muted = [] ∧ (s.fn c.fn).dups = []

/-- A number in the payload of a command. -/
def pay (c : Cmd) (off n : Nat) : Nat := ofLe (slice c.payload off n)

/-- R451: the roles and algorithms of the key slots. -/
def slotFits (slot alg role : Nat) : Prop :=
  alg ≤ 3 ∧ ((slot < 256 ∧ role = 0 ∧ alg ≤ 1) ∨ (256 ≤ slot ∧ slot < 272 ∧ ((role = 1 ∧ alg ≤ 1) ∨ role = 3)) ∨
    (272 ≤ slot ∧ slot < 512 ∧ (role = 2 ∨ role = 3)))

/-- The engine is idle: nothing queued, waiting, suspended or in a core, and no reset. -/
structure EngineIdle (s : State) : Prop where
  queues : s.kce.urgent = [] ∧ s.kce.checks = [] ∧ s.kce.normal = [] ∧ s.kce.waiting = []
  cores : s.core 0 = none ∧ s.core 1 = none ∧ s.parked 0 = none ∧ s.parked 1 = none
  reset : s.inBlockReset kce4 = false

/-- The registers and windows of the command channel that a completion updates. -/
def OnlyKcc (s t : State) : Prop := t = { s with regs := t.regs, win := t.win, bad := t.bad, hif := t.hif, kce := t.kce }

/-- R455-R457: a bad wrap refuses the load, which else waits with its key. -/
def KeyWaits (s t : State) (c : Cmd) (k alg role : Nat) : Option (List Byte × List Byte) → Prop
  | none => Completes s t c 5 [] ∧ t.regB kce4 R.KCE_EVENT 1 = true
  | some (key, salt) =>
    t.slot k = { s.slot k with pendingLoad := some ⟨some (alg, role, key, salt), (pay c 8 1).testBit 0, c⟩ } ∧
    (t.fn c.fn).accepted = (s.fn c.fn).accepted.drop 1 ∧ (t.fn c.fn).done = (s.fn c.fn).done

/-- R449: the tag of a message under a slot: AES-CMAC, or GMAC with the salt and counter as nonce. -/
def tagOf (x : KeySlot) (counter m : List Byte) : List Byte :=
  if 2 ≤ x.alg then gmac x.key (x.salt ++ counter) m else cmac x.key m

/-- The bytes of host memory from an address on. -/
def hostBytes (t : State) (a n : Nat) : List (Option Byte) := (List.range n).map fun k => memGet t.hif.mem (a + k)

/-- R475, R478: the checks of a fetched command before its ICV is computed, in order: none refuses it, or the first status. -/
def fetchRefusal (s : State) (f : Nat) (b : List Byte) (c : Cmd) : Option Nat :=
  if 256 ≤ f ∨ c.fn ≠ f ∨ ofLe (slice b 6 2) ≠ f then some 20
  else if (s.slot f).loaded = false then some 2
  else if (s.slot f).role ≠ 0 then some 4
  else none

/-- R478: the checks of a command, of bytes 0-47 `b`, once the engine has computed its ICV, up to its acceptance. -/
def checkRefusal (s : State) (f : Nat) (b : List Byte) (c : Cmd) : Option Nat :=
  if (s.slot f).loaded = false then some 2
  else if cmac (s.slot f).key b ≠ c.icv then some 16
  else if c.seq ≤ (s.fn f).lastSeq then some 17
  else if (s.fn f).tags.any (fun e => e.2 = c.tag) then some 21
  else none

/-- A command of a function completes unaccepted with a status: what the function has accepted stays. -/
def Rejected (s t : State) (f : Nat) (c : Cmd) (status : Nat) : Prop :=
  (t.fn f).accepted = (s.fn f).accepted ∧ (t.fn f).lastSeq = (s.fn f).lastSeq ∧ (t.fn f).tags = (s.fn f).tags ∧
    ((t.fn f).done.map fun d => (d.status, d.tag)) = ((s.fn f).done.map fun d => (d.status, d.tag)) ++ [(status, c.tag)]

/-- A plain window: a write of an entry stores its fields and nothing else follows (R271, R415). -/
def PlainWindow (i : InstId) (w : Nat) : Prop := i.inst.val ≠ 15 ∧ (i.block = .egv ∨ (i.block = .rwr ∧ w ≠ 7))

end Sys2Proof.Spec

open Sys2Proof.Spec in
/-- R451, R454-R458, R482 (the model's readings: a tail of WRAPPED that P does not use is ignored, and BAD_ARG comes before
UNWRAP_FAIL, log entry 86; a KEY_LOAD of the PF with slot 0 empty is held unproved, log entry 87): a KEY_LOAD of a function none of
whose loads waits is refused for want of the root key, of a fitting slot, or of a good wrap, and else waits with
its key; with slot 0 empty, one whose blob names another slot ends with NO_KEY (R481); a waiting load or clearing takes effect
once no request of the slot is in the engine, RESET bringing the counter to 0 and its mark to 2^20; KEY_CLEAR waits likewise
and empties the slot. -/
def Obligations.KeysAreLoaded : Prop :=
  ∀ (s : State),
    (∀ (f : Fin 257) (c : Cmd) (b : List Byte), Accepted s f.val c 0x040 → s.inBlockReset kce4 = false → c.bare = false →
      s.loadsOf f.val = false →
      let k := ofLe (slice b 0 2)
      let alg := ofLe (slice b 2 1)
      let role := ofLe (slice b 3 1)
      let clean := slice b 4 4 = [0, 0, 0, 0] ∧ slice b 56 8 = List.replicate 8 0
      let root := s.regB kce4 R.KCE_STAT 0
      (∃ t, exec (.keyLoad f none) s = .next t ∧ Completes s t c (if root then 8 else 5) [] ∧ OnlyKcc s t) ∧
      ((s.slot k).pendingLoad = none →
      (root = false → ∃ t, exec (.keyLoad f (some b)) s = .next t ∧ Completes s t c 5 [] ∧ OnlyKcc s t) ∧
      (root = true → ¬ (slotFits k alg role ∧ clean) →
        ∃ t, exec (.keyLoad f (some b)) s = .next t ∧ Completes s t c 6 [] ∧ OnlyKcc s t) ∧
      (root = true → slotFits k alg role → clean → ∃ t, exec (.keyLoad f (some b)) s = .next t ∧ OnlyKcc s t ∧
        KeyWaits s t c k alg role (openBlob b)))) ∧
    (∀ (f : Fin 257) (c : Cmd) (clean : Bool) (b : List Byte), Quiet s → s.inBlockReset kce4 = false →
      s.loadsOf f.val = false → (s.fn f.val).unproved = some (c, clean) → (s.fn f.val).accepted = [] → s.regB kce4 R.KCE_STAT 0 = true →
      ofLe (slice b 0 2) ≠ 0 → (s.slot (ofLe (slice b 0 2))).pendingLoad = none →
      ∃ t, exec (.keyLoad f (some b)) s = .next t ∧ Rejected s t f.val c 2 ∧ (t.fn f.val).unproved = none ∧ OnlyKcc s t) ∧
    (∀ (f : Fin 257) (c : Cmd), Accepted s f.val c 0x041 → s.inBlockReset kce4 = false → s.loadsOf f.val = false →
      (s.slot (pay c 0 2)).pendingLoad = none → ∃ t, exec (.keyClear f) s = .next t ∧ OnlyKcc s t ∧
        t.slot (pay c 0 2) = { s.slot (pay c 0 2) with pendingLoad := some ⟨none, false, c⟩ }) ∧
    (∀ k : Fin 512, Quiet s →
      ((s.slot k.val).pendingLoad = none → exec (.keyLoadApply k) s = .next s) ∧
      (∀ l, (s.slot k.val).pendingLoad = some l → s.slotBusy k.val = true → exec (.keyLoadApply k) s = .next s) ∧
      (∀ l, (s.slot k.val).pendingLoad = some l → s.slotBusy k.val = false → Simple s l.cmd →
        (l.key = none → l.reset = false → ∃ t, exec (.keyLoadApply k) s = .next t ∧ Ends s t l.cmd 0 [] ∧ OnlyKcc s t ∧
          t.slot k.val = { s.slot k.val with
            loaded := false, alg := 0, role := 0, key := [], salt := [], pendingLoad := none }) ∧
        (∀ alg role key salt, l.key = some (alg, role, key, salt) → s.boot.vkeep = true →
          ∃ t, exec (.keyLoadApply k) s = .next t ∧ Ends s t l.cmd 0 [] ∧
          (let x := t.slot k.val
           x.loaded = true ∧ x.alg = alg ∧ x.role = role ∧ x.key = key ∧ x.salt = salt ∧ x.pendingLoad = none ∧
           (l.reset = true → x.counter = 0 ∧ x.exhausted = false ∧ t.mark k.val = 2 ^ 20) ∧
           (l.reset = false → x.counter = (s.slot k.val).counter ∧ t.knl = s.knl)))))

open Sys2Proof.Spec in
/-- R449, R452, R453, R459-R467: MAC_GEN takes the slot's counter, which then advances, as it is accepted by the engine (the model's
reading, log entry 85), and MAC_VERIFY enters the engine, unless
refused for the slot's key, role, counter or a full queue; a core that ends a generation writes the counter and the tag to
host memory, one that ends a verification answers match or mismatch; a parity error in key storage empties the slot;
suspended messages resume; a mark write keeps the counter's mark ahead, and what waited 50 µs for one ends with KENNEL. -/
def Obligations.TagsAreMadeAndChecked : Prop :=
  ∀ (s : State),
    (∀ (f : Fin 257) (c : Cmd) (msg : List Byte), Accepted s f.val c 0x042 → EngineIdle s → s.loadsOf f.val = false →
      let k := pay c 0 2
      let x := s.slot k
      let n := pay c 4 4
      let urgent := (pay c 2 1).testBit 0
      x.pendingLoad = none →
      (x.loaded = false → ∃ t, exec (.macGen f (some msg)) s = .next t ∧ Completes s t c 2 [] ∧ OnlyKcc s t) ∧
      (x.loaded = true → x.role < 2 ∨ (urgent = true ∧ x.role ≠ 2) →
        ∃ t, exec (.macGen f (some msg)) s = .next t ∧ Completes s t c 4 [] ∧ OnlyKcc s t) ∧
      (x.loaded = true → x.role = 2 → urgent = true → 512 < n →
        ∃ t, exec (.macGen f (some msg)) s = .next t ∧ Completes s t c 6 [] ∧ OnlyKcc s t) ∧
      (x.loaded = true → x.role = 2 → n ≤ 512 → s.counterLost k = false → x.exhausted = true ∨ x.counter = 2 ^ 64 - 1 →
        ∃ t, exec (.macGen f (some msg)) s = .next t ∧ Completes s t c 3 [] ∧ (t.slot k).exhausted = true ∧
          t.regB kce4 R.KCE_EVENT 2 = true ∧ OnlyKcc s t) ∧
      (x.loaded = true → x.role = 2 → n ≤ 512 → s.counterLost k = false → x.exhausted = false → x.counter < 2 ^ 64 - 1 →
        n ≤ msg.length → x.counter + 2 ^ 19 + 1 < s.mark k →
        ∃ t, exec (.macGen f (some msg)) s = .next t ∧ OnlyKcc s t ∧ t.slot k = { x with counter := x.counter + 1 } ∧
          t.core 0 = some { cmd := c, slot := k, urgent := urgent, msg := msg.take n, counter := x.counter,
                            result := pay c 16 8, since := s.time } ∧
          (t.fn f.val).accepted = (s.fn f.val).accepted.drop 1 ∧ (t.fn f.val).done = (s.fn f.val).done)) ∧
    (∀ (f : Fin 257) (c : Cmd) (msg : List Byte), Accepted s f.val c 0x043 → EngineIdle s → s.loadsOf f.val = false →
      let k := pay c 0 2
      let x := s.slot k
      let n := pay c 4 4
      let tag := pay c 3 1
      x.pendingLoad = none →
      (x.loaded = false → ∃ t, exec (.macVerify f (some msg)) s = .next t ∧ Completes s t c 2 [] ∧ OnlyKcc s t) ∧
      (x.loaded = true → x.role = 2 → n ≤ 512 → n + tag + (if 2 ≤ x.alg then 8 else 0) ≤ msg.length →
        ∃ t, exec (.macVerify f (some msg)) s = .next t ∧ OnlyKcc s t ∧ t.kce.slots = s.kce.slots ∧
          t.core 0 = some { cmd := c, slot := k, verify := true, urgent := (pay c 2 1).testBit 0, msg := msg.take n,
                            tagLen := tag, trailer := msg.drop n, since := s.time })) ∧
    (∀ (n : Fin 2) (r : KceReq), Quiet s → s.kce.urgent = [] → s.kce.checks = [] → s.kce.normal = [] →
      (∀ keyPar writable, s.core n.val = none → exec (.kceRequestComplete n keyPar writable) s = .next s) ∧
      (∀ writable, s.core n.val = some r → r.use = .mac → Simple s r.cmd → ReportOnly s 93 →
        ∃ t, exec (.kceRequestComplete n true writable) s = .next t ∧ Ends s t r.cmd 2 [] ∧ (t.slot r.slot).loaded = false ∧
          (t.slot r.slot).key = [] ∧ t.regB kce4 R.KCE_EVENT 3 = true ∧ t.latched 93 = true) ∧
      (∀ writable, s.core n.val = some r → r.use = .mac → (s.slot r.slot).loaded = true → Simple s r.cmd →
        let x := s.slot r.slot
        let m := if 2 ≤ x.alg then 8 else 0
        let good := (tagOf x (r.trailer.take m) r.msg).take r.tagLen = (r.trailer.drop m).take r.tagLen
        let tag := beBytes 8 r.counter ++ tagOf x (beBytes 8 r.counter) r.msg
        ∃ t, exec (.kceRequestComplete n false writable) s = .next t ∧ OnlyKcc s t ∧ t.core n.val = none ∧
          (r.verify = true → good → Ends s t r.cmd 0 []) ∧
          (r.verify = true → ¬ good → Ends s t r.cmd 1 [] ∧ t.regB kce4 R.KCE_EVENT 0 = true) ∧
          (r.verify = false → writable = false → Ends s t r.cmd 8 []) ∧
          (r.verify = false → writable = true → Ends s t r.cmd 0 (leBytes 8 r.counter) ∧
            hostBytes t r.result tag.length = tag.map some)) ∧
      (s.core n.val = none → s.inBlockReset kce4 = false → s.parked n.val = some r →
        ∃ t, exec (.messageResume n) s = .next t ∧ t.core n.val = some r ∧ t.parked n.val = none ∧
          t = { s with kce := t.kce }) ∧
      (s.core n.val ≠ none ∨ s.parked n.val = none → exec (.messageResume n) s = .next s)) ∧
    (∀ k : Fin 512, Quiet s →
      ((s.slot k.val).writing = none → exec (.kennelMarkWriteComplete k) s = .next s ∧
        exec (.kennelMarkTimeout k) s = .next s) ∧
      (∀ h, (s.slot k.val).writing = some h → h < 2 ^ 64 → s.boot.vkeep = true → s.kce.waiting = [] →
        ∃ t, exec (.kennelMarkWriteComplete k) s = .next t ∧ t.mark k.val = h ∧
          t.slot k.val = { s.slot k.val with writing := none } ∧ t = { s with knl := t.knl, kce := t.kce }) ∧
      (∀ r, ReportOnly s 94 → (s.slot k.val).writing.isSome = true → s.kce.waiting = [r] → r.slot = k.val → 256 ≤ k.val →
        Simple s r.cmd → ∃ t, exec (.kennelMarkTimeout k) s = .next t ∧ t.kce.waiting = [] ∧ Ends s t r.cmd 10 [] ∧
          t.latched 94 = true ∧ t.regB kce4 R.KCE_EVENT 6 = true) ∧
      (∀ c, (s.slot k.val).writing.isSome = true → s.kce.waiting = [] → k.val < 256 → (s.fn k.val).accepted = [c] →
        c.fn = k.val → s.mark k.val ≤ c.seq → Simple s c → ∃ t, exec (.kennelMarkTimeout k) s = .next t ∧
          (t.fn k.val).accepted = [] ∧ Ends s t c 10 [] ∧ OnlyKcc s t))

open Sys2Proof.Spec in
/-- R475-R481, R484 (that commands of equal SEQ are told apart by the number of their fetch, and that the PF's KEY_LOAD waits
unproved while slot 0 is empty, is the model's reading, log entry 87): the function whose turn it is has a command fetched
while its ring, the limits and its slot allow; the first of its checks that fails names its status; its ICV is checked by the
engine, and only a command that passes all is accepted, with its SEQ the last; a completion is written to its ring with PHASE
and an interrupt; batches open, hold commands, whose completions say STAGED, perform them in order and are discarded. -/
def Obligations.CommandsAreCheckedAndCompleted : Prop :=
  ∀ (s : State) (f : Fin 257), Quiet s →
    let x := s.fn f.val
    (∀ b : List Byte, s.fetchTurn ≠ some f.val → exec (.commandFetch f b) s = .next s) ∧
    (∀ b : List Byte, s.fetchTurn = some f.val → EngineIdle s →
      let c := { cmdOf b with no := s.hif.fetchNo }
      ∃ t, exec (.commandFetch f b) s = .next t ∧ OnlyKcc s t ∧ t.cmdHead f.val = (s.cmdHead f.val + 1) % s.cmdSize f.val ∧
        t.hif.kccRr = (f.val + 1) % 257 ∧
        (∀ st, fetchRefusal s f.val b c = some st → (st = 2 → c.opcode ≠ 0x040 ∨ f.val ≠ 0) → Rejected s t f.val c st) ∧
        (f.val = 0 → fetchRefusal s 0 b c = some 2 → c.opcode = 0x040 →
          (t.fn 0).unproved = some ({ c with bare := true }, decide (ofLe (slice b 3 1) < 32)) ∧ (t.fn 0).done = x.done) ∧
        (fetchRefusal s f.val b c = none → (t.fn f.val).accepted = x.accepted ∧ (t.fn f.val).done = x.done ∧
          t.core 0 = some { cmd := c, slot := f.val, use := .check (slice b 0 48) (decide (ofLe (slice b 3 1) < 32))
                            no := s.hif.fetchNo })) ∧
    (∀ (n : Fin 2) (r : KceReq) (b : List Byte) (clean writable : Bool), s.core n.val = some r → r.use = .check b clean →
      r.slot = f.val → r.cmd.fn = f.val → s.olderCheck r = false →
      s.kce.urgent = [] → s.kce.checks = [] → s.kce.normal = [] →
      let c := r.cmd
      ∃ t, exec (.kceRequestComplete n false writable) s = .next t ∧ OnlyKcc s t ∧ t.core n.val = none ∧
        (∀ st, checkRefusal s f.val b c = some st → (st = 17 → x.cache.all (fun e => e.seq ≠ c.seq) = true) →
          Rejected s t f.val c st) ∧
        (checkRefusal s f.val b c = none → (t.fn f.val).lastSeq = c.seq ∧
          (c.opcode = 0 → clean = true → (∀ k, k < 32 → pay c k 1 = 0) →
            (t.fn f.val).accepted = x.accepted ++ [c] ∧ (t.fn f.val).done = x.done ∧
            (t.fn f.val).tags = x.tags ++ [(c.no, c.tag)]) ∧
          (usedBytes c.opcode = none → Simple s c → (t.fn f.val).accepted = x.accepted ∧ Ends s t c 19 []))) ∧
    (s.inBlockReset hif4 = true ∨ s.kccFree f.val = 0 ∨ x.done = [] → exec (.commandCompletionWrite f) s = .next s) ∧
    (∀ c l, s.inBlockReset hif4 = false → s.kccFree f.val ≠ 0 → x.done = c :: l →
      let h := s.kccCplHead f.val
      let size := s.kccCplSize f.val
      let a := (s.ring f.val 4).toNat * 2 ^ 32 + (s.ring f.val 3).toNat + 32 * h
      ∃ t, exec (.commandCompletionWrite f) s = .next t ∧ OnlyKcc s t ∧ t.kccCplHead f.val = (h + 1) % size ∧
        (t.fn f.val).done = l ∧ (t.fn f.val).outstanding = x.outstanding - 1 ∧
        (t.fn f.val).phase = (if (h + 1) % size ≤ h then !x.phase else x.phase) ∧
        t.hif.msi = sentAfter s f.val (if f.val = 0 then 55 else 0) ∧
        hostBytes t (a + 2) 14 = (leBytes 2 c.status ++ leBytes 2 c.opcode ++ leBytes 2 c.fn ++ leBytes 8 c.seq).map some) ∧
    (∀ c, Accepted s f.val c 0 →
      (c.batch = false → ∃ t, exec (.kccNop f) s = .next t ∧ Completes s t c 0 [] ∧ OnlyKcc s t) ∧
      (c.batch = true → x.batch = false → ∃ t, exec (.kccNop f) s = .next t ∧ Completes s t c 24 [] ∧ OnlyKcc s t) ∧
      (c.batch = true → x.batch = true → x.held.length < 512 → ∃ t, exec (.kccNop f) s = .next t ∧ OnlyKcc s t ∧
        (t.fn f.val).held = x.held ++ [(c, [])] ∧ (t.fn f.val).accepted = x.accepted.drop 1 ∧
        (t.fn f.val).done = x.done ++ [{ cplOf c 0 [] with staged := true }] ∧ fld (t.ring f.val 7) 16 10 = x.held.length + 1)) ∧
    (∀ c, Accepted s f.val c 0x018 →
      (x.batch = false → ∃ t, exec (.batchOpen f) s = .next t ∧ Completes s t c 0 [] ∧ OnlyKcc s t ∧
        (t.fn f.val).batch = true ∧ (t.fn f.val).held = [] ∧ (t.ring f.val 7).getLsbD 10 = true) ∧
      (x.batch = true → ∃ t, exec (.batchOpen f) s = .next t ∧ Completes s t c 25 [] ∧ OnlyKcc s t)) ∧
    (∀ c, Accepted s f.val c 0x01A →
      (x.batch = false → ∃ t, exec (.batchAbort f) s = .next t ∧ Completes s t c 24 [] ∧ OnlyKcc s t) ∧
      (x.batch = true → ∃ t, exec (.batchAbort f) s = .next t ∧ Completes s t c 0 (leBytes 4 x.held.length) ∧
        OnlyKcc s t ∧ (t.fn f.val).batch = false ∧ (t.fn f.val).held = [])) ∧
    (∀ c, Accepted s f.val c 0x019 → x.held.all (fun e => e.1.opcode = 0) = true →
      (x.batch = false → ∃ t, exec (.batchCommit f) s = .next t ∧ Completes s t c 24 [] ∧ OnlyKcc s t) ∧
      (x.batch = true → ∃ t, exec (.batchCommit f) s = .next t ∧ OnlyKcc s t ∧ (t.fn f.val).batch = false ∧
        (t.fn f.val).held = [] ∧
        Completes s t c 0 (leBytes 4 x.held.length ++ leBytes 4 0 ++ leBytes 4 0xFFFFFFFF ++ leBytes 2 0)))

open Sys2Proof.Spec in
/-- R195, R483, R484, R485 (that a deep range beyond the pages ends with DMA_ERROR, and a write of a page that is not free
with BAD_ARG, is the model's reading, log entry 62): TBL_WRITE stores its entries and TBL_READ copies them to host memory; an
FWD_OP has the effect of the operation run in its slice; COMMIT_VERSION advances the version of every slice unless a bank
retires or a slice is stale; deep commands move the bytes at the places of their blocks (R309), of which a rank in MPSM keeps
none (the model's reading, log entry 61), and flash commands theirs; reserved bits of an edit list read 0 (the model's reading,
log entry 138); the tenant map takes an entry that gives no ring to two tenants. -/
def Obligations.CommandsMoveTables : Prop :=
  ∀ (s : State) (f : Fin 257), Quiet s →
    (∀ (c : Cmd) (i : InstId) (l : List Word), Accepted s f.val c 0x010 → f.val = 0 → c.batch = false →
      c.tblInst = some i → PlainWindow i (pay c 2 1) → Reached s i →
      let w := pay c 2 1
      let first := pay c 4 4
      let n := pay c 8 2
      (∃ t, exec (.tblWrite f none) s = .next t ∧ Completes s t c 8 [] ∧ OnlyKcc s t) ∧
      (∀ size m, winDim i w = some (size, m) → first + n ≤ size → l.length = n * m →
        (∃ t, exec (.tblWrite f (some l)) s = .next t ∧ Completes s t c 0 [] ∧ OnlyKcc s t ∧
          (∀ k j, k < n → j < m → t.ent i w (first + k) j = (s.ent i w (first + k) j &&& ~~~ winMaskAt i w (first + k) j) |||
            ((l[k * m + j]?).getD 0 &&& winMaskAt i w (first + k) j)) ∧
          ∀ e j, e < size → j < m → (e < first ∨ first + n ≤ e) → t.ent i w e j = s.ent i w e j))) ∧
    (∀ (c : Cmd) (i : InstId), Accepted s f.val c 0x011 → c.tblInst = some i → PlainWindow i (pay c 2 1) → Reached s i →
      let w := pay c 2 1
      let n := pay c 8 2
      (∃ t, exec (.tblRead f false) s = .next t ∧ Completes s t c 8 [] ∧ OnlyKcc s t) ∧
      (∀ size m, winDim i w = some (size, m) → ∃ t, exec (.tblRead f true) s = .next t ∧ Completes s t c 0 [] ∧
        OnlyKcc s t ∧ ∀ k, k < n → ∀ j, j < m →
          hostBytes t (pay c 16 8 + 4 * (k * m + j)) 4 = (leBytes 4 (s.ent i w (pay c 4 4 + k) j &&&
            if i.block = .rwr ∧ w = 0 then (if j = 0 then 0x07FFFFFF else 0x0FFFFFFF) else 0xFFFFFFFF).toNat).map some)) ∧
    (∀ (c : Cmd) (sl : Slice), Accepted s f.val c 0x012 → c.batch = false → pay c 1 1 = sl.val → s.fwdFree sl = true →
      let a := fun k => BitVec.ofNat 32 (pay c (4 + 4 * k) 4)
      let after := fun (o : Out) (t : State) => ∃ u, o = .next u ∧ ∃ v, exec (.fwdOpComplete sl) u = .next v ∧
        t.fwds = v.fwds ∧ t.asas = v.asas
      pay c 0 1 ∈ [1, 2, 5, 6] → ∃ t, exec (.fwdOp f) s = .next t ∧
        (pay c 0 1 = 1 → after (exec (.routeAdd4 sl (a 0) (a 1) (a 2)) s) t) ∧
        (pay c 0 1 = 2 → after (exec (.routeDel4 sl (a 0) (a 1)) s) t) ∧
        (pay c 0 1 = 5 → after (exec (.l2Insert sl (a 0) (a 1) (a 2) (a 3)) s) t) ∧
        (pay c 0 1 = 6 → after (exec (.l2Delete sl (a 0) (a 1)) s) t) ∧
        (t.fn f.val).accepted = (s.fn f.val).accepted.drop 1 ∧
        ((t.fn f.val).done.map fun d => (d.status, d.tag)) = ((s.fn f.val).done.map fun d => (d.status, d.tag)) ++ [(0, c.tag)]) ∧
    (∀ c, Accepted s f.val c 0x020 →
      let v := (s.version + 1) % 65536
      (s.retiring = true → ∃ t, exec (.commitVersion f) s = .next t ∧ Completes s t c 7 [] ∧ t.version = s.version) ∧
      (s.retiring = false → (∃ sl, s.regB (slInst .pcl sl) R.PCL_VSTAT 0 = true) →
        ∃ t, exec (.commitVersion f) s = .next t ∧ Completes s t c 22 [] ∧ OnlyKcc s t) ∧
      (s.retiring = false → (∀ sl, s.regB (slInst .pcl sl) R.PCL_VSTAT 0 = false) →
        ∃ t, exec (.commitVersion f) s = .next t ∧ Completes s t c 0 (leBytes 2 v) ∧
          ∀ sl, fld (t.reg (slInst .pcl sl) R.PCL_VERSION) 0 16 = v ∧
            (t.reg (slInst .pcl sl) R.PCL_VERSION).getLsbD 16 = decide (v % 2 = 1))) ∧
    (∀ (c : Cmd) (block : Fin 512) (dev : BitVec 5), Accepted s f.val c 0x060 → s.deepReady c = true → pay c 0 1 ≤ 3 →
      let n := pay c 12 4
      let place := fun k => s.deepKey (Fin.ofNat 4 (pay c 0 1)) (pay c 4 4 * 65536 + pay c 8 4 + k)
      (∀ writable, s.deepReachable c = false ∨ writable = false →
        ∃ t, exec (.deepRead f .clean block dev writable) s = .next t ∧ Completes s t c 8 [] ∧ t.hif.mem = s.hif.mem) ∧
      (s.deepReachable c = true → ∃ t, exec (.deepRead f .clean block dev true) s = .next t ∧
        Completes s t c 0 [] ∧ ∀ k p b, k < n → place k = some p → s.deepMem.get p = some b →
          memGet t.hif.mem (pay c 16 8 + k) = some b)) ∧
    (∀ (c : Cmd) (l : List Byte), Accepted s f.val c 0x061 → s.deepReady c = true → pay c 0 1 ≤ 3 → l.length = pay c 12 4 →
      let place := fun k => s.deepKey (Fin.ofNat 4 (pay c 0 1)) (pay c 4 4 * 65536 + pay c 8 4 + k)
      let free := s.pageWritable (Fin.ofNat 4 (pay c 0 1)) (pay c 4 4)
      (free = false → ∃ t, exec (.deepWrite f (some l)) s = .next t ∧ Completes s t c 6 [] ∧ t.deepMem = s.deepMem) ∧
      (free = true → s.deepReachable c = true → pay c 8 4 + pay c 12 4 ≤ 65536 →
        ∃ t, exec (.deepWrite f (some l)) s = .next t ∧ Completes s t c 0 [] ∧
          ∀ k p, k < l.length → place k = some p → s.placeLost p = false → t.deepMem.get p = l[k]?)) ∧
    (∀ (c : Cmd) (l : Option (List Byte)),
      (∀ writable, Accepted s f.val c 0x070 → s.hif.flashBusy = true →
        ∃ t, exec (.flashRead f l writable) s = .next t ∧ Completes s t c 7 [] ∧ OnlyKcc s t) ∧
      (∀ writable, Accepted s f.val c 0x070 → s.hif.flashBusy = false → ∃ t, exec (.flashRead f l writable) s = .next t ∧
        Completes s t c (if l.isNone || !writable then 8 else 0) [] ∧ OnlyKcc s t ∧ ∀ d, l = some d → writable = true → d.length = pay c 4 4 →
          hostBytes t (pay c 8 8) d.length = d.map some) ∧
      (Accepted s f.val c 0x071 → s.hif.flashBusy = false → ∃ t, exec (.flashWrite f l) s = .next t ∧
        Completes s t c (if l.isNone then 8 else 0) [] ∧ OnlyKcc s t) ∧
      (Accepted s f.val c 0x072 → s.hif.flashBusy = false → ∃ t, exec (.flashErase f) s = .next t ∧ Completes s t c 0 [] ∧
        OnlyKcc s t)) ∧
    (∀ (tid : Fin 256) (w : List Word), Reached s hif4 → w.length = 21 →
      let gives := fun k j => (w[17 + k]?.getD 0).getLsbD j
      let taken := ∃ other : Fin 256, other ≠ tid ∧ ∃ k : Fin 4, ∃ j : Fin 32,
        gives k.val j.val = true ∧ (s.ent hif4 0 other.val (17 + k.val)).getLsbD j.val = true
      s.win.wfD winResetAt = true → s.ringsClash = false →
      (taken → ∃ t, exec (.tenantMapWrite tid w) s = .next t ∧ t.regB hif4 R.HIF_EVENT 7 = true ∧
        t = { s with regs := t.regs, hif := hifAfter s t }) ∧
      (¬ taken → ∃ t, exec (.tenantMapWrite tid w) s = .next t ∧ t = { s with win := t.win, bad := t.bad } ∧
        ∀ k, k < 21 → t.ent hif4 0 tid.val k = (s.ent hif4 0 tid.val k &&& ~~~ winMaskAt hif4 0 tid.val k) |||
          newWord hif4 0 tid.val w k))

open Sys2Proof.Spec in
/-- R136-R139 (that a wrong parity of the slot at verification ends with code 7, and that IMGID changes on success, is the model's
reading, log entry 91): an image load first clears VERIFIED of the inactive bank, refuses an image by its first defect with nothing
written, and writes the sections of a good header in every slice; the CMAC under its key then decides: VERIFIED and the
image's number on success, code 3 on failure, code 7 where the slot's parity is wrong. -/
def Obligations.ImagesAreLoadedAndVerified : Prop :=
  ∀ (s : State) (f : Fin 257),
    let bank := s.regB (slInst .pup 0) R.PUP_CTRL 1
    let vbit := if bank then 1 else 2
    (∀ c, Accepted s f.val c 0x030 → s.hif.load = none → s.loadsOf f.val = false → s.inBlockReset kce4 = false → s.pupsReady = true →
      s.kceFull false = false → (pay c 12 1).testBit 0 = false →
      let code := fun (t : State) (n : Nat) => Completes s t c 23 [BitVec.ofNat 8 n] ∧
        ∀ sl, t.regF (slInst .pup sl) R.PUP_LDSTAT 0 4 = n
      (s.bankSplit = true → ∃ t, exec (.imageLoad f none) s = .next t ∧ code t 10) ∧
      (s.bankSplit = false → ∃ t, exec (.imageLoad f none) s = .next t ∧ code t 8 ∧
        ∀ sl, t.regB (slInst .pup sl) R.PUP_STAT vbit = false) ∧
      (∀ b : List Byte, s.bankSplit = false → (s.slot (ofLe (slice b 26 2))).pendingLoad = none →
        let img := slice b 0 (pay c 8 4)
        (∀ n, s.imgRefusal img (pay c 8 4) = some n → ∃ t, exec (.imageLoad f (some b)) s = .next t ∧ code t n ∧
          OnlyKcc s t) ∧
        (slice img 0 4 ≠ [0x5A, 0x58, 0x49, 0x31] → ∃ t, exec (.imageLoad f (some b)) s = .next t ∧ code t 1) ∧
        (s.imgRefusal img (pay c 8 4) = none → ∃ t, exec (.imageLoad f (some b)) s = .next t ∧
          (t.fn f.val).done = (s.fn f.val).done ∧
          (t.hif.load.map fun l => (l.image, l.cmd, l.imgId, l.keySlot)) =
            some (img, c, ofLe (slice img 8 4), ofLe (slice img 26 2)) ∧
          ∀ sl, t.regB (slInst .pup sl) R.PUP_STAT vbit = false ∧ t.regB (slInst .pup sl) R.PUP_STAT 3 = true ∧
            ∀ k, k < ofLe (slice img 18 2) → t.ent (slInst .pup sl) 0 (ofLe (slice img 16 2) + k) 0 =
              BitVec.ofNat 32 (ofLe (slice img (ofLe (slice img 32 4) + 4 * k) 4))))) ∧
    (∀ keyPar, Quiet s → s.hif.load = none ∨ s.imageCore = none → exec (.imageLoadVerify keyPar) s = .next s) ∧
    (∀ l, Quiet s → s.hif.load = some l → s.imageCore.isSome = true → s.inBlockReset kce4 = false → s.pupsReady = true →
      Simple s l.cmd → (s.slot l.keySlot).loaded = true →
      let n := l.image.length - 16
      let good := cmac (s.slot l.keySlot).key (l.image.take n) = l.image.drop n
      (good → ∃ t, exec (.imageLoadVerify false) s = .next t ∧ Ends s t l.cmd 0 [0] ∧ t.hif.load = none ∧
        (l.base = true → t.baseImg = l.imgId) ∧ ∀ sl, t.regB (slInst .pup sl) R.PUP_STAT (if l.bankB then 2 else 1) = true ∧
          t.regF (slInst .pup sl) R.PUP_LDSTAT 16 16 = l.imgId % 2 ^ 16 ∧ t.regB (slInst .pup sl) R.PUP_STAT 3 = false ∧
          (l.base = true → t.regB (slInst .pup sl) R.PUP_STAT 4 = true)) ∧
      (¬ good → ∃ t, exec (.imageLoadVerify false) s = .next t ∧ Ends s t l.cmd 23 [3] ∧ t.hif.load = none ∧
        t.regB kce4 R.KCE_EVENT 0 = true ∧ ∀ sl, t.regF (slInst .pup sl) R.PUP_LDSTAT 0 4 = 3) ∧
      (ReportOnly s 93 → ∃ t, exec (.imageLoadVerify true) s = .next t ∧ Ends s t l.cmd 23 [7] ∧ t.hif.load = none ∧
        (t.slot l.keySlot).loaded = false ∧ t.latched 93 = true))

/-! ### The host's link, the event FIFOs and the Kennel -/

namespace Sys2Proof.Spec

/-- A function's KCC ring is disabled and its indices are 0. -/
def RingOff (t : State) (f : Nat) : Prop :=
  (t.ent hif4 1 f 2).getLsbD 8 = false ∧ t.ent hif4 1 f 5 = 0 ∧ t.ent hif4 1 f 6 = 0

/-- R531: the highest link speed that the PCIE_MAX straps allow. -/
def speedLimit (s : State) : Nat := [5, 4, 3, 1].getD (fld (s.reg knl4 R.KNL_STRAP) 2 2) 0

/-- The Kennel's FLAGS (R545). -/
def flags (s : State) : Word := BitVec.ofNat 32 (s.knlNat 6 2)

/-- SEALED and S6HALT are cleared and the rest of the Kennel kept. -/
def Acknowledged (s t : State) : Prop :=
  (flags t).getLsbD 0 = false ∧ (flags t).getLsbD 1 = false ∧ (∀ k : Fin 14, (flags t).getLsbD (k.val + 2) = (flags s).getLsbD (k.val + 2)) ∧
  (∀ a, a ≠ 6 → a ≠ 7 → t.knl.store.get a = s.knl.store.get a) ∧ t.boot = s.boot ∧
  (s.boot.inReset = false → t = { s with regs := t.regs, knl := t.knl })

/-- An unchanged machine but for the Kennel and KNL_STAT, where no chip reset holds it. -/
def OnlyKnl (s t : State) : Prop :=
  t.pending = s.pending ∧ t.time = s.time ∧ (s.boot.inReset = false → t = { s with regs := t.regs, knl := t.knl, boot := t.boot })

/-- The command leaves the Kennel as given and nothing else changed, where no chip reset holds it. -/
def LeavesKnl (c : Instr) (s : State) (x : KnlSt) : Prop :=
  ∃ t, exec c s = .next t ∧ t.knl = x ∧ t.boot = s.boot ∧ t.pending = s.pending ∧ t.time = s.time ∧
    (s.boot.inReset = false → t = { s with knl := x })

end Sys2Proof.Spec

open Sys2Proof.Spec in
/-- R471-R473, R486, R531, R534, R537: a function-level reset discards the function's batch and completions and disables its ring;
loss of the link does so for every function in use and the link trains again; training starts after fuse load, ends with
the link's speed and width, and PERST_N holds it; a configuration request is answered with CRS until self-test is done, and
then with what the function has (the MSI-X control word: the model's reading, log entry 110), and with the link down not at all
(log entry 94). Pins are followed while they do not act (log entry 101). -/
def Sys2Proof.Spec.LinkAndFunctions : Prop :=
  (∀ (s : State), Calm s →
    let pin := fun (t : State) (low : Bool) => t.boot = { s.boot with perstLow := low } ∧ t.knl = s.knl ∧
      (s.boot.inReset = false → t = { s with boot := t.boot })
    (s.boot.vaon = false ∨ s.flt.sealed = true → ∃ t, exec .perstNAssert s = .next t ∧ pin t true) ∧
    ∃ t, exec .perstNRelease s = .next t ∧ pin t false) ∧
  ∀ (s : State), Quiet s →
    let up := s.regB hif4 R.HIF_STAT 7
    (∀ f : Fin 257, ∃ t, exec (.functionLevelReset f) s = .next t ∧ RingOff t f.val ∧ (t.fn f.val).done = [] ∧
      (t.fn f.val).dups = [] ∧ (t.fn f.val).batch = false ∧ (t.fn f.val).held = [] ∧
      (t.fn f.val).accepted = (s.fn f.val).accepted ∧ (t.fn f.val).cache = (s.fn f.val).cache ∧
      (t.fn f.val).lastSeq = (s.fn f.val).lastSeq ∧ (∀ g : Fin 257, g ≠ f → t.fn g.val = s.fn g.val) ∧
      ((s.fn f.val).batch = true → t.regB hif4 R.HIF_EVENT 3 = true)) ∧
    (up = false → exec .pcieLinkLoss s = .next s) ∧
    (up = true → ∃ t, exec .pcieLinkLoss s = .next t ∧ t.reg hif4 R.HIF_STAT = 0 ∧ t.regB hif4 R.HIF_EVENT 4 = true ∧
      t.hif.training = !s.boot.perstLow ∧
      ∀ f : Fin 257, RingOff t f.val ∧ (t.fn f.val).held = [] ∧ (t.fn f.val).done = []) ∧
    (let starts := s.regB knl4 R.KNL_BOOT 0 = true ∧ s.boot.perstLow = false ∧ up = false
     (starts → exec .ltssmStart s = .next { s with hif := { s.hif with training := true } }) ∧
     (¬ starts → exec .ltssmStart s = .next s)) ∧
    (∀ (speed : Fin 6) (width : Fin 9),
      let ok := s.hif.training = true ∧ s.boot.perstLow = false ∧ speed.val ≤ speedLimit s
      (ok → ∃ t, exec (.pcieLinkUp speed width) s = .next t ∧ t.regB hif4 R.HIF_STAT 7 = true ∧
        t.regF hif4 R.HIF_STAT 4 3 = speed.val ∧ t.regF hif4 R.HIF_STAT 0 4 = width.val ∧ t.hif.training = false ∧
        t = { s with regs := t.regs, hif := t.hif }) ∧
      (¬ ok → exec (.pcieLinkUp speed width) s = .next s)) ∧
    (s.boot.vaon = true → s.flt.sealed = false → ∃ t, exec .perstNAssert s = .next t ∧
      t.boot = { s.boot with perstLow := true } ∧ t.hif.training = false ∧
      t.regB hif4 R.HIF_STAT 7 = false ∧ (up = true → RingOff t 0)) ∧
    (∀ (f : Fin 257) (q : CfgReq),
      let tested := s.regB knl4 R.KNL_BOOT 1
      let answers := fun (q : CfgReq) (v : Nat) => exec (.configurationRequest f q) s =
        .next { s with hif := { s.hif with crs := false, cfgData := some v } }
      (up = false → exec (.configurationRequest f q) s = .next s) ∧
      (up = true → tested = false → exec (.configurationRequest f q) s =
        .next { s with hif := { s.hif with crs := true, cfgData := none } }) ∧
      (up = true → tested = true →
        (f.val = 0 → answers .totalVfs 256 ∧ answers .firstVfOffset 1 ∧ answers .vfStride 1) ∧
        answers (.barBytes 0) (if f.val = 0 then 2 ^ 28 else 2 ^ 16) ∧ answers (.bar64 0) 1 ∧ answers (.barPrefetch 0) 0 ∧
        (∀ n : Fin 6, n ≠ 0 → answers (.barBytes n) 0) ∧ answers .msixVectors (if f.val = 0 then 64 else 4) ∧
        (∀ en mask, ∃ t, exec (.configurationRequest f (.msixControl en mask)) s = .next t ∧
          t.hif.msixOn.get f.val = en ∧ t.hif.msixMask.get f.val = mask ∧ t = { s with hif := t.hif })))

open Sys2Proof.Spec in
/-- R490, R509: an item enters its FIFO whole, once as many of the 64 stages are free; a read of FDATA removes the head word,
and of an empty FIFO returns the last word read and sets UNDERRUN. -/
def Sys2Proof.Spec.EventFifos : Prop :=
  ∀ (s : State) (f : Fin 13),
    let x := s.hif.fifos.get f.val
    (Quiet s → x.waiting = [] → exec (.fifoItemPost f) s = .next s) ∧
    (∀ item rest, Quiet s → x.waiting = item :: rest →
      (64 < x.words.length + item.length → exec (.fifoItemPost f) s = .next s) ∧
      (x.words.length + item.length ≤ 64 → ∃ t, exec (.fifoItemPost f) s = .next t ∧
        ((t.hif.fifos.get f.val).words.map fun w => w.data) = x.words.map (fun w => w.data) ++ item ∧
        (t.hif.fifos.get f.val).waiting = rest ∧
        (x.words.all (fun w => !w.fin) = true → t.hif.msi = sentAfter s 0 (42 + f.val)) ∧
        t = { s with hif := { hifAfter s t with fifos := t.hif.fifos } })) ∧
    (∀ w rest, Reached s hif4 → x.words = w :: rest → ∃ t, exec (.fifoRead f) s = .next t ∧ t.hif.readData = w.data ∧
      t.hif.fifos.get f.val = { x with words := rest, last := w.data } ∧ t = { s with hif := t.hif }) ∧
    (Reached s hif4 → x.words = [] → ∃ t, exec (.fifoRead f) s = .next t ∧ t.hif.readData = x.last ∧
      t.regB hif4 (R.HIF_FSTAT + 8 * f.val) 30 = true ∧ t.regB hif4 R.HIF_EVENT 5 = true ∧
      t.hif.fifos = s.hif.fifos ∧ t = { s with regs := t.regs, hif := t.hif })

/-- The PCIe link and its functions; the event FIFOs: `LinkAndFunctions`, `EventFifos`. -/
def Obligations.LinkAndEventFifos : Prop :=
  Sys2Proof.Spec.LinkAndFunctions ∧
  Sys2Proof.Spec.EventFifos

open Sys2Proof.Spec in
/-- R443, R491, R544-R551: the two-wire interface reads the record store and the control page and writes the control page
alone; SETGO sets the count while VAON is absent; ACK clears SEALED and S6HALT; a failed crystal holds the count; the
Kennel is lost with VKEEP and initialised when it returns; VAON's removal and return are events. INTEN keeps its low 4
bits, and without VKEEP the interface answers NACK: the model's reading, log entry 104. A mark write in progress ends when
VAON is removed: log entry 127. -/
def Obligations.KennelKeeps : Prop :=
  ∀ (s : State), Calm s →
    let k := s.knl
    (∀ (p : Option (BitVec 16)) (n : Nat) (bytes : List Byte) (q : BitVec 16), s.boot.vkeep = false →
      LeavesKnl (.twoWireRead p n) s { k with nack := true, readBytes := [] } ∧
      LeavesKnl (.twoWireWrite q bytes) s { k with nack := true }) ∧
    (∀ (p : Option (BitVec 16)) (n : Nat), s.boot.vkeep = true →
      let a := (p.getD k.ptr).toNat
      (a + n ≤ 0x2000 → LeavesKnl (.twoWireRead p n) s { k with
        nack := false, ptr := BitVec.ofNat 16 (a + n), readBytes := (List.range n).map fun j => k.store.get (a + j) }) ∧
      (a = 0x2008 → n = 6 → LeavesKnl (.twoWireRead p n) s { k with
        nack := false, ptr := 0x200E, readBytes := leBytes 6 k.sec.toNat }) ∧
      (a = 0x2004 → n = 2 → LeavesKnl (.twoWireRead p n) s { k with
        nack := false, ptr := 0x2006, readBytes := [k.inten, k.intstat] })) ∧
    (∀ (p : BitVec 16) (b : Byte) (rest : List Byte), s.boot.vkeep = true →
      (p.toNat < 0x2000 ∨ 0x2100 ≤ p.toNat → LeavesKnl (.twoWireWrite p (b :: rest)) s { k with
        nack := true, ptr := p }) ∧
      LeavesKnl (.twoWireWrite 0x2004 [b]) s { k with nack := false, ptr := 0x2005, inten := b &&& 0x0F } ∧
      LeavesKnl (.twoWireWrite 0x2005 [b]) s { k with
        nack := false, ptr := 0x2006, intstat := k.intstat &&& ~~~ b } ∧
      (∀ v : BitVec 48, LeavesKnl (.twoWireWrite 0x2010 (leBytes 6 v.toNat)) s { k with
        nack := false, ptr := 0x2016, setsec := v })) ∧
    (∀ v : Byte,
      (v = 0xA5 → s.boot.vaon = false → s.boot.vkeep = true →
        LeavesKnl (.setgo v) s { k with sec := k.setsec, ticks := 0 }) ∧
      (v ≠ 0xA5 ∨ s.boot.vaon = true ∨ s.boot.vkeep = false → LeavesKnl (.setgo v) s k) ∧
      (v = 0x5A → s.boot.vkeep = true → ∃ t, exec (.kennelAck v) s = .next t ∧ Acknowledged s t) ∧
      (v ≠ 0x5A ∨ s.boot.vkeep = false → LeavesKnl (.kennelAck v) s k)) ∧
    (Reached s knl4 → ∀ v : Word,
      (v.getLsbD 0 = true → s.boot.vkeep = true → ∃ t, exec (.knlCtrlAck v) s = .next t ∧ Acknowledged s t) ∧
      (v.getLsbD 0 = false ∨ s.boot.vkeep = false → LeavesKnl (.knlCtrlAck v) s k)) ∧
    (s.boot.vkeep = true → k.stopped = false → ∃ t, exec .xtalFail s = .next t ∧ t.knl.stopped = true ∧
      t.regB knl4 R.KNL_STAT 3 = true ∧ t.knl.intstat.getLsbD 3 = true ∧ OnlyKnl s t) ∧
    (s.boot.vkeep = false ∨ k.stopped = true → LeavesKnl .xtalFail s k) ∧
    LeavesKnl .xtalReturn s { k with stopped := false } ∧
    (∃ t, exec .vkeepLoss s = .next t ∧ t.boot = { s.boot with vkeep := false } ∧ t.knl.store = {} ∧ t.knl.sec = 0 ∧
      t.knl.ticks = 0 ∧ OnlyKnl s t) ∧
    (let intact := s.boot.vkeep = true ∧ (List.range 4).map (fun j => k.store.get j) = [0x4B, 0x4E, 0x4C, 0x31]
     (intact → LeavesKnl .vkeepRise s k) ∧
     (¬ intact → ∃ t, exec .vkeepRise s = .next t ∧ t.boot = { s.boot with vkeep := true } ∧ t.knl.sec = 0 ∧
       t.knl.ticks = 0 ∧ (List.range 4).map (fun j => t.knl.store.get j) = [0x4B, 0x4E, 0x4C, 0x31] ∧
       (flags t).getLsbD 2 = true ∧ t.regB knl4 R.KNL_STAT 2 = true ∧ OnlyKnl s t)) ∧
    (∃ t, exec .vaonRemove s = .next t ∧ t.boot.vaon = false ∧ t.boot.inReset = true ∧ t.flt.sealed = false ∧
      t.flt.banks = {} ∧ t.knl.store = s.finishMarks.knl.store ∧
      (s.kce.slots.ents.all (fun e => e.2.writing.isNone) = true → t.knl.store = k.store) ∧
      t.knl.sec = k.sec ∧ t.reg flt4 R.FLT_STAT0 = 0 ∧
      (s.boot.vkeep = true → s.boot.vaon = true → t.knl.intstat.getLsbD 0 = true)) ∧
    (s.boot.vaon = true → LeavesKnl .vaonRise s k) ∧
    (s.boot.vaon = false → ∃ t, exec .vaonRise s = .next t ∧ t.boot = { s.boot with vaon := true } ∧
      (s.boot.vkeep = true → t.knl.intstat.getLsbD 1 = true) ∧ OnlyKnl s t)

/-! ### Faults, resets and start-up -/

namespace Sys2Proof.Spec

/-- R508: the double frees that a reset may uncover, and a context's failure, are only reported. -/
def DiscardsAreReported (s : State) : Prop := ∀ n : Slice, ReportOnly s (12 + n.val) ∧ ReportOnly s (56 + n.val)

/-- R516, R517: a block reset of an instance and group can be asked for. -/
def Resettable (s : State) (i : InstId) (g : Nat) : Prop :=
  i.present = true ∧ i.block ≠ .knl ∧ i.block ≠ .flt ∧ (i.block = .egv → i.inst.val < 4) ∧ g ≠ 13 ∧ g ≠ 14 ∧
  (g ≤ 12 → i.block = .pup) ∧ ∀ r ∈ s.flt.resets ++ s.flt.waiting, ¬ (r.target = instIndex i ∧ r.group = g)

/-- The clocks of an instance run: it stands in an awake slice, or in none (R517). -/
def Clocked (s : State) (i : InstId) : Prop := 4 ≤ i.inst.val ∨ s.awake (Fin.ofNat 4 i.inst.val) = true

/-- R514: a source whose reaction is Muzzle is latched. -/
def MuzzlerHolds (s : State) : Prop := ∃ k : Fin 96, isLatched s k.val = true ∧ (s.srcCfg k.val).getLsbD 7 = true

/-- R513: no port is guarded, none is enabled, and the clocks are not in SCOPE. -/
def NothingMuzzled (s : State) : Prop :=
  (∀ p : Port, (s.laneReg p.val R.PRT_PCFG).getLsbD 11 = false ∧ (s.laneReg p.val R.PRT_PCFG).getLsbD 0 = false ∧
    (s.laneReg p.val R.PRT_PSTAT).getLsbD 11 = false)

/-- R520-R524: a trigger fires: the lowest free bank begins a copy, with the time and the cause. -/
structure Fires (s t : State) (cause : Nat) (b : Nat) : Prop where
  time : t.flt.lastTrigger = some s.time
  copy : (t.flt.shadow.map Prod.fst) = some b
  stat : t.regB flt4 R.FLT_SNAPSTAT (4 + b) = true ∧ t.regB flt4 R.FLT_SNAPSTAT b = false
  stamp : (t.reg flt4 (R.FLT_SNAPBSLO + 16 * b)).toNat = s.tsu.sec.toNat % 2 ^ 32 ∧
    t.regF flt4 (R.FLT_SNAPBSHI + 16 * b) 0 16 = s.tsu.sec.toNat / 2 ^ 32 ∧
    t.regF flt4 (R.FLT_SNAPBNS + 16 * b) 0 30 = s.tsu.ns % 2 ^ 30
  cause : t.regF flt4 (R.FLT_SNAPBCAUSE + 16 * b) 0 3 = cause

/-- R524: no earlier trigger lies within 1 µs. -/
def Apart (s : State) : Prop := ∀ n, s.flt.lastTrigger = some n → n + 1000 < s.time

/-- R516, R517: the end of the one block reset in progress, of an instance and group. -/
structure Ended (s t : State) (i : InstId) (g : Nat) : Prop where
  gone : t.flt = { s.flt with resets := [] }
  busy : t.regB flt4 R.FLT_BRST 21 = s.flt.waiting.any (·.asked)
  last : t.reg flt4 R.FLT_LASTRST = BitVec.ofNat 32 (g * 8192 + instIndex i)
  count : (t.reg flt4 R.FLT_RSTCNT).toNat = min ((s.reg flt4 R.FLT_RSTCNT).toNat + 1) (2 ^ 32 - 1)

/-- Bank `b` is the lowest of the free ones. -/
def LowestFree (s : State) (b : Fin 4) : Prop :=
  (∀ k : Fin 4, k < b → s.regB flt4 R.FLT_SNAPSTAT k.val = true ∨ s.regB flt4 R.FLT_SNAPSTAT (4 + k.val) = true) ∧
  s.regB flt4 R.FLT_SNAPSTAT b.val = false ∧ s.regB flt4 R.FLT_SNAPSTAT (4 + b.val) = false

/-- The pins of reset act (R503, R534). -/
def PinsAct (s : State) : Prop := s.boot.vaon = true ∧ s.flt.sealed = false

/-- R535, R536: nothing holds the device in chip reset. -/
def Released (s : State) : Prop :=
  PinsAct s ∧ s.boot.porstLow = false ∧ s.boot.sysrstLow = false ∧ s.gov.s6Held = false ∧ s.gov.t115Held = false

/-- R492: the item that entry `k` of the flash's directory names. -/
def flashItem (flash : List Byte) (k : Nat) : List Byte :=
  slice flash (ofLe (slice flash (20 + 16 * k) 4)) (ofLe (slice flash (24 + 16 * k) 4))

/-- R492: entry `k` of the directory lists the DDR5 training item, and its CRC-32 (of the FCS: the model's reading, log
entry 115) is good. -/
def ListsTraining (flash : List Byte) (k : Nat) : Prop :=
  slice flash 0 4 = [0x4B, 0x53, 0x46, 0x31] ∧ k < ofLe (slice flash 4 2) ∧ ofLe (slice flash (16 + 16 * k) 4) = 3 ∧
    fcsOf (flashItem flash k) = slice flash (28 + 16 * k) 4

end Sys2Proof.Spec

open Sys2Proof.Spec in
/-- R504-R512, R501-R503: a detection latches its source, is counted, is the first fault if none was latched, posts its item
and its vectors; INT_N, ERR_N and Muzzle follow where configured; class 2 resets the source's block, class 3 the chip, and
class 4 seals the device, in a chip reset and a Sealed hold too; in those only the sources of the governor and the collector
are heard, and those of a slice that failed self-test never are (the model's reading, log entry 28). A source detected again
takes its reactions again (the model's reading, log entry 96), and a lasting condition is detected again. -/
def Obligations.FaultsAreDetected : Prop :=
  ∀ (s : State) (src : Fin 96) (g : Fin 16), Calm s → s.boot.vaon = true →
    let cfg := s.srcCfg src.val
    (¬ Heard s src.val → ∃ t, exec (.faultDetect src g) s = .next t ∧ t.flt = s.flt ∧ t.knl = s.knl ∧ t.boot = s.boot ∧
      t.gov = s.gov ∧ ∀ off, off < 4096 → t.reg flt4 off = s.reg flt4 off) ∧
    (ReportOnly s src.val → ∃ t, exec (.faultDetect src g) s = .next t ∧ isLatched t src.val = true ∧
      (∀ k : Fin 96, k ≠ src → isLatched t k.val = isLatched s k.val) ∧
      t.reg flt4 R.FLT_FIRST = (if (∀ k : Fin 96, isLatched s k.val = false) ∧ (s.reg flt4 R.FLT_FIRST).getLsbD 7 = false
        then BitVec.ofNat 32 (128 + src.val) else s.reg flt4 R.FLT_FIRST) ∧
      (t.ent flt4 5 src.val 0).toNat = min ((s.ent flt4 5 src.val 0).toNat + 1) (2 ^ 32 - 1) ∧
      (isLatched s src.val = true → t.hif.fifos = s.hif.fifos) ∧
      (isLatched s src.val = false → (s.hif.fifos.get 12).words.length ≤ 62 →
        ((t.hif.fifos.get 12).words.map (·.data)) = (s.hif.fifos.get 12).words.map (·.data) ++
          [BitVec.ofNat 32 (src.val + 128 * faultClass s src.val + if s.flt.missed then 1024 else 0), BitVec.ofNat 32 s.tsu.ns] ∧
        t.flt.missed = false) ∧
      (isLatched s src.val = false → 62 < (s.hif.fifos.get 12).words.length → t.hif.fifos = s.hif.fifos ∧ t.flt.missed = true) ∧
      (cfg.getLsbD 4 = true → isLatched s src.val = false → s.hif.msixOn.get 0 = true → s.vectorOpen 0 0 = true →
        (0, 0) ∈ t.hif.msi) ∧
      (cfg.getLsbD 4 = true → s.regB flt4 R.FLT_CTRL 0 = true → t.intN = true) ∧
      (cfg.getLsbD 5 = true → t.regB flt4 R.FLT_NMI 0 = true ∧ t.nmiN = true ∧
        (isLatched s src.val = false ∨ s.regB flt4 R.FLT_NMI 0 = false → s.hif.msixOn.get 0 = true → (0, 63) ∈ t.hif.msi)) ∧
      t = { s with regs := t.regs, win := t.win, bad := t.bad, hif := t.hif, flt := { s.flt with missed := t.flt.missed } }) ∧
    (Heard s src.val → faultClass s src.val ≤ 1 → cfg.getLsbD 8 = false →
      ∃ t, exec (.faultDetect src g) s = .next t ∧ isLatched t src.val = true ∧
        (cfg.getLsbD 6 = true → t.flt.bark = true ∧ t.regB flt4 R.FLT_ERRPIN 1 = true) ∧
        (cfg.getLsbD 7 = true → DiscardsAreReported s → t.regB flt4 R.FLT_MUZZLE 0 = true)) ∧
    (∀ i, Heard s src.val → faultClass s src.val = 2 → Unpinned s src.val → DiscardsAreReported s → s.boot.inReset = false →
      resetTarget src.val = some i → Clocked s i → Resettable s i (if src.val / 4 = 1 then g.val else 15) →
      ∃ t, exec (.faultDetect src g) s = .next t ∧ isLatched t src.val = true ∧
        t.flt.resets = s.flt.resets ++ [⟨instIndex i, if src.val / 4 = 1 then g.val else 15, false⟩]) ∧
    (Heard s src.val → faultClass s src.val = 3 → NoSnapshot s src.val → ∃ t, exec (.faultDetect src g) s = .next t ∧
      isLatched t src.val = true ∧ ChipReset s t (if src.val = 88 then 4 else 3) pinRegs ∧ t.flt.sealed = s.flt.sealed ∧
      (cfg.getLsbD 7 = true → t.regB flt4 R.FLT_MUZZLE 0 = true)) ∧
    (src.val ∈ [89, 92, 95] → Heard s src.val → faultClass s src.val = 4 → fld cfg 4 4 = 15 →
      ∃ t, exec (.faultDetect src g) s = .next t ∧ isLatched t src.val = true ∧ t.flt.sealed = true ∧
        t.boot.inReset = true ∧ t.regF knl4 R.KNL_BOOT 8 4 = 3 ∧ t.errN = true ∧ t.nmiN = true ∧
        t.regB flt4 R.FLT_MUZZLE 0 = true ∧ t.flt.thermtrip = (s.flt.thermtrip || decide (src.val = 89)) ∧
        (s.boot.vkeep = true → (flags t).getLsbD 0 = true ∧
          t.knlNat 0x0C 4 = (s.knlNat 0x0C 4 + 1) % 2 ^ 32 ∧ t.knlNat 0x10 4 = (s.knlNat 0x10 4 + 1) % 2 ^ 32) ∧
        (NoSnapshot s src.val → ChipReset s t 3 pinRegs)) ∧
    (let lasts := (src.val = 88 ∧ s.flt.t115 = true) ∨ (src.val = 87 ∧ s.hot = true) ∨
       (src.val = 85 ∧ ∃ n : Slice, avsFailed s n = true) ∨ (src.val = 91 ∧ s.links.ents.any (fun e => e.2.dead) = true) ∨
       (src.val / 4 = 19 ∧ ∃ j : Fin 4, s.chF (src.val % 4 * 4 + j.val) R.DTC_REFSTAT 8 8 ≠ 0)
     s.boot.inReset = false →
     (lasts → ∃ t, exec (.conditionRedetect src) s = .next t ∧ exec (.faultDetect src 15) s = .next t ∧
       (ReportOnly s src.val → isLatched t src.val = true)) ∧
     (¬ lasts → exec (.conditionRedetect src) s = .next s)) ∧
    (s.boot.inReset = false → s.flt.bark = false → exec .barkPulseEnd s = .next s) ∧
    (s.flt.bark = true → ∃ t, exec .barkPulseEnd s = .next t ∧ t.flt = { s.flt with bark := false } ∧
      t.regB flt4 R.FLT_ERRPIN 1 = s.regB flt4 R.FLT_ERRPIN 0 ∧
      (s.boot.inReset = false → t = { s with regs := t.regs, flt := t.flt }))

open Sys2Proof.Spec in
/-- R505: a read of FLT_STAT0 copies FLT_STAT1 and FLT_STAT2 into a frozen copy, which reads of those two return until
FLT_STAT2 has been read; a detection during the freeze latches the live bit, and a write acts on the live bits. -/
def Obligations.StatusWordsFreeze : Prop :=
  ∀ (s : State), Reached s flt4 →
    let live := fun k : Nat => s.reg flt4 (4 * k)
    let reads := fun (v : Word) (frozen : Option (Word × Word)) =>
      { s with flt := { s.flt with frozen := frozen }, hif := { s.hif with readData := v } }
    exec .statusFreezeRead s = .next (reads (live 0) (some (live 1, live 2))) ∧
    (∀ a b, s.flt.frozen = some (a, b) →
      exec (.registerRead 0 (addrOf flt4 R.FLT_STAT1)) s = .next (reads a (some (a, b))) ∧
      exec .statusThawRead s = .next (reads b none)) ∧
    (s.flt.frozen = none →
      exec (.registerRead 0 (addrOf flt4 R.FLT_STAT1)) s = .next (reads (live 1) none) ∧
      exec .statusThawRead s = .next (reads (live 2) none)) ∧
    (∀ src : Fin 96, ReportOnly s src.val → ∃ t, exec (.faultDetect src 15) s = .next t ∧ isLatched t src.val = true ∧
      t.flt.frozen = s.flt.frozen) ∧
    (∀ (k : Fin 3) (v : Word), exec (.registerWrite 0 (addrOf flt4 (4 * k.val)) v) s =
      .next (s.setReg flt4 (4 * k.val) (live k.val &&& ~~~v)))

open Sys2Proof.Spec in
/-- R75, R513, R514: FORCE muzzles; RELEASE is refused while a muzzling source is latched, and else ends Muzzle and clears
ALLPORTS; of one write RELEASE acts before FORCE (the model's reading, log entry 98). A guarded port under SCOPE comes under
Muzzle, and every enabled one under ALLPORTS, and stays there until the release: it leaves LPI, and drops and counts what its
MAC holds. -/
def Sys2Proof.Spec.MuzzleIsForcedAndReleased : Prop :=
  ∀ (s : State), Reached s flt4 →
    (∀ v : Word, NothingMuzzled s →
      (v.getLsbD 3 = true → ∃ t, exec (.muzzleForce v) s = .next t ∧ t.regB flt4 R.FLT_MUZZLE 0 = true ∧ t.ports = s.ports ∧
        (v.getLsbD 5 = true → ∀ c : Fin 2, (t.reg tsu4 (R.TSU_RCLK + 4 * c.val)).getLsbD 25 = true)) ∧
      (v.getLsbD 1 = true → v.getLsbD 3 = false → MuzzlerHolds s → ∃ t, exec (.muzzleRelease v) s = .next t ∧
        t.regB flt4 R.FLT_MUZZLE 2 = true ∧ t.regB flt4 R.FLT_MUZZLE 0 = s.regB flt4 R.FLT_MUZZLE 0) ∧
      (v.getLsbD 1 = true → v.getLsbD 3 = false → ¬ MuzzlerHolds s → ∃ t, exec (.muzzleRelease v) s = .next t ∧
        t.regB flt4 R.FLT_MUZZLE 0 = false ∧ t.regB flt4 R.FLT_MUZZLE 7 = false ∧
        t = { s with regs := t.regs })) ∧
    (∀ v : Word, DiscardsAreReported s →
      let freed := v.getLsbD 1 = true ∧ ¬ MuzzlerHolds s
      let on := v.getLsbD 3 = true ∨ (s.regB flt4 R.FLT_MUZZLE 0 = true ∧ ¬ freed)
      let all := s.regB flt4 R.FLT_MUZZLE 7 = true ∧ ¬ freed
      let under := fun p : Port => on ∧ ((v.getLsbD 6 = true ∧ (s.laneReg p.val R.PRT_PCFG).getLsbD 11 = true) ∨
        (all ∧ (s.laneReg p.val R.PRT_PCFG).getLsbD 0 = true))
      let was := fun p : Port => (s.laneReg p.val R.PRT_PSTAT).getLsbD 11 = true ∧ ¬ freed
      ∃ t, exec (.muzzleForce v) s = .next t ∧ exec (.muzzleRelease v) s = .next t ∧
        (t.regB flt4 R.FLT_MUZZLE 0 = true ↔ on) ∧ (t.regB flt4 R.FLT_MUZZLE 7 = true ↔ all) ∧
        t.regF flt4 R.FLT_MUZZLE 4 3 = fld v 4 3 ∧
        (on → v.getLsbD 5 = true → ∀ c : Fin 2, (t.reg tsu4 (R.TSU_RCLK + 4 * c.val)).getLsbD 25 = true) ∧
        ∀ p : Port, ((t.laneReg p.val R.PRT_PSTAT).getLsbD 11 = true ↔ under p ∨ was p) ∧
          (under p → ¬ was p → (t.port p.val).mac = [] ∧ (t.port p.val).tx = none ∧
            (t.laneReg p.val R.PRT_PSTAT).getLsbD 9 = false ∧
            (t.macReg p.val R.PRT_TXDROP).toNat = min ((s.macReg p.val R.PRT_TXDROP).toNat + (s.port p.val).mac.length +
              (s.port p.val).tx.toList.length) (2 ^ 32 - 1)) ∧
          (¬ under p ∨ was p → t.port p.val = s.port p.val))

open Sys2Proof.Spec in
/-- R126, R286, R322, R417, R516, R517, R533, R535: GO starts a block reset of its target, which waits for a sleeping slice,
or is refused where one of the same instance and group runs (the model's reading, log entry 97); when it ends the reset is
counted and named (log entry 97): a pup group takes packets again, the stores of a PUP have been verified, every damaged word
repaired (the model's reading, log entry 134), the links of the fabric are up, but for those of a slice that failed self-test
(the model's reading, log entry 58), the ranks of a DTC in use or in training leave self-refresh, and a governor's slice has
one TOKRATE in its bucket; 0xC5 starts a chip reset and no other value does; in another chip reset it is not held, and the two
are one reset (the model's reading, log entry 100). -/
def Obligations.ResetsAreAskedFor : Prop :=
  (∀ (s : State) (v : Word), Calm s → s.boot.vaon = true → s.flt.sealed = false → s.ctlRuns = false → fld v 0 8 = 0xC5 →
    ∃ t, exec (.chipResetRequest v) s = .next t ∧ ChipReset s t 2 [] ∧ t.held = s.held ∧
      t.boot.fullStart = s.boot.fullStart) ∧
  ∀ (s : State), Reached s flt4 →
    (∀ (v : Word) (i : InstId), instOfIndex (fld v 0 13) = some i →
      let g := fld v 13 4
      (v.getLsbD 20 = false → ∃ t, exec (.blockResetRequest v) s = .next t ∧ t.flt = s.flt ∧ t = { s with regs := t.regs }) ∧
      (v.getLsbD 20 = true → ¬ Resettable s i g → ∃ t, exec (.blockResetRequest v) s = .next t ∧
        t.regB flt4 R.FLT_BRST 22 = true ∧ t.flt = s.flt ∧ t = { s with regs := t.regs }) ∧
      (v.getLsbD 20 = true → Resettable s i g → Clocked s i → DiscardsAreReported s →
        ∃ t, exec (.blockResetRequest v) s = .next t ∧ t.regB flt4 R.FLT_BRST 21 = true ∧
          t.flt.resets = s.flt.resets ++ [⟨instIndex i, g, true⟩]) ∧
      (v.getLsbD 20 = true → Resettable s i g → ¬ Clocked s i → ∃ t, exec (.blockResetRequest v) s = .next t ∧
        t.regB flt4 R.FLT_BRST 21 = true ∧ t.flt = { s.flt with waiting := s.flt.waiting ++ [⟨instIndex i, g, true⟩] } ∧
        (t.reg (slInst .egv (Fin.ofNat 4 i.inst.val)) R.EGV_SSTAT).getLsbD 10 = true)) ∧
    (∀ v : Word, instOfIndex (fld v 0 13) = none → v.getLsbD 20 = true → ∃ t, exec (.blockResetRequest v) s = .next t ∧
      t.regB flt4 R.FLT_BRST 22 = true ∧ t = { s with regs := t.regs }) ∧
    (∀ (n : BitVec 13) (i : InstId) (g : Fin 16), instOfIndex n.toNat = some i →
      (s.flt.resets.all (fun r => r.target ≠ instIndex i) = true → exec (.blockResetEnd n g) s = .next s) ∧
      (∀ asked, i.present = true → i.block ∈ [.asa, .tsu, .kce, .hif, .rwr] → s.held = [] → s.flt.resets = [⟨instIndex i, 15, asked⟩] →
        ∃ t, exec (.blockResetEnd n 15) s = .next t ∧ Ended s t i 15 ∧ t = { s with regs := t.regs, flt := t.flt })) ∧
    (∀ (b : Block) (sl : Slice) (g : Fin 16) (asked : Bool),
      let i := slInst b sl
      let n : BitVec 13 := BitVec.ofNat 13 (instIndex i)
      let ends := fun t : State => exec (.blockResetEnd n g) s = .next t ∧ Ended s t i g.val
      b.sliced = true → s.held = [] → s.flt.resets = [⟨instIndex i, g.val, asked⟩] →
      (b ∈ [.prt, .bpm, .tmg, .swc] → g = 15 → ∃ t, ends t ∧ t = { s with regs := t.regs, flt := t.flt }) ∧
      (b = .fwd → g = 15 → (s.fwd sl).queue = [] → ∃ t, ends t ∧ t = { s with regs := t.regs, flt := t.flt }) ∧
      (b = .pcl → g = 15 → s.retiring = false → ∃ t, ends t ∧ t = { s with regs := t.regs, flt := t.flt }) ∧
      (b = .pup → g.val < 13 → ∃ t, ends t ∧ (t.pup sl).groupReset = (s.pup sl).groupReset.filter (· ≠ g.val) ∧
        t = { s with regs := t.regs, flt := t.flt, pups := t.pups }) ∧
      (b = .pup → g = 15 → s.bad.wf = true →
        (∀ (w : Fin 2) (e : Nat), s.badEntry i w.val e = true → s.badEntry (slInst .pup (sl + 1)) w.val e = false) →
        ∃ t, ends t ∧ t = { s with regs := t.regs, flt := t.flt, win := t.win, bad := t.bad } ∧
          ∀ (w : Fin 2) (e : Nat), e < (if w = 0 then 16384 else 4096) → t.badEntry i w.val e = false ∧
            t.entry i w.val e = s.entry (if s.badEntry i w.val e = true then slInst .pup (sl + 1) else i) w.val e) ∧
      (b = .dtc → g = 15 → s.failed sl = false → ∃ t, ends t ∧ t = { s with regs := t.regs, flt := t.flt } ∧
        ∀ j : Fin 4, let c := 4 * sl.val + j.val
          ∀ r ∈ s.ranksOf c, t.rankPwr c r = if s.chF c R.DTC_CSTAT 0 3 ∈ [1, 3] ∧ s.rankPwr c r = 1 then 0 else s.rankPwr c r) ∧
      (b = .egv → g = 15 → ∃ t, ends t ∧ t = { s with regs := t.regs, flt := t.flt, egvs := t.egvs } ∧
        avsFailed t sl = false ∧ (t.egv sl).bucket = (1024 * s.regF i R.EGV_TOKRATE 0 24 : Nat) ∧
        capField t sl = capOf t sl)) ∧
    (∀ asked, s.held = [] → s.flt.resets = [⟨instIndex swc4, 15, asked⟩] →
      ∃ t, exec (.blockResetEnd (BitVec.ofNat 13 (instIndex swc4)) 15) s = .next t ∧ Ended s t swc4 15 ∧
        t = { s with regs := t.regs, flt := t.flt } ∧
        ∀ a b : Slice, t.regB swc4 R.SWC_FABSTAT (4 * a.val + b.val) =
          (decide (a ≠ b) && !bootBit s (12 + a.val) && !bootBit s (12 + b.val))) ∧
    (∀ v : Word, (fld v 0 8 ≠ 0xC5 → exec (.chipResetRequest v) s = .next s) ∧
      (fld v 0 8 = 0xC5 → ∃ t, exec (.chipResetRequest v) s = .next t ∧ ChipReset s t 2 []))

open Sys2Proof.Spec in
/-- R520-R526: FIRE and SNAP_IN fire the common trigger, which takes the lowest free bank with the time and the cause, is
counted as missed with a copy under way, and with none free too unless SNAP_WRAP gives it the oldest, and merges within 1 µs of
another; SNAP_OUT falls; a complete copy is VALID, and a chip reset that waited begins; a bank that no copy uses is freed, and one
under copy is not (the model's reading, log entry 99). -/
def Sys2Proof.Spec.SnapshotsAreTaken : Prop :=
  ∀ (s : State), Reached s flt4 →
    let inEn := s.regB flt4 R.FLT_SNAPCFG 0
    (∀ v : Word,
      (v.getLsbD 0 = false ∨ ¬ Apart s → exec (.snapFireWrite v) s = .next s) ∧
      (v.getLsbD 0 = true → Apart s → s.flt.shadow.isSome = true →
        ∃ t, exec (.snapFireWrite v) s = .next t ∧
          t.flt = { s.flt with lastTrigger := some s.time, lastMissed := true, snapOut := true } ∧
          t.reg flt4 R.FLT_SNAPMISS = (s.count flt4 R.FLT_SNAPMISS).reg flt4 R.FLT_SNAPMISS) ∧
      (∀ b : Fin 4, v.getLsbD 0 = true → Apart s → s.flt.shadow = none → LowestFree s b →
        ∃ t, exec (.snapFireWrite v) s = .next t ∧ Fires s t 3 b.val ∧ t.flt.snapOut = true) ∧
      (v.getLsbD 0 = true → Apart s → s.flt.shadow = none → (∀ b : Fin 4, ¬ LowestFree s b) →
        (s.regB flt4 R.FLT_CTRL 2 = false → ∃ t, exec (.snapFireWrite v) s = .next t ∧
          t.flt = { s.flt with lastTrigger := some s.time, lastMissed := true, snapOut := true } ∧
          t.reg flt4 R.FLT_SNAPMISS = (s.count flt4 R.FLT_SNAPMISS).reg flt4 R.FLT_SNAPMISS) ∧
        (∀ (b : Fin 4) (rest : List Nat), s.regB flt4 R.FLT_CTRL 2 = true → s.flt.bankOrder = b.val :: rest →
          ∃ t, exec (.snapFireWrite v) s = .next t ∧ Fires s t 3 b.val ∧ t.flt.snapOut = true))) ∧
    (inEn = false ∨ ¬ Apart s → exec .snapInEdge s = .next s) ∧
    (∀ b : Fin 4, inEn = true → Apart s → s.flt.shadow = none → LowestFree s b →
      ∃ t, exec .snapInEdge s = .next t ∧ Fires s t 0 b.val ∧ t.flt.snapOut = (s.flt.snapOut || s.regB flt4 R.FLT_CTRL 3)) ∧
    exec .snapOutEnd s = .next { s with flt := { s.flt with snapOut := false } } ∧
    (s.flt.shadow = none ∨ (∃ n : Slice, s.regF (slInst .egv n) R.EGV_SSTAT 8 2 = 3) →
      exec .snapshotCopyComplete s = .next s) ∧
    (∀ b l, s.flt.shadow = some (b, l) → b < 4 → (∀ n : Slice, s.regF (slInst .egv n) R.EGV_SSTAT 8 2 ≠ 3) →
      ∃ t, exec .snapshotCopyComplete s = .next t ∧ t.regB flt4 R.FLT_SNAPSTAT b = true ∧
        t.regB flt4 R.FLT_SNAPSTAT (4 + b) = false ∧ t.flt.shadow = none ∧ t.flt.banks.get b = some l ∧
        (∀ cause, s.flt.chipPending = some cause → t.boot.inReset = true ∧ t.flt.chipPending = none)) ∧
    (∀ (v : Word) (b : Fin 4), let busy := s.regB flt4 R.FLT_SNAPSTAT (4 + b.val)
      ∃ t, exec (.snapBankFree v) s = .next t ∧
        (v.getLsbD (8 + b.val) = true → busy = false → t.regB flt4 R.FLT_SNAPSTAT b.val = false ∧ t.flt.banks.get b.val = none) ∧
        (v.getLsbD (8 + b.val) = false ∨ busy = true → t.regB flt4 R.FLT_SNAPSTAT b.val = s.regB flt4 R.FLT_SNAPSTAT b.val ∧
          t.flt.banks.get b.val = s.flt.banks.get b.val) ∧
        t = { s with regs := t.regs, flt := t.flt })

/-- Muzzle is forced and released; snapshots are taken into free banks: `MuzzleIsForcedAndReleased`,
`SnapshotsAreTaken`. -/
def Obligations.MuzzleAndSnapshots : Prop :=
  Sys2Proof.Spec.MuzzleIsForcedAndReleased ∧
  Sys2Proof.Spec.SnapshotsAreTaken

open Sys2Proof.Spec in
/-- R443, R454, R461, R530-R538: PORST_N and SYSRST_N begin and hold a chip reset, and pins that do not act are followed (the
model's reading, log entry 101); the marks being written to the Kennel are completed (the model's reading, log entry 127); a
root key that fails its check at fuse load seals the device; the straps are sampled when PORST_N is released; fuse load ends
the reset and brings time and the slots' counters from the Kennel; the flash is read, its training item, of 5,376 bytes,
being applied with AUTO_TRAIN alone (the model's reading, log entry 103); self-test ends, and FABSTAT shows the links whose
slices passed it (the model's reading, log entry 58); lane calibration ends, and the governor takes over the regulators at L2
(the model's reading, log entry 76) or at once below it under a cap. -/
def Obligations.DeviceStartsUp : Prop :=
  ∀ (s : State), Calm s →
    let outer := fun (t : State) (boot : BootSt) => t.boot = boot ∧ t.knl = s.knl ∧ t.time = s.time ∧
      t.pending = s.pending ∧ (s.boot.inReset = false → t = { s with boot := boot })
    (¬ PinsAct s → (∃ t, exec .porstNAssert s = .next t ∧ outer t { s.boot with porstLow := true, warm := [] }) ∧
      (∃ t, exec .sysrstNAssert s = .next t ∧ outer t { s.boot with sysrstLow := true }) ∧
      ∀ straps, ∃ t, exec (.porstNRelease straps) s = .next t ∧ outer t { s.boot with porstLow := false }) ∧
    let marks := fun t : State => (s.kce.slots = {} → t.knl = s.knl) ∧ ∀ (k : Fin 512) (x : KeySlot) (h : Nat),
      s.kce.slots = ({} : Tbl KeySlot).set k.val x → x.writing = some h → s.boot.vkeep = true → t.mark k.val = h % 2 ^ 64
    (PinsAct s → ∃ t, exec .porstNAssert s = .next t ∧ ChipReset s t 0 [] ∧ marks t ∧ t.boot.porstLow = true ∧ t.boot.fullStart = true) ∧
    (PinsAct s → ∃ t, exec .sysrstNAssert s = .next t ∧ ChipReset s t 1 [] ∧ marks t ∧ t.boot.sysrstLow = true) ∧
    (∃ t, exec .sysrstNRelease s = .next t ∧ outer t { s.boot with sysrstLow := false }) ∧
    (∀ straps : Byte, PinsAct s → s.boot.porstLow = true → ∃ t, exec (.porstNRelease straps) s = .next t ∧
      t.boot = { s.boot with porstLow := false } ∧ fld (t.reg knl4 R.KNL_STRAP) 0 8 = straps.toNat ∧
      (s.boot.vkeep = true → t.knlNat 8 4 = (s.knlNat 8 4 + 1) % 2 ^ 32) ∧ t.flt = s.flt ∧ t.gov = s.gov) ∧
    (∀ rootOk : Bool,
      (bootBit s 0 = true ∨ ¬ Released s → ∃ t, exec (.fuseLoadComplete rootOk) s = .next t ∧ outer t s.boot) ∧
      (bootBit s 0 = false → Released s → rootOk = false → faultClass s 92 = 4 →
        ∃ t, exec (.fuseLoadComplete rootOk) s = .next t ∧ isLatched t 92 = true ∧ t.flt.sealed = true ∧
          t.boot.inReset = true ∧ t.regF knl4 R.KNL_BOOT 8 4 = 3 ∧ bootBit t 0 = false ∧ t.kce = {} ∧
          (s.boot.vkeep = true → (flags t).getLsbD 0 = true ∧ t.knlNat 0x0C 4 = (s.knlNat 0x0C 4 + 1) % 2 ^ 32)) ∧
      (bootBit s 0 = false → Released s → rootOk = true →
        ∃ t, exec (.fuseLoadComplete rootOk) s = .next t ∧ bootBit t 0 = true ∧ t.boot.inReset = false ∧
          t.regB kce4 R.KCE_STAT 0 = rootOk ∧ t.regB kce4 R.KCE_STAT 1 = s.regB knl4 R.KNL_STAT 2 ∧
          t.tsu = { s.tsu with sec := s.knl.sec, ns := s.knl.ticks * 1000000000 / 32768, frac := 0 } ∧
          t.regB tsu4 R.TSU_STAT 2 = true ∧ t.hif.flashBusy = s.regB knl4 R.KNL_STRAP 0 ∧
          (∀ k : Fin 512, (t.slot k.val).counter = s.mark k.val) ∧
          (s.boot.fullStart = false → bootBit t 1 = true ∧ bootBit t 5 = true))) ∧
    (s.boot.inReset = false →
      (∀ flash : List Byte,
        let reads := bootBit s 0 = true ∧ s.regB knl4 R.KNL_STRAP 0 = true ∧ bootBit s 3 = false
        (¬ reads → exec (.flashBootReadDone flash) s = .next s) ∧
        (reads → ∃ t, exec (.flashBootReadDone flash) s = .next t ∧ bootBit t 3 = true ∧ t.hif.flashBusy = false ∧
          ((∀ k, ¬ ListsTraining flash k) ∨ s.regB knl4 R.KNL_STRAP 1 = false → bootBit t 4 = bootBit s 4) ∧
          (∀ k, ListsTraining flash k → (∀ j, j < k → ¬ ListsTraining flash j) → s.regB knl4 R.KNL_STRAP 1 = true →
            (flashItem flash k).length = 5376 → bootBit t 4 = true))) ∧
      (∀ failed : BitVec 4,
        let tests := bootBit s 0 = true ∧ bootBit s 1 = false
        (¬ tests → exec (.selfTestComplete failed) s = .next s) ∧
        (tests → bootBit s 4 = false → ∃ t, exec (.selfTestComplete failed) s = .next t ∧ bootBit t 1 = true ∧
          bootBit t 6 = decide (failed ≠ 0) ∧ t.regF knl4 R.KNL_BOOT 12 4 = failed.toNat ∧
          (∀ a b : Slice, a ≠ b → t.regB swc4 R.SWC_FABSTAT (4 * a.val + b.val) = (!failed.getLsbD a.val && !failed.getLsbD b.val)))) ∧
      (bootBit s 1 = false ∨ bootBit s 5 = true → exec .laneCalibrationComplete s = .next s) ∧
      (bootBit s 1 = true → bootBit s 5 = false → ∃ t, exec .laneCalibrationComplete s = .next t ∧ bootBit t 5 = true ∧
        ∀ p : Port, (s.port p.val).waitCal = true → t.portState p.val = 1) ∧
      (bootBit s 1 = false ∨ s.boot.avs = true → exec .avsbusTakeover s = .next s) ∧
      (bootBit s 1 = true → s.boot.avs = false → ∃ t, exec .avsbusTakeover s = .next t ∧ t.boot = { s.boot with avs := true } ∧
        ∀ sl : Slice, let l := t.regF (slInst .egv sl) R.EGV_SSTAT 0 3
          l = 2 ∨ (l < 2 ∧ (t.egv sl).changing = some l)))
end

