-- ==== Sys2Proof/Laws/Table.lean ====
section
/-! SUPPORT. Tables: what is read after a write, that a write keeps the canonical form, and the fields of a word. -/

namespace Sys2Proof

variable {α : Type}

theorem lookupD_eraseD_same (d : α) (k : Nat) (l : List (Nat × α)) : lookupD d k (eraseD k l) = d := by
  induction l with
  | nil => rfl
  | cons p r ih => obtain ⟨j, u⟩ := p; simp only [eraseD]; split <;> simp_all [lookupD]

theorem lookupD_eraseD_other (d : α) (k j : Nat) (h : j ≠ k) (l : List (Nat × α)) :
    lookupD d j (eraseD k l) = lookupD d j l := by
  induction l with
  | nil => rfl
  | cons p r ih =>
    obtain ⟨i, u⟩ := p
    simp only [eraseD]
    split
    · simp_all [lookupD]
      omega
    · simp [lookupD, ih]

theorem lookupD_insertD_same [DecidableEq α] (d : α) (k : Nat) (v : α) (l : List (Nat × α)) :
    lookupD d k (insertD d k v l) = v := by
  induction l with
  | nil => simp only [insertD]; split <;> simp_all [lookupD]
  | cons p r ih =>
    obtain ⟨j, u⟩ := p
    simp only [insertD]
    split
    · exact ih
    · split
      · simp [lookupD, *]
      · split <;> simp_all [lookupD, lookupD_eraseD_same]

theorem lookupD_insertD_other [DecidableEq α] (d e : α) (k j : Nat) (h : j ≠ k) (v : α) (l : List (Nat × α)) :
    lookupD e j (insertD d k v l) = lookupD e j l := by
  induction l with
  | nil => simp only [insertD]; split <;> simp_all [lookupD]; omega
  | cons p r ih =>
    obtain ⟨i, u⟩ := p
    simp only [insertD]
    split
    · simp_all [lookupD]; omega
    · split
      · simp [lookupD, ih]
      · split <;> (simp_all [lookupD, lookupD_eraseD_other]; try omega)

/-! ### Read after write -/

theorem Tbl.getD_setD_same [DecidableEq α] (t : Tbl α) (d : α) (k : Nat) (v : α) : (t.setD d k v).getD d k = v :=
  lookupD_insertD_same ..

theorem Tbl.getD_setD_other [DecidableEq α] (t : Tbl α) (d e : α) (k j : Nat) (v : α) (h : j ≠ k) :
    (t.setD d k v).getD e j = t.getD e j :=
  lookupD_insertD_other _ _ _ _ h _ _

@[simp] theorem Tbl.get_set_same [DecidableEq α] [Inhabited α] (t : Tbl α) (k : Nat) (v : α) : (t.set k v).get k = v :=
  Tbl.getD_setD_same ..

theorem Tbl.get_set_other [DecidableEq α] [Inhabited α] (t : Tbl α) (k j : Nat) (v : α) (h : j ≠ k) :
    (t.set k v).get j = t.get j :=
  Tbl.getD_setD_other _ _ _ _ _ _ h

@[simp] theorem Tbl.get_upd_same [DecidableEq α] [Inhabited α] (t : Tbl α) (k : Nat) (f : α → α) :
    (t.upd k f).get k = f (t.get k) :=
  Tbl.get_set_same ..

theorem Tbl.get_upd_other [DecidableEq α] [Inhabited α] (t : Tbl α) (k j : Nat) (f : α → α) (h : j ≠ k) :
    (t.upd k f).get j = t.get j :=
  Tbl.get_set_other _ _ _ _ h

/-- A table with nothing listed reads as the default. -/
@[simp] theorem Tbl.get_empty [Inhabited α] (k : Nat) : ({} : Tbl α).get k = default := rfl

@[simp] theorem Tbl.getD_empty (d : α) (k : Nat) : ({} : Tbl α).getD d k = d := rfl

/-! ### The canonical form -/

/-- Keys of the list lie above `lo`. -/
theorem sortedD_weaken [DecidableEq α] (d : Nat → α) (lo : Nat) (l : List (Nat × α))
    (h : sortedD d (some lo) l = true) : sortedD d none l = true := by
  cases l with
  | nil => rfl
  | cons p r => obtain ⟨j, u⟩ := p; simp_all [sortedD]

theorem eraseD_above [DecidableEq α] (d : Nat → α) (k lo : Nat) (l : List (Nat × α))
    (h : sortedD d (some lo) l = true) (hk : k ≤ lo) : eraseD k l = l := by
  induction l generalizing lo with
  | nil => rfl
  | cons p r ih =>
    obtain ⟨j, u⟩ := p
    simp only [sortedD, Bool.and_eq_true, decide_eq_true_eq] at h
    have : j ≠ k := by omega
    simp only [eraseD, this, if_false]
    rw [ih j h.2 (by omega)]

theorem insertD_sorted [DecidableEq α] (d : Nat → α) (k : Nat) (v : α) (lo : Option Nat) (l : List (Nat × α))
    (h : sortedD d lo l = true) (hk : ∀ m, lo = some m → m < k) : sortedD d lo (insertD (d k) k v l) = true := by
  induction l generalizing lo with
  | nil =>
    simp only [insertD]
    split
    · rfl
    · cases lo <;> simp_all [sortedD]
  | cons p r ih =>
    obtain ⟨j, u⟩ := p
    simp only [sortedD, Bool.and_eq_true, decide_eq_true_eq] at h
    obtain ⟨⟨h1, h2⟩, h3⟩ := h
    simp only [insertD]
    split
    · rename_i e
      subst e
      apply ih lo _ hk
      cases r with
      | nil => rfl
      | cons q r =>
        obtain ⟨i, w⟩ := q
        simp only [sortedD, Bool.and_eq_true, decide_eq_true_eq] at h3 ⊢
        refine ⟨⟨?_, h3.1.2⟩, h3.2⟩
        cases lo with
        | none => rfl
        | some m => have := hk m rfl; simp; omega
    · split
      · rename_i hne hlt
        simp only [sortedD, Bool.and_eq_true, decide_eq_true_eq]
        exact ⟨⟨h1, h2⟩, ih (some j) h3 (by simp; omega)⟩
      · rename_i hne hlt
        have he := eraseD_above d k j r h3 (by omega)
        rw [he]
        split
        · simp only [sortedD, Bool.and_eq_true, decide_eq_true_eq]
          exact ⟨⟨h1, h2⟩, h3⟩
        · rename_i hv
          simp only [sortedD, Bool.and_eq_true, decide_eq_true_eq]
          refine ⟨⟨?_, hv⟩, ⟨by omega, h2⟩, h3⟩
          cases lo with
          | none => rfl
          | some m => simpa using hk m rfl

/-- A write keeps the canonical form. -/
theorem Tbl.setD_wfD [DecidableEq α] (d : Nat → α) (t : Tbl α) (k : Nat) (v : α) (h : t.wfD d = true) :
    (t.setD (d k) k v).wfD d = true :=
  insertD_sorted d k v none t.ents h (by simp)

theorem Tbl.set_wf [DecidableEq α] [Inhabited α] (t : Tbl α) (k : Nat) (v : α) (h : t.wf = true) :
    (t.set k v).wf = true :=
  Tbl.setD_wfD (fun _ => default) t k v h

/-- Taking out an entry twice is taking it out once. -/
theorem eraseD_eraseD (k : Nat) (l : List (Nat × α)) : eraseD k (eraseD k l) = eraseD k l := by
  induction l with
  | nil => rfl
  | cons p r ih => obtain ⟨j, u⟩ := p; simp only [eraseD]; split <;> simp_all [eraseD]

theorem insertD_eraseD [DecidableEq α] (d : α) (k : Nat) (v : α) (l : List (Nat × α)) :
    insertD d k v (eraseD k l) = insertD d k v l := by
  induction l with
  | nil => rfl
  | cons p r ih =>
    obtain ⟨j, u⟩ := p
    simp only [eraseD]
    split
    · simp_all [insertD]
    · simp_all [insertD, eraseD_eraseD]

/-- The later of two writes of one entry stands. -/
theorem insertD_insertD [DecidableEq α] (d : α) (k : Nat) (u v : α) (l : List (Nat × α)) :
    insertD d k v (insertD d k u l) = insertD d k v l := by
  induction l with
  | nil => simp only [insertD]; split <;> simp_all [insertD]
  | cons p r ih =>
    obtain ⟨j, w⟩ := p
    simp only [insertD]
    split
    · exact ih
    · split
      · simp_all [insertD]
      · rename_i h1 h2
        split
        · simp [insertD, h1, h2, eraseD_eraseD]
        · simp only [insertD, ↓reduceIte, h1, h2]
          simp [eraseD_eraseD]

theorem Tbl.set_set [DecidableEq α] [Inhabited α] (t : Tbl α) (k : Nat) (u v : α) :
    (t.set k u).set k v = t.set k v := by
  simp [Tbl.set, Tbl.setD, insertD_insertD]

theorem Tbl.setD_setD [DecidableEq α] (t : Tbl α) (d : α) (k : Nat) (u v : α) :
    (t.setD d k u).setD d k v = t.setD d k v := by
  simp [Tbl.setD, insertD_insertD]

end Sys2Proof
end

