-- ==== Sys2Proof/Laws/State.lean ====
section
/-! SUPPORT. What each named update of the state leaves alone, field by field and by computation, and what reading back
what an update wrote gives. -/

namespace Sys2Proof.Machine

variable (s : State)

@[simp] theorem State.setReg_keeps (i : InstId) (off : Nat) (v : Word) :
    (s.setReg i off v).pending = s.pending ∧ (s.setReg i off v).time = s.time ∧ (s.setReg i off v).free = s.free ∧
    (s.setReg i off v).win = s.win ∧ (s.setReg i off v).bad = s.bad ∧ (s.setReg i off v).wst = s.wst ∧
    (s.setReg i off v).held = s.held ∧ (s.setReg i off v).frames = s.frames ∧
    (s.setReg i off v).nextFrame = s.nextFrame ∧ (s.setReg i off v).nextCopy = s.nextCopy ∧
    (s.setReg i off v).ports = s.ports ∧ (s.setReg i off v).macros = s.macros ∧ (s.setReg i off v).ctxs = s.ctxs ∧
    (s.setReg i off v).pups = s.pups ∧ (s.setReg i off v).pcls = s.pcls ∧
    (s.setReg i off v).commitAt = s.commitAt ∧ (s.setReg i off v).baseImg = s.baseImg ∧
    (s.setReg i off v).fwds = s.fwds ∧ (s.setReg i off v).asas = s.asas ∧ (s.setReg i off v).swcs = s.swcs ∧
    (s.setReg i off v).links = s.links ∧ (s.setReg i off v).hrPhase = s.hrPhase ∧
    (s.setReg i off v).sigs = s.sigs ∧ (s.setReg i off v).bpms = s.bpms ∧ (s.setReg i off v).chans = s.chans ∧
    (s.setReg i off v).deepMem = s.deepMem ∧ (s.setReg i off v).tmgs = s.tmgs ∧ (s.setReg i off v).egvs = s.egvs ∧
    (s.setReg i off v).acts = s.acts ∧ (s.setReg i off v).fabIn = s.fabIn ∧
    (s.setReg i off v).gov = s.gov ∧ (s.setReg i off v).tsu = s.tsu ∧ (s.setReg i off v).kce = s.kce ∧
    (s.setReg i off v).hif = s.hif ∧ (s.setReg i off v).flt = s.flt ∧ (s.setReg i off v).knl = s.knl ∧
    (s.setReg i off v).boot = s.boot := by
  and_intros <;> rfl

@[simp] theorem State.setRegF_keeps (i : InstId) (off lo width v : Nat) :
    (s.setRegF i off lo width v).pending = s.pending ∧ (s.setRegF i off lo width v).time = s.time ∧
    (s.setRegF i off lo width v).free = s.free ∧ (s.setRegF i off lo width v).win = s.win ∧
    (s.setRegF i off lo width v).bad = s.bad ∧ (s.setRegF i off lo width v).wst = s.wst ∧
    (s.setRegF i off lo width v).held = s.held ∧ (s.setRegF i off lo width v).frames = s.frames ∧
    (s.setRegF i off lo width v).nextFrame = s.nextFrame ∧ (s.setRegF i off lo width v).nextCopy = s.nextCopy ∧
    (s.setRegF i off lo width v).ports = s.ports ∧ (s.setRegF i off lo width v).macros = s.macros ∧
    (s.setRegF i off lo width v).ctxs = s.ctxs ∧ (s.setRegF i off lo width v).pups = s.pups ∧
    (s.setRegF i off lo width v).pcls = s.pcls ∧ (s.setRegF i off lo width v).commitAt = s.commitAt ∧
    (s.setRegF i off lo width v).baseImg = s.baseImg ∧ (s.setRegF i off lo width v).fwds = s.fwds ∧
    (s.setRegF i off lo width v).asas = s.asas ∧ (s.setRegF i off lo width v).swcs = s.swcs ∧
    (s.setRegF i off lo width v).links = s.links ∧ (s.setRegF i off lo width v).hrPhase = s.hrPhase ∧
    (s.setRegF i off lo width v).sigs = s.sigs ∧ (s.setRegF i off lo width v).bpms = s.bpms ∧
    (s.setRegF i off lo width v).chans = s.chans ∧ (s.setRegF i off lo width v).deepMem = s.deepMem ∧
    (s.setRegF i off lo width v).tmgs = s.tmgs ∧ (s.setRegF i off lo width v).egvs = s.egvs ∧
    (s.setRegF i off lo width v).acts = s.acts ∧ (s.setRegF i off lo width v).fabIn = s.fabIn ∧
    (s.setRegF i off lo width v).gov = s.gov ∧ (s.setRegF i off lo width v).tsu = s.tsu ∧
    (s.setRegF i off lo width v).kce = s.kce ∧ (s.setRegF i off lo width v).hif = s.hif ∧
    (s.setRegF i off lo width v).flt = s.flt ∧ (s.setRegF i off lo width v).knl = s.knl ∧
    (s.setRegF i off lo width v).boot = s.boot := by
  and_intros <;> rfl

@[simp] theorem State.setRegB_keeps (i : InstId) (off k : Nat) (b : Bool) :
    (s.setRegB i off k b).pending = s.pending ∧ (s.setRegB i off k b).time = s.time ∧
    (s.setRegB i off k b).free = s.free ∧ (s.setRegB i off k b).win = s.win ∧ (s.setRegB i off k b).bad = s.bad ∧
    (s.setRegB i off k b).wst = s.wst ∧ (s.setRegB i off k b).held = s.held ∧
    (s.setRegB i off k b).frames = s.frames ∧ (s.setRegB i off k b).nextFrame = s.nextFrame ∧
    (s.setRegB i off k b).nextCopy = s.nextCopy ∧ (s.setRegB i off k b).ports = s.ports ∧
    (s.setRegB i off k b).macros = s.macros ∧ (s.setRegB i off k b).ctxs = s.ctxs ∧
    (s.setRegB i off k b).pups = s.pups ∧ (s.setRegB i off k b).pcls = s.pcls ∧
    (s.setRegB i off k b).commitAt = s.commitAt ∧ (s.setRegB i off k b).baseImg = s.baseImg ∧
    (s.setRegB i off k b).fwds = s.fwds ∧ (s.setRegB i off k b).asas = s.asas ∧
    (s.setRegB i off k b).swcs = s.swcs ∧ (s.setRegB i off k b).links = s.links ∧
    (s.setRegB i off k b).hrPhase = s.hrPhase ∧ (s.setRegB i off k b).sigs = s.sigs ∧
    (s.setRegB i off k b).bpms = s.bpms ∧ (s.setRegB i off k b).chans = s.chans ∧
    (s.setRegB i off k b).deepMem = s.deepMem ∧ (s.setRegB i off k b).tmgs = s.tmgs ∧
    (s.setRegB i off k b).egvs = s.egvs ∧ (s.setRegB i off k b).acts = s.acts ∧ (s.setRegB i off k b).fabIn = s.fabIn ∧
    (s.setRegB i off k b).gov = s.gov ∧ (s.setRegB i off k b).tsu = s.tsu ∧
    (s.setRegB i off k b).kce = s.kce ∧ (s.setRegB i off k b).hif = s.hif ∧ (s.setRegB i off k b).flt = s.flt ∧
    (s.setRegB i off k b).knl = s.knl ∧ (s.setRegB i off k b).boot = s.boot := by
  and_intros <;> rfl

@[simp] theorem State.count_keeps (i : InstId) (off lo width n : Nat) :
    (s.count i off lo width n).pending = s.pending ∧ (s.count i off lo width n).time = s.time ∧
    (s.count i off lo width n).free = s.free ∧ (s.count i off lo width n).win = s.win ∧
    (s.count i off lo width n).bad = s.bad ∧ (s.count i off lo width n).wst = s.wst ∧
    (s.count i off lo width n).held = s.held ∧ (s.count i off lo width n).frames = s.frames ∧
    (s.count i off lo width n).nextFrame = s.nextFrame ∧ (s.count i off lo width n).nextCopy = s.nextCopy ∧
    (s.count i off lo width n).ports = s.ports ∧ (s.count i off lo width n).macros = s.macros ∧
    (s.count i off lo width n).ctxs = s.ctxs ∧ (s.count i off lo width n).pups = s.pups ∧
    (s.count i off lo width n).pcls = s.pcls ∧ (s.count i off lo width n).commitAt = s.commitAt ∧
    (s.count i off lo width n).baseImg = s.baseImg ∧ (s.count i off lo width n).fwds = s.fwds ∧
    (s.count i off lo width n).asas = s.asas ∧ (s.count i off lo width n).swcs = s.swcs ∧
    (s.count i off lo width n).links = s.links ∧ (s.count i off lo width n).hrPhase = s.hrPhase ∧
    (s.count i off lo width n).sigs = s.sigs ∧ (s.count i off lo width n).bpms = s.bpms ∧
    (s.count i off lo width n).chans = s.chans ∧ (s.count i off lo width n).deepMem = s.deepMem ∧
    (s.count i off lo width n).tmgs = s.tmgs ∧ (s.count i off lo width n).egvs = s.egvs ∧
    (s.count i off lo width n).acts = s.acts ∧ (s.count i off lo width n).fabIn = s.fabIn ∧
    (s.count i off lo width n).gov = s.gov ∧ (s.count i off lo width n).tsu = s.tsu ∧
    (s.count i off lo width n).kce = s.kce ∧ (s.count i off lo width n).hif = s.hif ∧
    (s.count i off lo width n).flt = s.flt ∧ (s.count i off lo width n).knl = s.knl ∧
    (s.count i off lo width n).boot = s.boot := by
  and_intros <;> rfl

@[simp] theorem State.setWinWord_keeps (i : InstId) (w a : Nat) (v : Word) :
    (s.setWinWord i w a v).pending = s.pending ∧ (s.setWinWord i w a v).time = s.time ∧
    (s.setWinWord i w a v).free = s.free ∧ (s.setWinWord i w a v).regs = s.regs ∧
    (s.setWinWord i w a v).wst = s.wst ∧ (s.setWinWord i w a v).held = s.held ∧
    (s.setWinWord i w a v).frames = s.frames ∧ (s.setWinWord i w a v).nextFrame = s.nextFrame ∧
    (s.setWinWord i w a v).nextCopy = s.nextCopy ∧ (s.setWinWord i w a v).ports = s.ports ∧
    (s.setWinWord i w a v).macros = s.macros ∧ (s.setWinWord i w a v).ctxs = s.ctxs ∧
    (s.setWinWord i w a v).pups = s.pups ∧ (s.setWinWord i w a v).pcls = s.pcls ∧
    (s.setWinWord i w a v).commitAt = s.commitAt ∧ (s.setWinWord i w a v).baseImg = s.baseImg ∧
    (s.setWinWord i w a v).fwds = s.fwds ∧ (s.setWinWord i w a v).asas = s.asas ∧
    (s.setWinWord i w a v).swcs = s.swcs ∧ (s.setWinWord i w a v).links = s.links ∧
    (s.setWinWord i w a v).hrPhase = s.hrPhase ∧ (s.setWinWord i w a v).sigs = s.sigs ∧
    (s.setWinWord i w a v).bpms = s.bpms ∧ (s.setWinWord i w a v).chans = s.chans ∧
    (s.setWinWord i w a v).deepMem = s.deepMem ∧ (s.setWinWord i w a v).tmgs = s.tmgs ∧
    (s.setWinWord i w a v).egvs = s.egvs ∧ (s.setWinWord i w a v).acts = s.acts ∧ (s.setWinWord i w a v).fabIn = s.fabIn ∧
    (s.setWinWord i w a v).gov = s.gov ∧
    (s.setWinWord i w a v).tsu = s.tsu ∧ (s.setWinWord i w a v).kce = s.kce ∧ (s.setWinWord i w a v).hif = s.hif ∧
    (s.setWinWord i w a v).flt = s.flt ∧ (s.setWinWord i w a v).knl = s.knl ∧ (s.setWinWord i w a v).boot = s.boot := by
  and_intros <;> rfl

@[simp] theorem State.setEnt_keeps (i : InstId) (w e k : Nat) (v : Word) :
    (s.setEnt i w e k v).pending = s.pending ∧ (s.setEnt i w e k v).time = s.time ∧
    (s.setEnt i w e k v).free = s.free ∧ (s.setEnt i w e k v).regs = s.regs ∧ (s.setEnt i w e k v).wst = s.wst ∧
    (s.setEnt i w e k v).held = s.held ∧ (s.setEnt i w e k v).frames = s.frames ∧
    (s.setEnt i w e k v).nextFrame = s.nextFrame ∧ (s.setEnt i w e k v).nextCopy = s.nextCopy ∧
    (s.setEnt i w e k v).ports = s.ports ∧ (s.setEnt i w e k v).macros = s.macros ∧
    (s.setEnt i w e k v).ctxs = s.ctxs ∧ (s.setEnt i w e k v).pups = s.pups ∧ (s.setEnt i w e k v).pcls = s.pcls ∧
    (s.setEnt i w e k v).commitAt = s.commitAt ∧ (s.setEnt i w e k v).baseImg = s.baseImg ∧
    (s.setEnt i w e k v).fwds = s.fwds ∧ (s.setEnt i w e k v).asas = s.asas ∧ (s.setEnt i w e k v).swcs = s.swcs ∧
    (s.setEnt i w e k v).links = s.links ∧ (s.setEnt i w e k v).hrPhase = s.hrPhase ∧
    (s.setEnt i w e k v).sigs = s.sigs ∧ (s.setEnt i w e k v).bpms = s.bpms ∧
    (s.setEnt i w e k v).chans = s.chans ∧ (s.setEnt i w e k v).deepMem = s.deepMem ∧
    (s.setEnt i w e k v).tmgs = s.tmgs ∧ (s.setEnt i w e k v).egvs = s.egvs ∧
    (s.setEnt i w e k v).acts = s.acts ∧ (s.setEnt i w e k v).fabIn = s.fabIn ∧
    (s.setEnt i w e k v).gov = s.gov ∧
    (s.setEnt i w e k v).tsu = s.tsu ∧ (s.setEnt i w e k v).kce = s.kce ∧ (s.setEnt i w e k v).hif = s.hif ∧
    (s.setEnt i w e k v).flt = s.flt ∧ (s.setEnt i w e k v).knl = s.knl ∧ (s.setEnt i w e k v).boot = s.boot := by
  and_intros <;> rfl

@[simp] theorem State.setWs_keeps (i : InstId) (x : WinState) :
    (s.setWs i x).pending = s.pending ∧ (s.setWs i x).time = s.time ∧ (s.setWs i x).free = s.free ∧
    (s.setWs i x).regs = s.regs ∧ (s.setWs i x).win = s.win ∧ (s.setWs i x).bad = s.bad ∧
    (s.setWs i x).held = s.held ∧ (s.setWs i x).frames = s.frames ∧ (s.setWs i x).nextFrame = s.nextFrame ∧
    (s.setWs i x).nextCopy = s.nextCopy ∧ (s.setWs i x).ports = s.ports ∧ (s.setWs i x).macros = s.macros ∧
    (s.setWs i x).ctxs = s.ctxs ∧ (s.setWs i x).pups = s.pups ∧ (s.setWs i x).pcls = s.pcls ∧
    (s.setWs i x).commitAt = s.commitAt ∧ (s.setWs i x).baseImg = s.baseImg ∧ (s.setWs i x).fwds = s.fwds ∧
    (s.setWs i x).asas = s.asas ∧ (s.setWs i x).swcs = s.swcs ∧ (s.setWs i x).links = s.links ∧
    (s.setWs i x).hrPhase = s.hrPhase ∧ (s.setWs i x).sigs = s.sigs ∧ (s.setWs i x).bpms = s.bpms ∧
    (s.setWs i x).chans = s.chans ∧ (s.setWs i x).deepMem = s.deepMem ∧ (s.setWs i x).tmgs = s.tmgs ∧
    (s.setWs i x).egvs = s.egvs ∧ (s.setWs i x).acts = s.acts ∧ (s.setWs i x).fabIn = s.fabIn ∧
    (s.setWs i x).gov = s.gov ∧ (s.setWs i x).tsu = s.tsu ∧
    (s.setWs i x).kce = s.kce ∧ (s.setWs i x).hif = s.hif ∧ (s.setWs i x).flt = s.flt ∧ (s.setWs i x).knl = s.knl ∧
    (s.setWs i x).boot = s.boot := by
  and_intros <;> rfl

@[simp] theorem State.setCtx_keeps (x : CtxId) (c : Ctx) :
    (s.setCtx x c).pending = s.pending ∧ (s.setCtx x c).time = s.time ∧ (s.setCtx x c).free = s.free ∧
    (s.setCtx x c).regs = s.regs ∧ (s.setCtx x c).win = s.win ∧ (s.setCtx x c).bad = s.bad ∧
    (s.setCtx x c).wst = s.wst ∧ (s.setCtx x c).held = s.held ∧ (s.setCtx x c).frames = s.frames ∧
    (s.setCtx x c).nextFrame = s.nextFrame ∧ (s.setCtx x c).nextCopy = s.nextCopy ∧
    (s.setCtx x c).ports = s.ports ∧ (s.setCtx x c).macros = s.macros ∧ (s.setCtx x c).pups = s.pups ∧
    (s.setCtx x c).pcls = s.pcls ∧ (s.setCtx x c).commitAt = s.commitAt ∧ (s.setCtx x c).baseImg = s.baseImg ∧
    (s.setCtx x c).fwds = s.fwds ∧ (s.setCtx x c).asas = s.asas ∧ (s.setCtx x c).swcs = s.swcs ∧
    (s.setCtx x c).links = s.links ∧ (s.setCtx x c).hrPhase = s.hrPhase ∧ (s.setCtx x c).sigs = s.sigs ∧
    (s.setCtx x c).bpms = s.bpms ∧ (s.setCtx x c).chans = s.chans ∧ (s.setCtx x c).deepMem = s.deepMem ∧
    (s.setCtx x c).tmgs = s.tmgs ∧ (s.setCtx x c).egvs = s.egvs ∧ (s.setCtx x c).acts = s.acts ∧ (s.setCtx x c).fabIn = s.fabIn ∧
    (s.setCtx x c).gov = s.gov ∧
    (s.setCtx x c).tsu = s.tsu ∧ (s.setCtx x c).kce = s.kce ∧ (s.setCtx x c).hif = s.hif ∧
    (s.setCtx x c).flt = s.flt ∧ (s.setCtx x c).knl = s.knl ∧ (s.setCtx x c).boot = s.boot := by
  and_intros <;> rfl

@[simp] theorem State.updCtx_keeps (x : CtxId) (f : Ctx → Ctx) :
    (s.updCtx x f).pending = s.pending ∧ (s.updCtx x f).time = s.time ∧ (s.updCtx x f).free = s.free ∧
    (s.updCtx x f).regs = s.regs ∧ (s.updCtx x f).win = s.win ∧ (s.updCtx x f).bad = s.bad ∧
    (s.updCtx x f).wst = s.wst ∧ (s.updCtx x f).held = s.held ∧ (s.updCtx x f).frames = s.frames ∧
    (s.updCtx x f).nextFrame = s.nextFrame ∧ (s.updCtx x f).nextCopy = s.nextCopy ∧
    (s.updCtx x f).ports = s.ports ∧ (s.updCtx x f).macros = s.macros ∧ (s.updCtx x f).pups = s.pups ∧
    (s.updCtx x f).pcls = s.pcls ∧ (s.updCtx x f).commitAt = s.commitAt ∧ (s.updCtx x f).baseImg = s.baseImg ∧
    (s.updCtx x f).fwds = s.fwds ∧ (s.updCtx x f).asas = s.asas ∧ (s.updCtx x f).swcs = s.swcs ∧
    (s.updCtx x f).links = s.links ∧ (s.updCtx x f).hrPhase = s.hrPhase ∧ (s.updCtx x f).sigs = s.sigs ∧
    (s.updCtx x f).bpms = s.bpms ∧ (s.updCtx x f).chans = s.chans ∧ (s.updCtx x f).deepMem = s.deepMem ∧
    (s.updCtx x f).tmgs = s.tmgs ∧ (s.updCtx x f).egvs = s.egvs ∧ (s.updCtx x f).acts = s.acts ∧ (s.updCtx x f).fabIn = s.fabIn ∧
    (s.updCtx x f).gov = s.gov ∧
    (s.updCtx x f).tsu = s.tsu ∧ (s.updCtx x f).kce = s.kce ∧ (s.updCtx x f).hif = s.hif ∧
    (s.updCtx x f).flt = s.flt ∧ (s.updCtx x f).knl = s.knl ∧ (s.updCtx x f).boot = s.boot := by
  and_intros <;> rfl

@[simp] theorem State.noteFault_keeps (src group : Nat) :
    (s.noteFault src group).pending = s.pending ∧ (s.noteFault src group).time = s.time ∧
    (s.noteFault src group).free = s.free ∧ (s.noteFault src group).regs = s.regs ∧
    (s.noteFault src group).win = s.win ∧ (s.noteFault src group).bad = s.bad ∧
    (s.noteFault src group).wst = s.wst ∧ (s.noteFault src group).held = s.held ∧
    (s.noteFault src group).frames = s.frames ∧ (s.noteFault src group).nextFrame = s.nextFrame ∧
    (s.noteFault src group).nextCopy = s.nextCopy ∧ (s.noteFault src group).ports = s.ports ∧
    (s.noteFault src group).macros = s.macros ∧ (s.noteFault src group).ctxs = s.ctxs ∧
    (s.noteFault src group).pups = s.pups ∧ (s.noteFault src group).pcls = s.pcls ∧
    (s.noteFault src group).commitAt = s.commitAt ∧ (s.noteFault src group).baseImg = s.baseImg ∧
    (s.noteFault src group).fwds = s.fwds ∧ (s.noteFault src group).asas = s.asas ∧
    (s.noteFault src group).swcs = s.swcs ∧ (s.noteFault src group).links = s.links ∧
    (s.noteFault src group).hrPhase = s.hrPhase ∧ (s.noteFault src group).sigs = s.sigs ∧
    (s.noteFault src group).bpms = s.bpms ∧ (s.noteFault src group).chans = s.chans ∧
    (s.noteFault src group).deepMem = s.deepMem ∧ (s.noteFault src group).tmgs = s.tmgs ∧
    (s.noteFault src group).egvs = s.egvs ∧ (s.noteFault src group).acts = s.acts ∧ (s.noteFault src group).fabIn = s.fabIn ∧
    (s.noteFault src group).gov = s.gov ∧
    (s.noteFault src group).tsu = s.tsu ∧ (s.noteFault src group).kce = s.kce ∧
    (s.noteFault src group).hif = s.hif ∧ (s.noteFault src group).knl = s.knl ∧
    (s.noteFault src group).boot = s.boot := by
  and_intros <;> rfl

/-- R510: sending a vector changes only what the host interface holds. -/
theorem State.sendMsi_eq (fn vec : Nat) : ∃ h, s.sendMsi fn vec = { s with hif := h } := by
  unfold State.sendMsi
  split
  · exact ⟨s.hif, rfl⟩
  · split <;> exact ⟨_, rfl⟩

@[simp] theorem State.sendMsi_keeps (fn vec : Nat) :
    (s.sendMsi fn vec).pending = s.pending ∧ (s.sendMsi fn vec).time = s.time ∧ (s.sendMsi fn vec).free = s.free ∧
    (s.sendMsi fn vec).regs = s.regs ∧ (s.sendMsi fn vec).win = s.win ∧ (s.sendMsi fn vec).bad = s.bad ∧
    (s.sendMsi fn vec).wst = s.wst ∧ (s.sendMsi fn vec).held = s.held ∧ (s.sendMsi fn vec).frames = s.frames ∧
    (s.sendMsi fn vec).nextFrame = s.nextFrame ∧ (s.sendMsi fn vec).nextCopy = s.nextCopy ∧
    (s.sendMsi fn vec).ports = s.ports ∧ (s.sendMsi fn vec).macros = s.macros ∧ (s.sendMsi fn vec).ctxs = s.ctxs ∧
    (s.sendMsi fn vec).pups = s.pups ∧ (s.sendMsi fn vec).pcls = s.pcls ∧
    (s.sendMsi fn vec).commitAt = s.commitAt ∧ (s.sendMsi fn vec).baseImg = s.baseImg ∧
    (s.sendMsi fn vec).fwds = s.fwds ∧ (s.sendMsi fn vec).asas = s.asas ∧ (s.sendMsi fn vec).swcs = s.swcs ∧
    (s.sendMsi fn vec).links = s.links ∧ (s.sendMsi fn vec).hrPhase = s.hrPhase ∧
    (s.sendMsi fn vec).sigs = s.sigs ∧ (s.sendMsi fn vec).bpms = s.bpms ∧ (s.sendMsi fn vec).chans = s.chans ∧
    (s.sendMsi fn vec).deepMem = s.deepMem ∧ (s.sendMsi fn vec).tmgs = s.tmgs ∧ (s.sendMsi fn vec).egvs = s.egvs ∧
    (s.sendMsi fn vec).acts = s.acts ∧ (s.sendMsi fn vec).fabIn = s.fabIn ∧
    (s.sendMsi fn vec).gov = s.gov ∧ (s.sendMsi fn vec).tsu = s.tsu ∧ (s.sendMsi fn vec).kce = s.kce ∧
    (s.sendMsi fn vec).flt = s.flt ∧ (s.sendMsi fn vec).knl = s.knl ∧ (s.sendMsi fn vec).boot = s.boot := by
  obtain ⟨h, e⟩ := s.sendMsi_eq fn vec
  rw [e]
  and_intros <;> rfl

@[simp] theorem State.updPup_keeps (sl : Slice) (f : PupSt → PupSt) :
    (s.updPup sl f).pending = s.pending ∧ (s.updPup sl f).time = s.time ∧ (s.updPup sl f).free = s.free ∧
    (s.updPup sl f).regs = s.regs ∧ (s.updPup sl f).win = s.win ∧ (s.updPup sl f).bad = s.bad ∧
    (s.updPup sl f).wst = s.wst ∧ (s.updPup sl f).held = s.held ∧ (s.updPup sl f).frames = s.frames ∧
    (s.updPup sl f).nextFrame = s.nextFrame ∧ (s.updPup sl f).nextCopy = s.nextCopy ∧
    (s.updPup sl f).ports = s.ports ∧ (s.updPup sl f).macros = s.macros ∧ (s.updPup sl f).ctxs = s.ctxs ∧
    (s.updPup sl f).pcls = s.pcls ∧ (s.updPup sl f).commitAt = s.commitAt ∧ (s.updPup sl f).baseImg = s.baseImg ∧
    (s.updPup sl f).fwds = s.fwds ∧ (s.updPup sl f).asas = s.asas ∧ (s.updPup sl f).swcs = s.swcs ∧
    (s.updPup sl f).links = s.links ∧ (s.updPup sl f).hrPhase = s.hrPhase ∧ (s.updPup sl f).sigs = s.sigs ∧
    (s.updPup sl f).bpms = s.bpms ∧ (s.updPup sl f).chans = s.chans ∧ (s.updPup sl f).deepMem = s.deepMem ∧
    (s.updPup sl f).tmgs = s.tmgs ∧ (s.updPup sl f).egvs = s.egvs ∧
    (s.updPup sl f).acts = s.acts ∧ (s.updPup sl f).fabIn = s.fabIn ∧
    (s.updPup sl f).gov = s.gov ∧
    (s.updPup sl f).tsu = s.tsu ∧ (s.updPup sl f).kce = s.kce ∧ (s.updPup sl f).hif = s.hif ∧
    (s.updPup sl f).flt = s.flt ∧ (s.updPup sl f).knl = s.knl ∧ (s.updPup sl f).boot = s.boot := by
  and_intros <;> rfl

@[simp] theorem State.updPcl_keeps (sl : Slice) (f : PclSt → PclSt) :
    (s.updPcl sl f).pending = s.pending ∧ (s.updPcl sl f).time = s.time ∧ (s.updPcl sl f).free = s.free ∧
    (s.updPcl sl f).regs = s.regs ∧ (s.updPcl sl f).win = s.win ∧ (s.updPcl sl f).bad = s.bad ∧
    (s.updPcl sl f).wst = s.wst ∧ (s.updPcl sl f).held = s.held ∧ (s.updPcl sl f).frames = s.frames ∧
    (s.updPcl sl f).nextFrame = s.nextFrame ∧ (s.updPcl sl f).nextCopy = s.nextCopy ∧
    (s.updPcl sl f).ports = s.ports ∧ (s.updPcl sl f).macros = s.macros ∧ (s.updPcl sl f).ctxs = s.ctxs ∧
    (s.updPcl sl f).pups = s.pups ∧ (s.updPcl sl f).commitAt = s.commitAt ∧ (s.updPcl sl f).baseImg = s.baseImg ∧
    (s.updPcl sl f).fwds = s.fwds ∧ (s.updPcl sl f).asas = s.asas ∧ (s.updPcl sl f).swcs = s.swcs ∧
    (s.updPcl sl f).links = s.links ∧ (s.updPcl sl f).hrPhase = s.hrPhase ∧ (s.updPcl sl f).sigs = s.sigs ∧
    (s.updPcl sl f).bpms = s.bpms ∧ (s.updPcl sl f).chans = s.chans ∧ (s.updPcl sl f).deepMem = s.deepMem ∧
    (s.updPcl sl f).tmgs = s.tmgs ∧ (s.updPcl sl f).egvs = s.egvs ∧
    (s.updPcl sl f).acts = s.acts ∧ (s.updPcl sl f).fabIn = s.fabIn ∧
    (s.updPcl sl f).gov = s.gov ∧
    (s.updPcl sl f).tsu = s.tsu ∧ (s.updPcl sl f).kce = s.kce ∧ (s.updPcl sl f).hif = s.hif ∧
    (s.updPcl sl f).flt = s.flt ∧ (s.updPcl sl f).knl = s.knl ∧ (s.updPcl sl f).boot = s.boot := by
  and_intros <;> rfl

@[simp] theorem State.updFwd_keeps (sl : Slice) (f : FwdSt → FwdSt) :
    (s.updFwd sl f).pending = s.pending ∧ (s.updFwd sl f).time = s.time ∧ (s.updFwd sl f).free = s.free ∧
    (s.updFwd sl f).regs = s.regs ∧ (s.updFwd sl f).win = s.win ∧ (s.updFwd sl f).bad = s.bad ∧
    (s.updFwd sl f).wst = s.wst ∧ (s.updFwd sl f).held = s.held ∧ (s.updFwd sl f).frames = s.frames ∧
    (s.updFwd sl f).nextFrame = s.nextFrame ∧ (s.updFwd sl f).nextCopy = s.nextCopy ∧
    (s.updFwd sl f).ports = s.ports ∧ (s.updFwd sl f).macros = s.macros ∧ (s.updFwd sl f).ctxs = s.ctxs ∧
    (s.updFwd sl f).pups = s.pups ∧ (s.updFwd sl f).pcls = s.pcls ∧ (s.updFwd sl f).commitAt = s.commitAt ∧
    (s.updFwd sl f).baseImg = s.baseImg ∧ (s.updFwd sl f).asas = s.asas ∧ (s.updFwd sl f).swcs = s.swcs ∧
    (s.updFwd sl f).links = s.links ∧ (s.updFwd sl f).hrPhase = s.hrPhase ∧ (s.updFwd sl f).sigs = s.sigs ∧
    (s.updFwd sl f).bpms = s.bpms ∧ (s.updFwd sl f).chans = s.chans ∧ (s.updFwd sl f).deepMem = s.deepMem ∧
    (s.updFwd sl f).tmgs = s.tmgs ∧ (s.updFwd sl f).egvs = s.egvs ∧
    (s.updFwd sl f).acts = s.acts ∧ (s.updFwd sl f).fabIn = s.fabIn ∧
    (s.updFwd sl f).gov = s.gov ∧
    (s.updFwd sl f).tsu = s.tsu ∧ (s.updFwd sl f).kce = s.kce ∧ (s.updFwd sl f).hif = s.hif ∧
    (s.updFwd sl f).flt = s.flt ∧ (s.updFwd sl f).knl = s.knl ∧ (s.updFwd sl f).boot = s.boot := by
  and_intros <;> rfl

@[simp] theorem State.updAsa_keeps (sl : Slice) (f : AsaSt → AsaSt) :
    (s.updAsa sl f).pending = s.pending ∧ (s.updAsa sl f).time = s.time ∧ (s.updAsa sl f).free = s.free ∧
    (s.updAsa sl f).regs = s.regs ∧ (s.updAsa sl f).win = s.win ∧ (s.updAsa sl f).bad = s.bad ∧
    (s.updAsa sl f).wst = s.wst ∧ (s.updAsa sl f).held = s.held ∧ (s.updAsa sl f).frames = s.frames ∧
    (s.updAsa sl f).nextFrame = s.nextFrame ∧ (s.updAsa sl f).nextCopy = s.nextCopy ∧
    (s.updAsa sl f).ports = s.ports ∧ (s.updAsa sl f).macros = s.macros ∧ (s.updAsa sl f).ctxs = s.ctxs ∧
    (s.updAsa sl f).pups = s.pups ∧ (s.updAsa sl f).pcls = s.pcls ∧ (s.updAsa sl f).commitAt = s.commitAt ∧
    (s.updAsa sl f).baseImg = s.baseImg ∧ (s.updAsa sl f).fwds = s.fwds ∧ (s.updAsa sl f).swcs = s.swcs ∧
    (s.updAsa sl f).links = s.links ∧ (s.updAsa sl f).hrPhase = s.hrPhase ∧ (s.updAsa sl f).sigs = s.sigs ∧
    (s.updAsa sl f).bpms = s.bpms ∧ (s.updAsa sl f).chans = s.chans ∧ (s.updAsa sl f).deepMem = s.deepMem ∧
    (s.updAsa sl f).tmgs = s.tmgs ∧ (s.updAsa sl f).egvs = s.egvs ∧
    (s.updAsa sl f).acts = s.acts ∧ (s.updAsa sl f).fabIn = s.fabIn ∧
    (s.updAsa sl f).gov = s.gov ∧
    (s.updAsa sl f).tsu = s.tsu ∧ (s.updAsa sl f).kce = s.kce ∧ (s.updAsa sl f).hif = s.hif ∧
    (s.updAsa sl f).flt = s.flt ∧ (s.updAsa sl f).knl = s.knl ∧ (s.updAsa sl f).boot = s.boot := by
  and_intros <;> rfl

@[simp] theorem State.updSwc_keeps (sl : Slice) (f : SwcSt → SwcSt) :
    (s.updSwc sl f).pending = s.pending ∧ (s.updSwc sl f).time = s.time ∧ (s.updSwc sl f).free = s.free ∧
    (s.updSwc sl f).regs = s.regs ∧ (s.updSwc sl f).win = s.win ∧ (s.updSwc sl f).bad = s.bad ∧
    (s.updSwc sl f).wst = s.wst ∧ (s.updSwc sl f).held = s.held ∧ (s.updSwc sl f).frames = s.frames ∧
    (s.updSwc sl f).nextFrame = s.nextFrame ∧ (s.updSwc sl f).nextCopy = s.nextCopy ∧
    (s.updSwc sl f).ports = s.ports ∧ (s.updSwc sl f).macros = s.macros ∧ (s.updSwc sl f).ctxs = s.ctxs ∧
    (s.updSwc sl f).pups = s.pups ∧ (s.updSwc sl f).pcls = s.pcls ∧ (s.updSwc sl f).commitAt = s.commitAt ∧
    (s.updSwc sl f).baseImg = s.baseImg ∧ (s.updSwc sl f).fwds = s.fwds ∧ (s.updSwc sl f).asas = s.asas ∧
    (s.updSwc sl f).links = s.links ∧ (s.updSwc sl f).hrPhase = s.hrPhase ∧ (s.updSwc sl f).sigs = s.sigs ∧
    (s.updSwc sl f).bpms = s.bpms ∧ (s.updSwc sl f).chans = s.chans ∧ (s.updSwc sl f).deepMem = s.deepMem ∧
    (s.updSwc sl f).tmgs = s.tmgs ∧ (s.updSwc sl f).egvs = s.egvs ∧
    (s.updSwc sl f).acts = s.acts ∧ (s.updSwc sl f).fabIn = s.fabIn ∧
    (s.updSwc sl f).gov = s.gov ∧
    (s.updSwc sl f).tsu = s.tsu ∧ (s.updSwc sl f).kce = s.kce ∧ (s.updSwc sl f).hif = s.hif ∧
    (s.updSwc sl f).flt = s.flt ∧ (s.updSwc sl f).knl = s.knl ∧ (s.updSwc sl f).boot = s.boot := by
  and_intros <;> rfl

@[simp] theorem State.updBpm_keeps (sl : Slice) (f : BpmSt → BpmSt) :
    (s.updBpm sl f).pending = s.pending ∧ (s.updBpm sl f).time = s.time ∧ (s.updBpm sl f).free = s.free ∧
    (s.updBpm sl f).regs = s.regs ∧ (s.updBpm sl f).win = s.win ∧ (s.updBpm sl f).bad = s.bad ∧
    (s.updBpm sl f).wst = s.wst ∧ (s.updBpm sl f).held = s.held ∧ (s.updBpm sl f).frames = s.frames ∧
    (s.updBpm sl f).nextFrame = s.nextFrame ∧ (s.updBpm sl f).nextCopy = s.nextCopy ∧
    (s.updBpm sl f).ports = s.ports ∧ (s.updBpm sl f).macros = s.macros ∧ (s.updBpm sl f).ctxs = s.ctxs ∧
    (s.updBpm sl f).pups = s.pups ∧ (s.updBpm sl f).pcls = s.pcls ∧ (s.updBpm sl f).commitAt = s.commitAt ∧
    (s.updBpm sl f).baseImg = s.baseImg ∧ (s.updBpm sl f).fwds = s.fwds ∧ (s.updBpm sl f).asas = s.asas ∧
    (s.updBpm sl f).swcs = s.swcs ∧ (s.updBpm sl f).links = s.links ∧ (s.updBpm sl f).hrPhase = s.hrPhase ∧
    (s.updBpm sl f).sigs = s.sigs ∧ (s.updBpm sl f).chans = s.chans ∧ (s.updBpm sl f).deepMem = s.deepMem ∧
    (s.updBpm sl f).tmgs = s.tmgs ∧ (s.updBpm sl f).egvs = s.egvs ∧
    (s.updBpm sl f).acts = s.acts ∧ (s.updBpm sl f).fabIn = s.fabIn ∧
    (s.updBpm sl f).gov = s.gov ∧
    (s.updBpm sl f).tsu = s.tsu ∧ (s.updBpm sl f).kce = s.kce ∧ (s.updBpm sl f).hif = s.hif ∧
    (s.updBpm sl f).flt = s.flt ∧ (s.updBpm sl f).knl = s.knl ∧ (s.updBpm sl f).boot = s.boot := by
  and_intros <;> rfl

@[simp] theorem State.updTmg_keeps (sl : Slice) (f : TmgSt → TmgSt) :
    (s.updTmg sl f).pending = s.pending ∧ (s.updTmg sl f).time = s.time ∧ (s.updTmg sl f).free = s.free ∧
    (s.updTmg sl f).regs = s.regs ∧ (s.updTmg sl f).win = s.win ∧ (s.updTmg sl f).bad = s.bad ∧
    (s.updTmg sl f).wst = s.wst ∧ (s.updTmg sl f).held = s.held ∧ (s.updTmg sl f).frames = s.frames ∧
    (s.updTmg sl f).nextFrame = s.nextFrame ∧ (s.updTmg sl f).nextCopy = s.nextCopy ∧
    (s.updTmg sl f).ports = s.ports ∧ (s.updTmg sl f).macros = s.macros ∧ (s.updTmg sl f).ctxs = s.ctxs ∧
    (s.updTmg sl f).pups = s.pups ∧ (s.updTmg sl f).pcls = s.pcls ∧ (s.updTmg sl f).commitAt = s.commitAt ∧
    (s.updTmg sl f).baseImg = s.baseImg ∧ (s.updTmg sl f).fwds = s.fwds ∧ (s.updTmg sl f).asas = s.asas ∧
    (s.updTmg sl f).swcs = s.swcs ∧ (s.updTmg sl f).links = s.links ∧ (s.updTmg sl f).hrPhase = s.hrPhase ∧
    (s.updTmg sl f).sigs = s.sigs ∧ (s.updTmg sl f).bpms = s.bpms ∧ (s.updTmg sl f).chans = s.chans ∧
    (s.updTmg sl f).deepMem = s.deepMem ∧ (s.updTmg sl f).egvs = s.egvs ∧
    (s.updTmg sl f).acts = s.acts ∧ (s.updTmg sl f).fabIn = s.fabIn ∧
    (s.updTmg sl f).gov = s.gov ∧
    (s.updTmg sl f).tsu = s.tsu ∧ (s.updTmg sl f).kce = s.kce ∧ (s.updTmg sl f).hif = s.hif ∧
    (s.updTmg sl f).flt = s.flt ∧ (s.updTmg sl f).knl = s.knl ∧ (s.updTmg sl f).boot = s.boot := by
  and_intros <;> rfl

@[simp] theorem State.updEgv_keeps (sl : Slice) (f : EgvSt → EgvSt) :
    (s.updEgv sl f).pending = s.pending ∧ (s.updEgv sl f).time = s.time ∧ (s.updEgv sl f).free = s.free ∧
    (s.updEgv sl f).regs = s.regs ∧ (s.updEgv sl f).win = s.win ∧ (s.updEgv sl f).bad = s.bad ∧
    (s.updEgv sl f).wst = s.wst ∧ (s.updEgv sl f).held = s.held ∧ (s.updEgv sl f).frames = s.frames ∧
    (s.updEgv sl f).nextFrame = s.nextFrame ∧ (s.updEgv sl f).nextCopy = s.nextCopy ∧
    (s.updEgv sl f).ports = s.ports ∧ (s.updEgv sl f).macros = s.macros ∧ (s.updEgv sl f).ctxs = s.ctxs ∧
    (s.updEgv sl f).pups = s.pups ∧ (s.updEgv sl f).pcls = s.pcls ∧ (s.updEgv sl f).commitAt = s.commitAt ∧
    (s.updEgv sl f).baseImg = s.baseImg ∧ (s.updEgv sl f).fwds = s.fwds ∧ (s.updEgv sl f).asas = s.asas ∧
    (s.updEgv sl f).swcs = s.swcs ∧ (s.updEgv sl f).links = s.links ∧ (s.updEgv sl f).hrPhase = s.hrPhase ∧
    (s.updEgv sl f).sigs = s.sigs ∧ (s.updEgv sl f).bpms = s.bpms ∧ (s.updEgv sl f).chans = s.chans ∧
    (s.updEgv sl f).deepMem = s.deepMem ∧ (s.updEgv sl f).tmgs = s.tmgs ∧
    (s.updEgv sl f).acts = s.acts ∧ (s.updEgv sl f).fabIn = s.fabIn ∧
    (s.updEgv sl f).gov = s.gov ∧
    (s.updEgv sl f).tsu = s.tsu ∧ (s.updEgv sl f).kce = s.kce ∧ (s.updEgv sl f).hif = s.hif ∧
    (s.updEgv sl f).flt = s.flt ∧ (s.updEgv sl f).knl = s.knl ∧ (s.updEgv sl f).boot = s.boot := by
  and_intros <;> rfl

@[simp] theorem State.noteAct_keeps (sl : Slice) (k n : Nat) :
    (s.noteAct sl k n).pending = s.pending ∧ (s.noteAct sl k n).time = s.time ∧ (s.noteAct sl k n).free = s.free ∧
    (s.noteAct sl k n).regs = s.regs ∧ (s.noteAct sl k n).win = s.win ∧ (s.noteAct sl k n).bad = s.bad ∧
    (s.noteAct sl k n).wst = s.wst ∧ (s.noteAct sl k n).held = s.held ∧ (s.noteAct sl k n).frames = s.frames ∧
    (s.noteAct sl k n).nextFrame = s.nextFrame ∧ (s.noteAct sl k n).nextCopy = s.nextCopy ∧
    (s.noteAct sl k n).ports = s.ports ∧ (s.noteAct sl k n).macros = s.macros ∧ (s.noteAct sl k n).ctxs = s.ctxs ∧
    (s.noteAct sl k n).pups = s.pups ∧ (s.noteAct sl k n).pcls = s.pcls ∧ (s.noteAct sl k n).commitAt = s.commitAt ∧
    (s.noteAct sl k n).baseImg = s.baseImg ∧ (s.noteAct sl k n).fwds = s.fwds ∧ (s.noteAct sl k n).asas = s.asas ∧
    (s.noteAct sl k n).swcs = s.swcs ∧ (s.noteAct sl k n).links = s.links ∧ (s.noteAct sl k n).hrPhase = s.hrPhase ∧
    (s.noteAct sl k n).sigs = s.sigs ∧ (s.noteAct sl k n).bpms = s.bpms ∧ (s.noteAct sl k n).chans = s.chans ∧
    (s.noteAct sl k n).deepMem = s.deepMem ∧ (s.noteAct sl k n).tmgs = s.tmgs ∧ (s.noteAct sl k n).egvs = s.egvs ∧ (s.noteAct sl k n).fabIn = s.fabIn ∧
    (s.noteAct sl k n).gov = s.gov ∧
    (s.noteAct sl k n).tsu = s.tsu ∧ (s.noteAct sl k n).kce = s.kce ∧ (s.noteAct sl k n).hif = s.hif ∧
    (s.noteAct sl k n).flt = s.flt ∧ (s.noteAct sl k n).knl = s.knl ∧ (s.noteAct sl k n).boot = s.boot := by
  and_intros <;> rfl

@[simp] theorem State.updPort_keeps (k : Nat) (f : PortSt → PortSt) :
    (s.updPort k f).pending = s.pending ∧ (s.updPort k f).time = s.time ∧ (s.updPort k f).free = s.free ∧
    (s.updPort k f).regs = s.regs ∧ (s.updPort k f).win = s.win ∧ (s.updPort k f).bad = s.bad ∧
    (s.updPort k f).wst = s.wst ∧ (s.updPort k f).held = s.held ∧ (s.updPort k f).frames = s.frames ∧
    (s.updPort k f).nextFrame = s.nextFrame ∧ (s.updPort k f).nextCopy = s.nextCopy ∧
    (s.updPort k f).macros = s.macros ∧ (s.updPort k f).ctxs = s.ctxs ∧ (s.updPort k f).pups = s.pups ∧
    (s.updPort k f).pcls = s.pcls ∧ (s.updPort k f).commitAt = s.commitAt ∧ (s.updPort k f).baseImg = s.baseImg ∧
    (s.updPort k f).fwds = s.fwds ∧ (s.updPort k f).asas = s.asas ∧ (s.updPort k f).swcs = s.swcs ∧
    (s.updPort k f).links = s.links ∧ (s.updPort k f).hrPhase = s.hrPhase ∧ (s.updPort k f).sigs = s.sigs ∧
    (s.updPort k f).bpms = s.bpms ∧ (s.updPort k f).chans = s.chans ∧ (s.updPort k f).deepMem = s.deepMem ∧
    (s.updPort k f).tmgs = s.tmgs ∧ (s.updPort k f).egvs = s.egvs ∧
    (s.updPort k f).acts = s.acts ∧ (s.updPort k f).fabIn = s.fabIn ∧
    (s.updPort k f).gov = s.gov ∧
    (s.updPort k f).tsu = s.tsu ∧ (s.updPort k f).kce = s.kce ∧ (s.updPort k f).hif = s.hif ∧
    (s.updPort k f).flt = s.flt ∧ (s.updPort k f).knl = s.knl ∧ (s.updPort k f).boot = s.boot := by
  and_intros <;> rfl

@[simp] theorem State.updMacro_keeps (k : Nat) (f : MacroSt → MacroSt) :
    (s.updMacro k f).pending = s.pending ∧ (s.updMacro k f).time = s.time ∧ (s.updMacro k f).free = s.free ∧
    (s.updMacro k f).regs = s.regs ∧ (s.updMacro k f).win = s.win ∧ (s.updMacro k f).bad = s.bad ∧
    (s.updMacro k f).wst = s.wst ∧ (s.updMacro k f).held = s.held ∧ (s.updMacro k f).frames = s.frames ∧
    (s.updMacro k f).nextFrame = s.nextFrame ∧ (s.updMacro k f).nextCopy = s.nextCopy ∧
    (s.updMacro k f).ports = s.ports ∧ (s.updMacro k f).ctxs = s.ctxs ∧ (s.updMacro k f).pups = s.pups ∧
    (s.updMacro k f).pcls = s.pcls ∧ (s.updMacro k f).commitAt = s.commitAt ∧
    (s.updMacro k f).baseImg = s.baseImg ∧ (s.updMacro k f).fwds = s.fwds ∧ (s.updMacro k f).asas = s.asas ∧
    (s.updMacro k f).swcs = s.swcs ∧ (s.updMacro k f).links = s.links ∧ (s.updMacro k f).hrPhase = s.hrPhase ∧
    (s.updMacro k f).sigs = s.sigs ∧ (s.updMacro k f).bpms = s.bpms ∧ (s.updMacro k f).chans = s.chans ∧
    (s.updMacro k f).deepMem = s.deepMem ∧ (s.updMacro k f).tmgs = s.tmgs ∧ (s.updMacro k f).egvs = s.egvs ∧
    (s.updMacro k f).acts = s.acts ∧ (s.updMacro k f).fabIn = s.fabIn ∧
    (s.updMacro k f).gov = s.gov ∧ (s.updMacro k f).tsu = s.tsu ∧ (s.updMacro k f).kce = s.kce ∧
    (s.updMacro k f).hif = s.hif ∧ (s.updMacro k f).flt = s.flt ∧ (s.updMacro k f).knl = s.knl ∧
    (s.updMacro k f).boot = s.boot := by
  and_intros <;> rfl

@[simp] theorem State.updChan_keeps (k : Nat) (f : ChanSt → ChanSt) :
    (s.updChan k f).pending = s.pending ∧ (s.updChan k f).time = s.time ∧ (s.updChan k f).free = s.free ∧
    (s.updChan k f).regs = s.regs ∧ (s.updChan k f).win = s.win ∧ (s.updChan k f).bad = s.bad ∧
    (s.updChan k f).wst = s.wst ∧ (s.updChan k f).held = s.held ∧ (s.updChan k f).frames = s.frames ∧
    (s.updChan k f).nextFrame = s.nextFrame ∧ (s.updChan k f).nextCopy = s.nextCopy ∧
    (s.updChan k f).ports = s.ports ∧ (s.updChan k f).macros = s.macros ∧ (s.updChan k f).ctxs = s.ctxs ∧
    (s.updChan k f).pups = s.pups ∧ (s.updChan k f).pcls = s.pcls ∧ (s.updChan k f).commitAt = s.commitAt ∧
    (s.updChan k f).baseImg = s.baseImg ∧ (s.updChan k f).fwds = s.fwds ∧ (s.updChan k f).asas = s.asas ∧
    (s.updChan k f).swcs = s.swcs ∧ (s.updChan k f).links = s.links ∧ (s.updChan k f).hrPhase = s.hrPhase ∧
    (s.updChan k f).sigs = s.sigs ∧ (s.updChan k f).bpms = s.bpms ∧ (s.updChan k f).deepMem = s.deepMem ∧
    (s.updChan k f).tmgs = s.tmgs ∧ (s.updChan k f).egvs = s.egvs ∧
    (s.updChan k f).acts = s.acts ∧ (s.updChan k f).fabIn = s.fabIn ∧
    (s.updChan k f).gov = s.gov ∧
    (s.updChan k f).tsu = s.tsu ∧ (s.updChan k f).kce = s.kce ∧ (s.updChan k f).hif = s.hif ∧
    (s.updChan k f).flt = s.flt ∧ (s.updChan k f).knl = s.knl ∧ (s.updChan k f).boot = s.boot := by
  and_intros <;> rfl

@[simp] theorem State.updFrame_keeps (k : Nat) (f : Frame → Frame) :
    (s.updFrame k f).pending = s.pending ∧ (s.updFrame k f).time = s.time ∧ (s.updFrame k f).free = s.free ∧
    (s.updFrame k f).regs = s.regs ∧ (s.updFrame k f).win = s.win ∧ (s.updFrame k f).bad = s.bad ∧
    (s.updFrame k f).wst = s.wst ∧ (s.updFrame k f).held = s.held ∧ (s.updFrame k f).nextFrame = s.nextFrame ∧
    (s.updFrame k f).nextCopy = s.nextCopy ∧ (s.updFrame k f).ports = s.ports ∧
    (s.updFrame k f).macros = s.macros ∧ (s.updFrame k f).ctxs = s.ctxs ∧ (s.updFrame k f).pups = s.pups ∧
    (s.updFrame k f).pcls = s.pcls ∧ (s.updFrame k f).commitAt = s.commitAt ∧
    (s.updFrame k f).baseImg = s.baseImg ∧ (s.updFrame k f).fwds = s.fwds ∧ (s.updFrame k f).asas = s.asas ∧
    (s.updFrame k f).swcs = s.swcs ∧ (s.updFrame k f).links = s.links ∧ (s.updFrame k f).hrPhase = s.hrPhase ∧
    (s.updFrame k f).sigs = s.sigs ∧ (s.updFrame k f).bpms = s.bpms ∧ (s.updFrame k f).chans = s.chans ∧
    (s.updFrame k f).deepMem = s.deepMem ∧ (s.updFrame k f).tmgs = s.tmgs ∧ (s.updFrame k f).egvs = s.egvs ∧
    (s.updFrame k f).acts = s.acts ∧ (s.updFrame k f).fabIn = s.fabIn ∧
    (s.updFrame k f).gov = s.gov ∧ (s.updFrame k f).tsu = s.tsu ∧ (s.updFrame k f).kce = s.kce ∧
    (s.updFrame k f).hif = s.hif ∧ (s.updFrame k f).flt = s.flt ∧ (s.updFrame k f).knl = s.knl ∧
    (s.updFrame k f).boot = s.boot := by
  and_intros <;> rfl

@[simp] theorem State.updFn_keeps (k : Nat) (f : FnSt → FnSt) :
    (s.updFn k f).pending = s.pending ∧ (s.updFn k f).time = s.time ∧ (s.updFn k f).free = s.free ∧
    (s.updFn k f).regs = s.regs ∧ (s.updFn k f).win = s.win ∧ (s.updFn k f).bad = s.bad ∧
    (s.updFn k f).wst = s.wst ∧ (s.updFn k f).held = s.held ∧ (s.updFn k f).frames = s.frames ∧
    (s.updFn k f).nextFrame = s.nextFrame ∧ (s.updFn k f).nextCopy = s.nextCopy ∧ (s.updFn k f).ports = s.ports ∧
    (s.updFn k f).macros = s.macros ∧ (s.updFn k f).ctxs = s.ctxs ∧ (s.updFn k f).pups = s.pups ∧
    (s.updFn k f).pcls = s.pcls ∧ (s.updFn k f).commitAt = s.commitAt ∧ (s.updFn k f).baseImg = s.baseImg ∧
    (s.updFn k f).fwds = s.fwds ∧ (s.updFn k f).asas = s.asas ∧ (s.updFn k f).swcs = s.swcs ∧
    (s.updFn k f).links = s.links ∧ (s.updFn k f).hrPhase = s.hrPhase ∧ (s.updFn k f).sigs = s.sigs ∧
    (s.updFn k f).bpms = s.bpms ∧ (s.updFn k f).chans = s.chans ∧ (s.updFn k f).deepMem = s.deepMem ∧
    (s.updFn k f).tmgs = s.tmgs ∧ (s.updFn k f).egvs = s.egvs ∧ (s.updFn k f).acts = s.acts ∧ (s.updFn k f).fabIn = s.fabIn ∧
    (s.updFn k f).gov = s.gov ∧
    (s.updFn k f).tsu = s.tsu ∧ (s.updFn k f).kce = s.kce ∧ (s.updFn k f).flt = s.flt ∧ (s.updFn k f).knl = s.knl ∧
    (s.updFn k f).boot = s.boot := by
  and_intros <;> rfl

@[simp] theorem State.updFifo_keeps (k : Nat) (f : FifoSt → FifoSt) :
    (s.updFifo k f).pending = s.pending ∧ (s.updFifo k f).time = s.time ∧ (s.updFifo k f).free = s.free ∧
    (s.updFifo k f).regs = s.regs ∧ (s.updFifo k f).win = s.win ∧ (s.updFifo k f).bad = s.bad ∧
    (s.updFifo k f).wst = s.wst ∧ (s.updFifo k f).held = s.held ∧ (s.updFifo k f).frames = s.frames ∧
    (s.updFifo k f).nextFrame = s.nextFrame ∧ (s.updFifo k f).nextCopy = s.nextCopy ∧
    (s.updFifo k f).ports = s.ports ∧ (s.updFifo k f).macros = s.macros ∧ (s.updFifo k f).ctxs = s.ctxs ∧
    (s.updFifo k f).pups = s.pups ∧ (s.updFifo k f).pcls = s.pcls ∧ (s.updFifo k f).commitAt = s.commitAt ∧
    (s.updFifo k f).baseImg = s.baseImg ∧ (s.updFifo k f).fwds = s.fwds ∧ (s.updFifo k f).asas = s.asas ∧
    (s.updFifo k f).swcs = s.swcs ∧ (s.updFifo k f).links = s.links ∧ (s.updFifo k f).hrPhase = s.hrPhase ∧
    (s.updFifo k f).sigs = s.sigs ∧ (s.updFifo k f).bpms = s.bpms ∧ (s.updFifo k f).chans = s.chans ∧
    (s.updFifo k f).deepMem = s.deepMem ∧ (s.updFifo k f).tmgs = s.tmgs ∧ (s.updFifo k f).egvs = s.egvs ∧
    (s.updFifo k f).acts = s.acts ∧ (s.updFifo k f).fabIn = s.fabIn ∧
    (s.updFifo k f).gov = s.gov ∧ (s.updFifo k f).tsu = s.tsu ∧ (s.updFifo k f).kce = s.kce ∧
    (s.updFifo k f).flt = s.flt ∧ (s.updFifo k f).knl = s.knl ∧ (s.updFifo k f).boot = s.boot := by
  and_intros <;> rfl

@[simp] theorem State.setReg_reads (i : InstId) (off : Nat) (v : Word) :
    (∀ j u g, (s.setReg i off v).winWord j u g = s.winWord j u g) ∧
    (∀ j u g, (s.setReg i off v).badWord j u g = s.badWord j u g) ∧ (∀ y, (s.setReg i off v).ctx y = s.ctx y) ∧
    (∀ y, (s.setReg i off v).pup y = s.pup y) ∧ (∀ y, (s.setReg i off v).pcl y = s.pcl y) ∧
    (∀ y, (s.setReg i off v).fwd y = s.fwd y) ∧ (∀ y, (s.setReg i off v).asa y = s.asa y) ∧
    (∀ y, (s.setReg i off v).swc y = s.swc y) ∧ (∀ y, (s.setReg i off v).bpm y = s.bpm y) ∧
    (∀ y, (s.setReg i off v).tmg y = s.tmg y) ∧ (∀ y, (s.setReg i off v).egv y = s.egv y) := by
  and_intros <;> intros <;> rfl

@[simp] theorem State.setRegF_reads (i : InstId) (off lo width v : Nat) :
    (∀ j u g, (s.setRegF i off lo width v).winWord j u g = s.winWord j u g) ∧
    (∀ j u g, (s.setRegF i off lo width v).badWord j u g = s.badWord j u g) ∧
    (∀ y, (s.setRegF i off lo width v).ctx y = s.ctx y) ∧ (∀ y, (s.setRegF i off lo width v).pup y = s.pup y) ∧
    (∀ y, (s.setRegF i off lo width v).pcl y = s.pcl y) ∧ (∀ y, (s.setRegF i off lo width v).fwd y = s.fwd y) ∧
    (∀ y, (s.setRegF i off lo width v).asa y = s.asa y) ∧ (∀ y, (s.setRegF i off lo width v).swc y = s.swc y) ∧
    (∀ y, (s.setRegF i off lo width v).bpm y = s.bpm y) ∧ (∀ y, (s.setRegF i off lo width v).tmg y = s.tmg y) ∧
    (∀ y, (s.setRegF i off lo width v).egv y = s.egv y) := by
  and_intros <;> intros <;> rfl

@[simp] theorem State.setRegB_reads (i : InstId) (off k : Nat) (b : Bool) :
    (∀ j u g, (s.setRegB i off k b).winWord j u g = s.winWord j u g) ∧
    (∀ j u g, (s.setRegB i off k b).badWord j u g = s.badWord j u g) ∧
    (∀ y, (s.setRegB i off k b).ctx y = s.ctx y) ∧ (∀ y, (s.setRegB i off k b).pup y = s.pup y) ∧
    (∀ y, (s.setRegB i off k b).pcl y = s.pcl y) ∧ (∀ y, (s.setRegB i off k b).fwd y = s.fwd y) ∧
    (∀ y, (s.setRegB i off k b).asa y = s.asa y) ∧ (∀ y, (s.setRegB i off k b).swc y = s.swc y) ∧
    (∀ y, (s.setRegB i off k b).bpm y = s.bpm y) ∧ (∀ y, (s.setRegB i off k b).tmg y = s.tmg y) ∧
    (∀ y, (s.setRegB i off k b).egv y = s.egv y) := by
  and_intros <;> intros <;> rfl

@[simp] theorem State.count_reads (i : InstId) (off lo width n : Nat) :
    (∀ j u g, (s.count i off lo width n).winWord j u g = s.winWord j u g) ∧
    (∀ j u g, (s.count i off lo width n).badWord j u g = s.badWord j u g) ∧
    (∀ y, (s.count i off lo width n).ctx y = s.ctx y) ∧ (∀ y, (s.count i off lo width n).pup y = s.pup y) ∧
    (∀ y, (s.count i off lo width n).pcl y = s.pcl y) ∧ (∀ y, (s.count i off lo width n).fwd y = s.fwd y) ∧
    (∀ y, (s.count i off lo width n).asa y = s.asa y) ∧ (∀ y, (s.count i off lo width n).swc y = s.swc y) ∧
    (∀ y, (s.count i off lo width n).bpm y = s.bpm y) ∧ (∀ y, (s.count i off lo width n).tmg y = s.tmg y) ∧
    (∀ y, (s.count i off lo width n).egv y = s.egv y) := by
  and_intros <;> intros <;> rfl

@[simp] theorem State.setWinWord_reads (i : InstId) (w a : Nat) (v : Word) :
    (∀ j o, (s.setWinWord i w a v).reg j o = s.reg j o) ∧
    (∀ j o l k, (s.setWinWord i w a v).regF j o l k = s.regF j o l k) ∧
    (∀ j o k, (s.setWinWord i w a v).regB j o k = s.regB j o k) ∧ (∀ y, (s.setWinWord i w a v).ctx y = s.ctx y) ∧
    (∀ y, (s.setWinWord i w a v).pup y = s.pup y) ∧ (∀ y, (s.setWinWord i w a v).pcl y = s.pcl y) ∧
    (∀ y, (s.setWinWord i w a v).fwd y = s.fwd y) ∧ (∀ y, (s.setWinWord i w a v).asa y = s.asa y) ∧
    (∀ y, (s.setWinWord i w a v).swc y = s.swc y) ∧ (∀ y, (s.setWinWord i w a v).bpm y = s.bpm y) ∧
    (∀ y, (s.setWinWord i w a v).tmg y = s.tmg y) ∧ (∀ y, (s.setWinWord i w a v).egv y = s.egv y) := by
  and_intros <;> intros <;> rfl

@[simp] theorem State.setEnt_reads (i : InstId) (w e k : Nat) (v : Word) :
    (∀ j o, (s.setEnt i w e k v).reg j o = s.reg j o) ∧
    (∀ j o l k, (s.setEnt i w e k v).regF j o l k = s.regF j o l k) ∧
    (∀ j o k, (s.setEnt i w e k v).regB j o k = s.regB j o k) ∧ (∀ y, (s.setEnt i w e k v).ctx y = s.ctx y) ∧
    (∀ y, (s.setEnt i w e k v).pup y = s.pup y) ∧ (∀ y, (s.setEnt i w e k v).pcl y = s.pcl y) ∧
    (∀ y, (s.setEnt i w e k v).fwd y = s.fwd y) ∧ (∀ y, (s.setEnt i w e k v).asa y = s.asa y) ∧
    (∀ y, (s.setEnt i w e k v).swc y = s.swc y) ∧ (∀ y, (s.setEnt i w e k v).bpm y = s.bpm y) ∧
    (∀ y, (s.setEnt i w e k v).tmg y = s.tmg y) ∧ (∀ y, (s.setEnt i w e k v).egv y = s.egv y) := by
  and_intros <;> intros <;> rfl

@[simp] theorem State.setWs_reads (i : InstId) (x : WinState) :
    (∀ j o, (s.setWs i x).reg j o = s.reg j o) ∧ (∀ j o l k, (s.setWs i x).regF j o l k = s.regF j o l k) ∧
    (∀ j o k, (s.setWs i x).regB j o k = s.regB j o k) ∧ (∀ j u g, (s.setWs i x).winWord j u g = s.winWord j u g) ∧
    (∀ j u g, (s.setWs i x).badWord j u g = s.badWord j u g) ∧ (∀ y, (s.setWs i x).ctx y = s.ctx y) ∧
    (∀ y, (s.setWs i x).pup y = s.pup y) ∧ (∀ y, (s.setWs i x).pcl y = s.pcl y) ∧
    (∀ y, (s.setWs i x).fwd y = s.fwd y) ∧ (∀ y, (s.setWs i x).asa y = s.asa y) ∧
    (∀ y, (s.setWs i x).swc y = s.swc y) ∧ (∀ y, (s.setWs i x).bpm y = s.bpm y) ∧
    (∀ y, (s.setWs i x).tmg y = s.tmg y) ∧ (∀ y, (s.setWs i x).egv y = s.egv y) := by
  and_intros <;> intros <;> rfl

@[simp] theorem State.setCtx_reads (x : CtxId) (c : Ctx) :
    (∀ j o, (s.setCtx x c).reg j o = s.reg j o) ∧ (∀ j o l k, (s.setCtx x c).regF j o l k = s.regF j o l k) ∧
    (∀ j o k, (s.setCtx x c).regB j o k = s.regB j o k) ∧
    (∀ j u g, (s.setCtx x c).winWord j u g = s.winWord j u g) ∧
    (∀ j u g, (s.setCtx x c).badWord j u g = s.badWord j u g) ∧ (∀ y, (s.setCtx x c).pup y = s.pup y) ∧
    (∀ y, (s.setCtx x c).pcl y = s.pcl y) ∧ (∀ y, (s.setCtx x c).fwd y = s.fwd y) ∧
    (∀ y, (s.setCtx x c).asa y = s.asa y) ∧ (∀ y, (s.setCtx x c).swc y = s.swc y) ∧
    (∀ y, (s.setCtx x c).bpm y = s.bpm y) ∧ (∀ y, (s.setCtx x c).tmg y = s.tmg y) ∧
    (∀ y, (s.setCtx x c).egv y = s.egv y) := by
  and_intros <;> intros <;> rfl

@[simp] theorem State.updCtx_reads (x : CtxId) (f : Ctx → Ctx) :
    (∀ j o, (s.updCtx x f).reg j o = s.reg j o) ∧ (∀ j o l k, (s.updCtx x f).regF j o l k = s.regF j o l k) ∧
    (∀ j o k, (s.updCtx x f).regB j o k = s.regB j o k) ∧
    (∀ j u g, (s.updCtx x f).winWord j u g = s.winWord j u g) ∧
    (∀ j u g, (s.updCtx x f).badWord j u g = s.badWord j u g) ∧ (∀ y, (s.updCtx x f).pup y = s.pup y) ∧
    (∀ y, (s.updCtx x f).pcl y = s.pcl y) ∧ (∀ y, (s.updCtx x f).fwd y = s.fwd y) ∧
    (∀ y, (s.updCtx x f).asa y = s.asa y) ∧ (∀ y, (s.updCtx x f).swc y = s.swc y) ∧
    (∀ y, (s.updCtx x f).bpm y = s.bpm y) ∧ (∀ y, (s.updCtx x f).tmg y = s.tmg y) ∧
    (∀ y, (s.updCtx x f).egv y = s.egv y) := by
  and_intros <;> intros <;> rfl

@[simp] theorem State.noteFault_reads (src group : Nat) :
    (∀ j o, (s.noteFault src group).reg j o = s.reg j o) ∧
    (∀ j o l k, (s.noteFault src group).regF j o l k = s.regF j o l k) ∧
    (∀ j o k, (s.noteFault src group).regB j o k = s.regB j o k) ∧
    (∀ j u g, (s.noteFault src group).winWord j u g = s.winWord j u g) ∧
    (∀ j u g, (s.noteFault src group).badWord j u g = s.badWord j u g) ∧
    (∀ y, (s.noteFault src group).ctx y = s.ctx y) ∧ (∀ y, (s.noteFault src group).pup y = s.pup y) ∧
    (∀ y, (s.noteFault src group).pcl y = s.pcl y) ∧ (∀ y, (s.noteFault src group).fwd y = s.fwd y) ∧
    (∀ y, (s.noteFault src group).asa y = s.asa y) ∧ (∀ y, (s.noteFault src group).swc y = s.swc y) ∧
    (∀ y, (s.noteFault src group).bpm y = s.bpm y) ∧ (∀ y, (s.noteFault src group).tmg y = s.tmg y) ∧
    (∀ y, (s.noteFault src group).egv y = s.egv y) := by
  and_intros <;> intros <;> rfl

@[simp] theorem State.sendMsi_reads (fn vec : Nat) :
    (∀ j o, (s.sendMsi fn vec).reg j o = s.reg j o) ∧
    (∀ j o l k, (s.sendMsi fn vec).regF j o l k = s.regF j o l k) ∧
    (∀ j o k, (s.sendMsi fn vec).regB j o k = s.regB j o k) ∧
    (∀ j u g, (s.sendMsi fn vec).winWord j u g = s.winWord j u g) ∧
    (∀ j u g, (s.sendMsi fn vec).badWord j u g = s.badWord j u g) ∧ (∀ y, (s.sendMsi fn vec).ctx y = s.ctx y) ∧
    (∀ y, (s.sendMsi fn vec).pup y = s.pup y) ∧ (∀ y, (s.sendMsi fn vec).pcl y = s.pcl y) ∧
    (∀ y, (s.sendMsi fn vec).fwd y = s.fwd y) ∧ (∀ y, (s.sendMsi fn vec).asa y = s.asa y) ∧
    (∀ y, (s.sendMsi fn vec).swc y = s.swc y) ∧ (∀ y, (s.sendMsi fn vec).bpm y = s.bpm y) ∧
    (∀ y, (s.sendMsi fn vec).tmg y = s.tmg y) ∧ (∀ y, (s.sendMsi fn vec).egv y = s.egv y) := by
  obtain ⟨h, e⟩ := s.sendMsi_eq fn vec
  rw [e]
  and_intros <;> intros <;> rfl

@[simp] theorem State.updPup_reads (sl : Slice) (f : PupSt → PupSt) :
    (∀ j o, (s.updPup sl f).reg j o = s.reg j o) ∧ (∀ j o l k, (s.updPup sl f).regF j o l k = s.regF j o l k) ∧
    (∀ j o k, (s.updPup sl f).regB j o k = s.regB j o k) ∧
    (∀ j u g, (s.updPup sl f).winWord j u g = s.winWord j u g) ∧
    (∀ j u g, (s.updPup sl f).badWord j u g = s.badWord j u g) ∧ (∀ y, (s.updPup sl f).ctx y = s.ctx y) ∧
    (∀ y, (s.updPup sl f).pcl y = s.pcl y) ∧ (∀ y, (s.updPup sl f).fwd y = s.fwd y) ∧
    (∀ y, (s.updPup sl f).asa y = s.asa y) ∧ (∀ y, (s.updPup sl f).swc y = s.swc y) ∧
    (∀ y, (s.updPup sl f).bpm y = s.bpm y) ∧ (∀ y, (s.updPup sl f).tmg y = s.tmg y) ∧
    (∀ y, (s.updPup sl f).egv y = s.egv y) := by
  and_intros <;> intros <;> rfl

@[simp] theorem State.updPcl_reads (sl : Slice) (f : PclSt → PclSt) :
    (∀ j o, (s.updPcl sl f).reg j o = s.reg j o) ∧ (∀ j o l k, (s.updPcl sl f).regF j o l k = s.regF j o l k) ∧
    (∀ j o k, (s.updPcl sl f).regB j o k = s.regB j o k) ∧
    (∀ j u g, (s.updPcl sl f).winWord j u g = s.winWord j u g) ∧
    (∀ j u g, (s.updPcl sl f).badWord j u g = s.badWord j u g) ∧ (∀ y, (s.updPcl sl f).ctx y = s.ctx y) ∧
    (∀ y, (s.updPcl sl f).pup y = s.pup y) ∧ (∀ y, (s.updPcl sl f).fwd y = s.fwd y) ∧
    (∀ y, (s.updPcl sl f).asa y = s.asa y) ∧ (∀ y, (s.updPcl sl f).swc y = s.swc y) ∧
    (∀ y, (s.updPcl sl f).bpm y = s.bpm y) ∧ (∀ y, (s.updPcl sl f).tmg y = s.tmg y) ∧
    (∀ y, (s.updPcl sl f).egv y = s.egv y) := by
  and_intros <;> intros <;> rfl

@[simp] theorem State.updFwd_reads (sl : Slice) (f : FwdSt → FwdSt) :
    (∀ j o, (s.updFwd sl f).reg j o = s.reg j o) ∧ (∀ j o l k, (s.updFwd sl f).regF j o l k = s.regF j o l k) ∧
    (∀ j o k, (s.updFwd sl f).regB j o k = s.regB j o k) ∧
    (∀ j u g, (s.updFwd sl f).winWord j u g = s.winWord j u g) ∧
    (∀ j u g, (s.updFwd sl f).badWord j u g = s.badWord j u g) ∧ (∀ y, (s.updFwd sl f).ctx y = s.ctx y) ∧
    (∀ y, (s.updFwd sl f).pup y = s.pup y) ∧ (∀ y, (s.updFwd sl f).pcl y = s.pcl y) ∧
    (∀ y, (s.updFwd sl f).asa y = s.asa y) ∧ (∀ y, (s.updFwd sl f).swc y = s.swc y) ∧
    (∀ y, (s.updFwd sl f).bpm y = s.bpm y) ∧ (∀ y, (s.updFwd sl f).tmg y = s.tmg y) ∧
    (∀ y, (s.updFwd sl f).egv y = s.egv y) := by
  and_intros <;> intros <;> rfl

@[simp] theorem State.updAsa_reads (sl : Slice) (f : AsaSt → AsaSt) :
    (∀ j o, (s.updAsa sl f).reg j o = s.reg j o) ∧ (∀ j o l k, (s.updAsa sl f).regF j o l k = s.regF j o l k) ∧
    (∀ j o k, (s.updAsa sl f).regB j o k = s.regB j o k) ∧
    (∀ j u g, (s.updAsa sl f).winWord j u g = s.winWord j u g) ∧
    (∀ j u g, (s.updAsa sl f).badWord j u g = s.badWord j u g) ∧ (∀ y, (s.updAsa sl f).ctx y = s.ctx y) ∧
    (∀ y, (s.updAsa sl f).pup y = s.pup y) ∧ (∀ y, (s.updAsa sl f).pcl y = s.pcl y) ∧
    (∀ y, (s.updAsa sl f).fwd y = s.fwd y) ∧ (∀ y, (s.updAsa sl f).swc y = s.swc y) ∧
    (∀ y, (s.updAsa sl f).bpm y = s.bpm y) ∧ (∀ y, (s.updAsa sl f).tmg y = s.tmg y) ∧
    (∀ y, (s.updAsa sl f).egv y = s.egv y) := by
  and_intros <;> intros <;> rfl

@[simp] theorem State.updSwc_reads (sl : Slice) (f : SwcSt → SwcSt) :
    (∀ j o, (s.updSwc sl f).reg j o = s.reg j o) ∧ (∀ j o l k, (s.updSwc sl f).regF j o l k = s.regF j o l k) ∧
    (∀ j o k, (s.updSwc sl f).regB j o k = s.regB j o k) ∧
    (∀ j u g, (s.updSwc sl f).winWord j u g = s.winWord j u g) ∧
    (∀ j u g, (s.updSwc sl f).badWord j u g = s.badWord j u g) ∧ (∀ y, (s.updSwc sl f).ctx y = s.ctx y) ∧
    (∀ y, (s.updSwc sl f).pup y = s.pup y) ∧ (∀ y, (s.updSwc sl f).pcl y = s.pcl y) ∧
    (∀ y, (s.updSwc sl f).fwd y = s.fwd y) ∧ (∀ y, (s.updSwc sl f).asa y = s.asa y) ∧
    (∀ y, (s.updSwc sl f).bpm y = s.bpm y) ∧ (∀ y, (s.updSwc sl f).tmg y = s.tmg y) ∧
    (∀ y, (s.updSwc sl f).egv y = s.egv y) := by
  and_intros <;> intros <;> rfl

@[simp] theorem State.updBpm_reads (sl : Slice) (f : BpmSt → BpmSt) :
    (∀ j o, (s.updBpm sl f).reg j o = s.reg j o) ∧ (∀ j o l k, (s.updBpm sl f).regF j o l k = s.regF j o l k) ∧
    (∀ j o k, (s.updBpm sl f).regB j o k = s.regB j o k) ∧
    (∀ j u g, (s.updBpm sl f).winWord j u g = s.winWord j u g) ∧
    (∀ j u g, (s.updBpm sl f).badWord j u g = s.badWord j u g) ∧ (∀ y, (s.updBpm sl f).ctx y = s.ctx y) ∧
    (∀ y, (s.updBpm sl f).pup y = s.pup y) ∧ (∀ y, (s.updBpm sl f).pcl y = s.pcl y) ∧
    (∀ y, (s.updBpm sl f).fwd y = s.fwd y) ∧ (∀ y, (s.updBpm sl f).asa y = s.asa y) ∧
    (∀ y, (s.updBpm sl f).swc y = s.swc y) ∧ (∀ y, (s.updBpm sl f).tmg y = s.tmg y) ∧
    (∀ y, (s.updBpm sl f).egv y = s.egv y) := by
  and_intros <;> intros <;> rfl

@[simp] theorem State.updTmg_reads (sl : Slice) (f : TmgSt → TmgSt) :
    (∀ j o, (s.updTmg sl f).reg j o = s.reg j o) ∧ (∀ j o l k, (s.updTmg sl f).regF j o l k = s.regF j o l k) ∧
    (∀ j o k, (s.updTmg sl f).regB j o k = s.regB j o k) ∧
    (∀ j u g, (s.updTmg sl f).winWord j u g = s.winWord j u g) ∧
    (∀ j u g, (s.updTmg sl f).badWord j u g = s.badWord j u g) ∧ (∀ y, (s.updTmg sl f).ctx y = s.ctx y) ∧
    (∀ y, (s.updTmg sl f).pup y = s.pup y) ∧ (∀ y, (s.updTmg sl f).pcl y = s.pcl y) ∧
    (∀ y, (s.updTmg sl f).fwd y = s.fwd y) ∧ (∀ y, (s.updTmg sl f).asa y = s.asa y) ∧
    (∀ y, (s.updTmg sl f).swc y = s.swc y) ∧ (∀ y, (s.updTmg sl f).bpm y = s.bpm y) ∧
    (∀ y, (s.updTmg sl f).egv y = s.egv y) := by
  and_intros <;> intros <;> rfl

@[simp] theorem State.updEgv_reads (sl : Slice) (f : EgvSt → EgvSt) :
    (∀ j o, (s.updEgv sl f).reg j o = s.reg j o) ∧ (∀ j o l k, (s.updEgv sl f).regF j o l k = s.regF j o l k) ∧
    (∀ j o k, (s.updEgv sl f).regB j o k = s.regB j o k) ∧
    (∀ j u g, (s.updEgv sl f).winWord j u g = s.winWord j u g) ∧
    (∀ j u g, (s.updEgv sl f).badWord j u g = s.badWord j u g) ∧ (∀ y, (s.updEgv sl f).ctx y = s.ctx y) ∧
    (∀ y, (s.updEgv sl f).pup y = s.pup y) ∧ (∀ y, (s.updEgv sl f).pcl y = s.pcl y) ∧
    (∀ y, (s.updEgv sl f).fwd y = s.fwd y) ∧ (∀ y, (s.updEgv sl f).asa y = s.asa y) ∧
    (∀ y, (s.updEgv sl f).swc y = s.swc y) ∧ (∀ y, (s.updEgv sl f).bpm y = s.bpm y) ∧
    (∀ y, (s.updEgv sl f).tmg y = s.tmg y) := by
  and_intros <;> intros <;> rfl

@[simp] theorem State.noteAct_reads (sl : Slice) (k n : Nat) :
    (∀ j o, (s.noteAct sl k n).reg j o = s.reg j o) ∧ (∀ j o l k, (s.noteAct sl k n).regF j o l k = s.regF j o l k) ∧
    (∀ j o k, (s.noteAct sl k n).regB j o k = s.regB j o k) ∧
    (∀ j u g, (s.noteAct sl k n).winWord j u g = s.winWord j u g) ∧
    (∀ j u g, (s.noteAct sl k n).badWord j u g = s.badWord j u g) ∧ (∀ y, (s.noteAct sl k n).ctx y = s.ctx y) ∧
    (∀ y, (s.noteAct sl k n).pup y = s.pup y) ∧ (∀ y, (s.noteAct sl k n).pcl y = s.pcl y) ∧
    (∀ y, (s.noteAct sl k n).fwd y = s.fwd y) ∧ (∀ y, (s.noteAct sl k n).asa y = s.asa y) ∧
    (∀ y, (s.noteAct sl k n).swc y = s.swc y) ∧ (∀ y, (s.noteAct sl k n).bpm y = s.bpm y) ∧
    (∀ y, (s.noteAct sl k n).tmg y = s.tmg y) ∧ (∀ y, (s.noteAct sl k n).egv y = s.egv y) := by
  and_intros <;> intros <;> rfl

@[simp] theorem State.updPort_reads (k : Nat) (f : PortSt → PortSt) :
    (∀ j o, (s.updPort k f).reg j o = s.reg j o) ∧ (∀ j o l k, (s.updPort k f).regF j o l k = s.regF j o l k) ∧
    (∀ j o k, (s.updPort k f).regB j o k = s.regB j o k) ∧
    (∀ j u g, (s.updPort k f).winWord j u g = s.winWord j u g) ∧
    (∀ j u g, (s.updPort k f).badWord j u g = s.badWord j u g) ∧ (∀ y, (s.updPort k f).ctx y = s.ctx y) ∧
    (∀ y, (s.updPort k f).pup y = s.pup y) ∧ (∀ y, (s.updPort k f).pcl y = s.pcl y) ∧
    (∀ y, (s.updPort k f).fwd y = s.fwd y) ∧ (∀ y, (s.updPort k f).asa y = s.asa y) ∧
    (∀ y, (s.updPort k f).swc y = s.swc y) ∧ (∀ y, (s.updPort k f).bpm y = s.bpm y) ∧
    (∀ y, (s.updPort k f).tmg y = s.tmg y) ∧ (∀ y, (s.updPort k f).egv y = s.egv y) := by
  and_intros <;> intros <;> rfl

@[simp] theorem State.updMacro_reads (k : Nat) (f : MacroSt → MacroSt) :
    (∀ j o, (s.updMacro k f).reg j o = s.reg j o) ∧ (∀ j o l k, (s.updMacro k f).regF j o l k = s.regF j o l k) ∧
    (∀ j o k, (s.updMacro k f).regB j o k = s.regB j o k) ∧
    (∀ j u g, (s.updMacro k f).winWord j u g = s.winWord j u g) ∧
    (∀ j u g, (s.updMacro k f).badWord j u g = s.badWord j u g) ∧ (∀ y, (s.updMacro k f).ctx y = s.ctx y) ∧
    (∀ y, (s.updMacro k f).pup y = s.pup y) ∧ (∀ y, (s.updMacro k f).pcl y = s.pcl y) ∧
    (∀ y, (s.updMacro k f).fwd y = s.fwd y) ∧ (∀ y, (s.updMacro k f).asa y = s.asa y) ∧
    (∀ y, (s.updMacro k f).swc y = s.swc y) ∧ (∀ y, (s.updMacro k f).bpm y = s.bpm y) ∧
    (∀ y, (s.updMacro k f).tmg y = s.tmg y) ∧ (∀ y, (s.updMacro k f).egv y = s.egv y) := by
  and_intros <;> intros <;> rfl

@[simp] theorem State.updChan_reads (k : Nat) (f : ChanSt → ChanSt) :
    (∀ j o, (s.updChan k f).reg j o = s.reg j o) ∧ (∀ j o l k, (s.updChan k f).regF j o l k = s.regF j o l k) ∧
    (∀ j o k, (s.updChan k f).regB j o k = s.regB j o k) ∧
    (∀ j u g, (s.updChan k f).winWord j u g = s.winWord j u g) ∧
    (∀ j u g, (s.updChan k f).badWord j u g = s.badWord j u g) ∧ (∀ y, (s.updChan k f).ctx y = s.ctx y) ∧
    (∀ y, (s.updChan k f).pup y = s.pup y) ∧ (∀ y, (s.updChan k f).pcl y = s.pcl y) ∧
    (∀ y, (s.updChan k f).fwd y = s.fwd y) ∧ (∀ y, (s.updChan k f).asa y = s.asa y) ∧
    (∀ y, (s.updChan k f).swc y = s.swc y) ∧ (∀ y, (s.updChan k f).bpm y = s.bpm y) ∧
    (∀ y, (s.updChan k f).tmg y = s.tmg y) ∧ (∀ y, (s.updChan k f).egv y = s.egv y) := by
  and_intros <;> intros <;> rfl

@[simp] theorem State.updFrame_reads (k : Nat) (f : Frame → Frame) :
    (∀ j o, (s.updFrame k f).reg j o = s.reg j o) ∧ (∀ j o l k, (s.updFrame k f).regF j o l k = s.regF j o l k) ∧
    (∀ j o k, (s.updFrame k f).regB j o k = s.regB j o k) ∧
    (∀ j u g, (s.updFrame k f).winWord j u g = s.winWord j u g) ∧
    (∀ j u g, (s.updFrame k f).badWord j u g = s.badWord j u g) ∧ (∀ y, (s.updFrame k f).ctx y = s.ctx y) ∧
    (∀ y, (s.updFrame k f).pup y = s.pup y) ∧ (∀ y, (s.updFrame k f).pcl y = s.pcl y) ∧
    (∀ y, (s.updFrame k f).fwd y = s.fwd y) ∧ (∀ y, (s.updFrame k f).asa y = s.asa y) ∧
    (∀ y, (s.updFrame k f).swc y = s.swc y) ∧ (∀ y, (s.updFrame k f).bpm y = s.bpm y) ∧
    (∀ y, (s.updFrame k f).tmg y = s.tmg y) ∧ (∀ y, (s.updFrame k f).egv y = s.egv y) := by
  and_intros <;> intros <;> rfl

@[simp] theorem State.updFn_reads (k : Nat) (f : FnSt → FnSt) :
    (∀ j o, (s.updFn k f).reg j o = s.reg j o) ∧ (∀ j o l k, (s.updFn k f).regF j o l k = s.regF j o l k) ∧
    (∀ j o k, (s.updFn k f).regB j o k = s.regB j o k) ∧ (∀ j u g, (s.updFn k f).winWord j u g = s.winWord j u g) ∧
    (∀ j u g, (s.updFn k f).badWord j u g = s.badWord j u g) ∧ (∀ y, (s.updFn k f).ctx y = s.ctx y) ∧
    (∀ y, (s.updFn k f).pup y = s.pup y) ∧ (∀ y, (s.updFn k f).pcl y = s.pcl y) ∧
    (∀ y, (s.updFn k f).fwd y = s.fwd y) ∧ (∀ y, (s.updFn k f).asa y = s.asa y) ∧
    (∀ y, (s.updFn k f).swc y = s.swc y) ∧ (∀ y, (s.updFn k f).bpm y = s.bpm y) ∧
    (∀ y, (s.updFn k f).tmg y = s.tmg y) ∧ (∀ y, (s.updFn k f).egv y = s.egv y) := by
  and_intros <;> intros <;> rfl

@[simp] theorem State.updFifo_reads (k : Nat) (f : FifoSt → FifoSt) :
    (∀ j o, (s.updFifo k f).reg j o = s.reg j o) ∧ (∀ j o l k, (s.updFifo k f).regF j o l k = s.regF j o l k) ∧
    (∀ j o k, (s.updFifo k f).regB j o k = s.regB j o k) ∧
    (∀ j u g, (s.updFifo k f).winWord j u g = s.winWord j u g) ∧
    (∀ j u g, (s.updFifo k f).badWord j u g = s.badWord j u g) ∧ (∀ y, (s.updFifo k f).ctx y = s.ctx y) ∧
    (∀ y, (s.updFifo k f).pup y = s.pup y) ∧ (∀ y, (s.updFifo k f).pcl y = s.pcl y) ∧
    (∀ y, (s.updFifo k f).fwd y = s.fwd y) ∧ (∀ y, (s.updFifo k f).asa y = s.asa y) ∧
    (∀ y, (s.updFifo k f).swc y = s.swc y) ∧ (∀ y, (s.updFifo k f).bpm y = s.bpm y) ∧
    (∀ y, (s.updFifo k f).tmg y = s.tmg y) ∧ (∀ y, (s.updFifo k f).egv y = s.egv y) := by
  and_intros <;> intros <;> rfl

@[simp] theorem State.pup_updPup_same (sl : Slice) (f : PupSt → PupSt) : (s.updPup sl f).pup sl = f (s.pup sl) :=
  Tbl.get_upd_same ..

theorem State.pup_updPup_other (sl sk : Slice) (f : PupSt → PupSt) (h : sk ≠ sl) : (s.updPup sl f).pup sk = s.pup sk :=
  Tbl.get_upd_other _ _ _ _ fun e => h (Fin.ext e)

@[simp] theorem State.pcl_updPcl_same (sl : Slice) (f : PclSt → PclSt) : (s.updPcl sl f).pcl sl = f (s.pcl sl) :=
  Tbl.get_upd_same ..

theorem State.pcl_updPcl_other (sl sk : Slice) (f : PclSt → PclSt) (h : sk ≠ sl) : (s.updPcl sl f).pcl sk = s.pcl sk :=
  Tbl.get_upd_other _ _ _ _ fun e => h (Fin.ext e)

@[simp] theorem State.fwd_updFwd_same (sl : Slice) (f : FwdSt → FwdSt) : (s.updFwd sl f).fwd sl = f (s.fwd sl) :=
  Tbl.get_upd_same ..

theorem State.fwd_updFwd_other (sl sk : Slice) (f : FwdSt → FwdSt) (h : sk ≠ sl) : (s.updFwd sl f).fwd sk = s.fwd sk :=
  Tbl.get_upd_other _ _ _ _ fun e => h (Fin.ext e)

@[simp] theorem State.asa_updAsa_same (sl : Slice) (f : AsaSt → AsaSt) : (s.updAsa sl f).asa sl = f (s.asa sl) :=
  Tbl.get_upd_same ..

theorem State.asa_updAsa_other (sl sk : Slice) (f : AsaSt → AsaSt) (h : sk ≠ sl) : (s.updAsa sl f).asa sk = s.asa sk :=
  Tbl.get_upd_other _ _ _ _ fun e => h (Fin.ext e)

@[simp] theorem State.swc_updSwc_same (sl : Slice) (f : SwcSt → SwcSt) : (s.updSwc sl f).swc sl = f (s.swc sl) :=
  Tbl.get_upd_same ..

theorem State.swc_updSwc_other (sl sk : Slice) (f : SwcSt → SwcSt) (h : sk ≠ sl) : (s.updSwc sl f).swc sk = s.swc sk :=
  Tbl.get_upd_other _ _ _ _ fun e => h (Fin.ext e)

@[simp] theorem State.bpm_updBpm_same (sl : Slice) (f : BpmSt → BpmSt) : (s.updBpm sl f).bpm sl = f (s.bpm sl) :=
  Tbl.get_upd_same ..

theorem State.bpm_updBpm_other (sl sk : Slice) (f : BpmSt → BpmSt) (h : sk ≠ sl) : (s.updBpm sl f).bpm sk = s.bpm sk :=
  Tbl.get_upd_other _ _ _ _ fun e => h (Fin.ext e)

@[simp] theorem State.tmg_updTmg_same (sl : Slice) (f : TmgSt → TmgSt) : (s.updTmg sl f).tmg sl = f (s.tmg sl) :=
  Tbl.get_upd_same ..

theorem State.tmg_updTmg_other (sl sk : Slice) (f : TmgSt → TmgSt) (h : sk ≠ sl) : (s.updTmg sl f).tmg sk = s.tmg sk :=
  Tbl.get_upd_other _ _ _ _ fun e => h (Fin.ext e)

@[simp] theorem State.egv_updEgv_same (sl : Slice) (f : EgvSt → EgvSt) : (s.updEgv sl f).egv sl = f (s.egv sl) :=
  Tbl.get_upd_same ..

@[simp] theorem State.actOf_noteAct_same (sl : Slice) (k n : Nat) : (s.noteAct sl k n).actOf sl k = s.actOf sl k + n := by
  simp [State.actOf, State.noteAct]

theorem State.egv_updEgv_other (sl sk : Slice) (f : EgvSt → EgvSt) (h : sk ≠ sl) : (s.updEgv sl f).egv sk = s.egv sk :=
  Tbl.get_upd_other _ _ _ _ fun e => h (Fin.ext e)

@[simp] theorem State.port_updPort_same (k : Nat) (f : PortSt → PortSt) : (s.updPort k f).port k = f (s.port k) :=
  Tbl.get_upd_same ..

theorem State.port_updPort_other (k j : Nat) (f : PortSt → PortSt) (h : j ≠ k) : (s.updPort k f).port j = s.port j :=
  Tbl.get_upd_other _ _ _ _ h

@[simp] theorem State.macro_updMacro_same (k : Nat) (f : MacroSt → MacroSt) : (s.updMacro k f).macro k = f (s.macro k) :=
  Tbl.get_upd_same ..

theorem State.macro_updMacro_other (k j : Nat) (f : MacroSt → MacroSt) (h : j ≠ k) : (s.updMacro k f).macro j = s.macro j :=
  Tbl.get_upd_other _ _ _ _ h

@[simp] theorem State.chan_updChan_same (k : Nat) (f : ChanSt → ChanSt) : (s.updChan k f).chan k = f (s.chan k) :=
  Tbl.get_upd_same ..

theorem State.chan_updChan_other (k j : Nat) (f : ChanSt → ChanSt) (h : j ≠ k) : (s.updChan k f).chan j = s.chan j :=
  Tbl.get_upd_other _ _ _ _ h

@[simp] theorem State.frame_updFrame_same (k : Nat) (f : Frame → Frame) : (s.updFrame k f).frame k = f (s.frame k) :=
  Tbl.get_upd_same ..

theorem State.frame_updFrame_other (k j : Nat) (f : Frame → Frame) (h : j ≠ k) : (s.updFrame k f).frame j = s.frame j :=
  Tbl.get_upd_other _ _ _ _ h

@[simp] theorem State.fifo_updFifo_same (k : Nat) (f : FifoSt → FifoSt) : (s.updFifo k f).fifo k = f (s.fifo k) :=
  Tbl.get_upd_same ..

@[simp] theorem State.fn_updFn_same (k : Nat) (f : FnSt → FnSt) : (s.updFn k f).fn k = f (s.fn k) :=
  Tbl.get_upd_same ..

/-- A register reads back as it was written. -/
@[simp] theorem State.reg_setReg_same (i : InstId) (off : Nat) (v : Word) : (s.setReg i off v).reg i off = v :=
  Tbl.getD_setD_same ..

/-- Writing one register leaves the registers at other byte addresses. -/
theorem State.reg_setReg_other (i j : InstId) (off o : Nat) (v : Word) (h : regAddr j o ≠ regAddr i off) :
    (s.setReg i off v).reg j o = s.reg j o :=
  Tbl.getD_setD_other _ _ _ _ _ _ h

@[simp] theorem State.winWord_setWinWord_same (i : InstId) (w a : Nat) (v : Word) :
    (s.setWinWord i w a v).winWord i w a = v :=
  Tbl.getD_setD_same ..

theorem State.winWord_setWinWord_other (i j : InstId) (w u a g : Nat) (v : Word) (h : winKey j u g ≠ winKey i w a) :
    (s.setWinWord i w a v).winWord j u g = s.winWord j u g :=
  Tbl.getD_setD_other _ _ _ _ _ _ h

/-- A window word written whole has good parity (R212, R375). -/
@[simp] theorem State.badWord_setWinWord_same (i : InstId) (w a : Nat) (v : Word) :
    (s.setWinWord i w a v).badWord i w a = false :=
  Tbl.get_set_same ..

@[simp] theorem State.ent_setEnt_same (i : InstId) (w e k : Nat) (v : Word) : (s.setEnt i w e k v).ent i w e k = v :=
  State.winWord_setWinWord_same ..

@[simp] theorem State.wsOf_setWs_same (i : InstId) (x : WinState) : (s.setWs i x).wsOf i = x :=
  Tbl.get_set_same ..

/-- Contexts have keys of their own. -/
theorem ctxKey_inj (x y : CtxId) (h : ctxKey x = ctxKey y) : x = y := by
  obtain ⟨a, b, c⟩ := x
  obtain ⟨d, e, f⟩ := y
  simp only [ctxKey] at h
  have h1 : a = d := Fin.ext (by omega)
  have h2 : b = e := Fin.ext (by omega)
  have h3 : c = f := Fin.ext (by omega)
  rw [h1, h2, h3]

@[simp] theorem State.ctx_setCtx_same (x : CtxId) (c : Ctx) : (s.setCtx x c).ctx x = c := Tbl.get_set_same ..

theorem State.ctx_setCtx_other (x y : CtxId) (c : Ctx) (h : y ≠ x) : (s.setCtx x c).ctx y = s.ctx y :=
  Tbl.get_set_other _ _ _ _ fun e => h (ctxKey_inj _ _ e)

@[simp] theorem State.ctx_updCtx_same (x : CtxId) (f : Ctx → Ctx) : (s.updCtx x f).ctx x = f (s.ctx x) :=
  State.ctx_setCtx_same ..

theorem State.ctx_updCtx_other (x y : CtxId) (f : Ctx → Ctx) (h : y ≠ x) : (s.updCtx x f).ctx y = s.ctx y :=
  State.ctx_setCtx_other _ _ _ _ h

/-- The later of two writes of a context stands. -/
@[simp] theorem State.setCtx_setCtx (x : CtxId) (c d : Ctx) : (s.setCtx x c).setCtx x d = s.setCtx x d := by
  simp [State.setCtx, Tbl.set_set]

/-- A field reads back as it was written, at its width. -/
theorem State.regF_setReg (i : InstId) (off lo width : Nat) (v : Word) :
    (s.setReg i off v).regF i off lo width = fld v lo width := by
  simp [State.regF]

end Sys2Proof.Machine
end

