-- ==== Sys2Proof/Laws/Fields.lean ====
section
/-! SUPPORT. Fields of words and of registers: what reading a field gives after one is written, and which registers have
addresses of their own. -/

namespace Sys2Proof

theorem fld_testBit (w : Word) (lo n i : Nat) : (fld w lo n).testBit i = (decide (i < n) && w.getLsbD (lo + i)) := by
  simp [fld, Nat.testBit_mod_two_pow, Nat.testBit_div_two_pow, BitVec.getLsbD, Nat.add_comm]

theorem mask_getLsbD (lo n i : Nat) : (mask lo n).getLsbD i = (decide (i < 32) && decide (lo ≤ i) && decide (i < lo + n)) := by
  simp only [mask, BitVec.getLsbD_ofNat, Nat.testBit_mul_two_pow, Nat.testBit_two_pow_sub_one]
  by_cases h1 : i < 32 <;> by_cases h2 : lo ≤ i <;> by_cases h3 : i < lo + n <;> simp [h1, h2, h3] <;> omega

/-- A bit of a word after a field of it is replaced. -/
theorem setFld_getLsbD (w : Word) (lo n v i : Nat) :
    (setFld w lo n v).getLsbD i =
      if lo ≤ i ∧ i < lo + n ∧ i < 32 then v.testBit (i - lo) else w.getLsbD i := by
  simp only [setFld, BitVec.getLsbD_or, BitVec.getLsbD_and, BitVec.getLsbD_not, mask_getLsbD, BitVec.getLsbD_ofNat,
    Nat.testBit_mul_two_pow, Nat.testBit_mod_two_pow]
  by_cases h1 : i < 32
  · by_cases h2 : lo ≤ i <;> by_cases h3 : i < lo + n <;> simp [h1, h2, h3] <;> intros <;> omega
  · simp [h1, BitVec.getLsbD_of_ge w i (by omega)]

/-- A field reads back as it was written. -/
theorem fld_setFld_same (w : Word) (lo n v : Nat) (h : lo + n ≤ 32) : fld (setFld w lo n v) lo n = v % 2 ^ n := by
  apply Nat.eq_of_testBit_eq
  intro i
  rw [fld_testBit, setFld_getLsbD, Nat.testBit_mod_two_pow]
  by_cases h1 : i < n <;> simp [h1]
  intro; omega

/-- A field keeps its value when one that it does not overlap is written. -/
theorem fld_setFld_other (w : Word) (lo n v l k : Nat) (h : l + k ≤ lo ∨ lo + n ≤ l) :
    fld (setFld w lo n v) l k = fld w l k := by
  apply Nat.eq_of_testBit_eq
  intro i
  rw [fld_testBit, fld_testBit, setFld_getLsbD]
  by_cases h1 : i < k <;> simp [h1]
  intros; omega

/-- A bit reads back as it was written. -/
theorem setBit_getLsbD (w : Word) (k i : Nat) (b : Bool) (h : k < 32) :
    (setBit w k b).getLsbD i = if i = k then b else w.getLsbD i := by
  rw [setBit, setFld_getLsbD]
  by_cases h1 : i = k
  · subst h1; cases b <;> simp [h]
  · have h2 : ¬ (k ≤ i ∧ i < k + 1 ∧ i < 32) := by omega
    rw [if_neg h2, if_neg h1]

theorem fld_lt (w : Word) (lo n : Nat) : fld w lo n < 2 ^ n := Nat.mod_lt _ (by positivity)

end Sys2Proof

namespace Sys2Proof.Machine

/-- The registers of an instance at different offsets are different. -/
theorem State.reg_setReg_off (s : State) (i : InstId) (o p : Nat) (v : Word) (ho : o < 4096) (hp : p < 4096) (h : p ≠ o) :
    (s.setReg i o v).reg i p = s.reg i p :=
  s.reg_setReg_other _ _ _ _ _ (by simp only [regAddr]; omega)

/-- The registers of different instances are different. -/
theorem State.reg_setReg_inst (s : State) (i j : InstId) (o p : Nat) (v : Word) (h : instIndex j ≠ instIndex i) :
    (s.setReg i o v).reg j p = s.reg j p :=
  s.reg_setReg_other _ _ _ _ _ (by simp only [regAddr]; omega)

/-- The later of two writes of a register stands. -/
@[simp] theorem State.setReg_setReg (s : State) (i : InstId) (o : Nat) (u v : Word) :
    (s.setReg i o u).setReg i o v = s.setReg i o v := by
  simp [State.setReg, Tbl.setD_setD]

end Sys2Proof.Machine
end

