-- ==== Sys2Proof/Laws/Memory.lean ====
section
/-! SUPPORT. What the device has written to host memory: a byte reads back as it was written, the others stay, and the
addresses stay strictly rising. -/

namespace Sys2Proof.Machine

/-- The canonical form: strictly rising addresses. -/
def memSorted : List Host.Cell → Bool
  | [] => true
  | (k, _) :: r => r.all (fun c => decide (k < c.1)) && memSorted r

@[simp] theorem memGet_cons (k : Nat) (v : Byte) (r : List Host.Cell) (a : Nat) :
    memGet ((k, v) :: r) a = if k = a then some v else memGet r a := by
  by_cases h : k = a <;> simp [memGet, h]

/-- A byte reads back as it was written. -/
theorem memGet_memSet_same (l : List Host.Cell) (a : Nat) (b : Byte) : memGet (memSet l a b) a = some b := by
  induction l with
  | nil => simp [memSet]
  | cons c r ih =>
    obtain ⟨k, v⟩ := c
    by_cases h : k < a
    · simp [memSet, h, ih, Nat.ne_of_lt h]
    · by_cases g : k = a <;> simp [memSet, h, g]

/-- A write leaves every other byte. -/
theorem memGet_memSet_other (l : List Host.Cell) (a c : Nat) (b : Byte) (h : c ≠ a) :
    memGet (memSet l a b) c = memGet l c := by
  induction l with
  | nil => simp [memSet, memGet, h.symm]
  | cons d r ih =>
    obtain ⟨k, v⟩ := d
    by_cases h1 : k < a
    · simp [memSet, h1, ih]
    · by_cases g : k = a
      · subst g; simp [memSet, h.symm]
      · simp [memSet, h1, g, h.symm]

theorem memSet_above (l : List Host.Cell) (a j : Nat) (b : Byte) (h : j < a) (hl : l.all (fun c => decide (j < c.1)) = true) :
    (memSet l a b).all (fun c => decide (j < c.1)) = true := by
  induction l with
  | nil => simp [memSet, h]
  | cons d r ih =>
    obtain ⟨k, v⟩ := d
    simp only [List.all_cons, Bool.and_eq_true, decide_eq_true_eq] at hl
    by_cases h1 : k < a
    · simp [memSet, h1, hl.1]; simpa using ih hl.2
    · by_cases g : k = a
      · simp [memSet, g, h]; simpa using hl.2
      · simp [memSet, h1, g, h, hl.1]; simpa using hl.2

/-- A write keeps the canonical form. -/
theorem memSet_sorted (l : List Host.Cell) (a : Nat) (b : Byte) (h : memSorted l = true) : memSorted (memSet l a b) = true := by
  induction l with
  | nil => rfl
  | cons d r ih =>
    obtain ⟨k, v⟩ := d
    simp only [memSorted, Bool.and_eq_true] at h
    by_cases h1 : k < a
    · simp only [memSet, h1, if_true, memSorted, Bool.and_eq_true]
      exact ⟨memSet_above r a k b h1 h.1, ih h.2⟩
    · by_cases g : k = a
      · subst g; simpa [memSet, memSorted] using h
      · have hlt : a < k := by omega
        simp only [memSet, h1, g, if_false, memSorted, List.all_cons, Bool.and_eq_true, decide_eq_true_eq]
        refine ⟨⟨hlt, ?_⟩, h⟩
        simp only [List.all_eq_true, decide_eq_true_eq] at h ⊢
        exact fun x hx => Nat.lt_trans hlt (h.1 x hx)

end Sys2Proof.Machine
end

