-- ==== Sys2Proof/Laws/Zenrex.lean ====
section
/-! SUPPORT. What a microword does, said once: the operand fields it carries, when it issues, and the next state of one
that issues without an exception. -/

namespace Sys2Proof.Machine

/-- Out of a chip reset no block is held (R533). -/
theorem heldFrom_of_running (t s : State) (h : s.boot.inReset = false) : t.heldFrom s = t := by
  simp [State.heldFrom, h]

/-- With nothing detected, out of a chip reset, a command's outcome is its effect. -/
theorem done_of_quiet (s t : State) (hr : s.boot.unrated = false) (hn : s.boot.inReset = false) (h : t.flt.toRaise = [])
    (hp : t.pending = s.pending) (ht : t.time = s.time) : s.done t = .next t := by
  simp [State.done, State.goesOn, State.collect, heldFrom_of_running, hr, hn, h, ← hp, ← ht]

/-! ### Fields of a microword (R93) -/

theorem fld_mwF0 (k d a b i : Nat) (hk : k < 4096) (hd : d < 16) (ha : a < 16) (hb : b < 16) (hi : i < 256) :
    fld (mwF0 k d a b i) 20 12 = k ∧ fld (mwF0 k d a b i) 16 4 = d ∧ fld (mwF0 k d a b i) 12 4 = a ∧
    fld (mwF0 k d a b i) 8 4 = b ∧ fld (mwF0 k d a b i) 0 8 = i := by
  simp only [fld, mwF0, BitVec.toNat_ofNat]
  omega

theorem fld_mwF1 (k d a i : Nat) (hk : k < 4096) (hd : d < 16) (ha : a < 16) (hi : i < 4096) :
    fld (mwF1 k d a i) 20 12 = k ∧ fld (mwF1 k d a i) 16 4 = d ∧ fld (mwF1 k d a i) 12 4 = a ∧
    fld (mwF1 k d a i) 0 12 = i := by
  simp only [fld, mwF1, BitVec.toNat_ofNat]
  omega

theorem fld_mwF2 (k d o x : Nat) (hk : k < 4096) (hd : d < 16) (ho : o < 256) (hx : x < 256) :
    fld (mwF2 k d o x) 20 12 = k ∧ fld (mwF2 k d o x) 16 4 = d ∧ fld (mwF2 k d o x) 8 8 = o ∧
    fld (mwF2 k d o x) 0 8 = x := by
  simp only [fld, mwF2, BitVec.toNat_ofNat]
  omega

theorem fld_mwF3 (k x t : Nat) (hk : k < 4096) (hx : x < 64) (ht : t < 16384) :
    fld (mwF3 k x t) 20 12 = k ∧ fld (mwF3 k x t) 14 6 = x ∧ fld (mwF3 k x t) 0 14 = t ∧
    fld (mwF3 k x t) 0 4 = t % 16 := by
  simp only [fld, mwF3, BitVec.toNat_ofNat]
  omega

theorem fld_mwF4 (k d i : Nat) (hk : k < 4096) (hd : d < 16) (hi : i < 65536) :
    fld (mwF4 k d i) 20 12 = k ∧ fld (mwF4 k d i) 16 4 = d ∧ fld (mwF4 k d i) 0 16 = i := by
  simp only [fld, mwF4, BitVec.toNat_ofNat]
  omega

/-! ### A microword that issues -/

/-- The nanoword neither looks up, commits, ends, drops nor suspends. -/
def Nano.plain (n : Nano) : Bool := !(n.lken || n.commit || n.fin || n.drop || n.safe || n.yield)

/-- The context after a plain microword. -/
def Ctx.after (n : Nano) (w lo hi : Word) (c : Ctx) : Ctx :=
  { sequence n w c (operate n w lo hi c) with
    cycles := (operate n w lo hi c).cycles + 1
    tail := if c.committed then (operate n w lo hi c).tail + 1 else 0 }

/-- A microword other than END is not held by its tail requests (R119). -/
theorem endWaits_of_not_fin (s : State) (x : CtxId) (n : Nano) (hf : n.fin = false) : s.endWaits x n = none := by
  simp [State.endWaits, hf]

/-- A watchdog that does not count, or has not reached its limit, raises nothing (R108, R131). -/
theorem checkWatchdog_of_short (s : State) (x : CtxId) (nw : Nat)
    (h : s.watched x = false ∨ (s.ctx x).cycles < watchdogLimit x) : s.checkWatchdog x nw = s := by
  unfold State.checkWatchdog
  rcases h with h | h
  · simp [h]
  · rw [if_neg]
    simp only [Bool.and_eq_true, decide_eq_true_eq, not_and, Nat.not_le]
    exact fun _ => h

/-- A plain microword that waits for nothing, raises nothing and leaves its watchdog short of the limit changes its own
context and counts itself (R416), and nothing else. -/
theorem runMw_plain (s : State) (x : CtxId) (n : Nano) (w : Word) (hq : s.canIssue x = true)
    (hm : s.badWord (pupI x.slice) 0 (s.ctx x).pc.toNat = false)
    (hn : s.badEntry (pupI x.slice) 1 (fld w 20 12) = false) (hs : stalled n w (s.ctx x) = false)
    (he : s.excs x n w = []) (hp : n.plain = true)
    (hw : let t := (s.countMw x).setCtx x (Ctx.after n w (s.ent (pclI x.slice) (if s.epochOf x then 1 else 0) n.rcsel 0)
      (s.ent (pclI x.slice) (if s.epochOf x then 1 else 0) n.rcsel 1) (s.ctx x))
      t.watched x = false ∨ (t.ctx x).cycles < watchdogLimit x) :
    s.runMw x n w = (s.countMw x).setCtx x (Ctx.after n w (s.ent (pclI x.slice) (if s.epochOf x then 1 else 0) n.rcsel 0)
      (s.ent (pclI x.slice) (if s.epochOf x then 1 else 0) n.rcsel 1) (s.ctx x)) := by
  simp only [Nano.plain, Bool.not_eq_true', Bool.or_eq_false_iff] at hp
  obtain ⟨⟨⟨⟨⟨hl, hc⟩, hf⟩, hd⟩, hsf⟩, hy⟩ := hp
  rw [← checkWatchdog_of_short _ x (fld w 20 12) hw]
  simp [State.runMw, hq, hm, hn, hs, he, lowest, State.issueMw, hc, hl, State.finishMw, hf, hd, hsf, hy,
    State.updCtx, Ctx.after, endWaits_of_not_fin, State.operated]

/-! ### Sequencing (R114-R117) -/

/-- What sequencing touches: the pc, the delay slot, the mode shadow and what it brings in, the loops and counters. -/
def Ctx.frozen (c d : Ctx) : Prop :=
  { c with pc := d.pc, slot := d.slot, shadow := d.shadow, tid := d.tid, view := d.view, md := d.md, loops := d.loops,
           lc0 := d.lc0, lc1 := d.lc1 } = d

theorem Ctx.frozen_trans {a b c : Ctx} (h : Ctx.frozen a b) (g : Ctx.frozen b c) : Ctx.frozen a c := by
  unfold Ctx.frozen at *
  rw [← g, ← h]

theorem loop_frozen (c : Ctx) (k : BitVec 14) (b : Nat) : Ctx.frozen (c.loop k b) c := by
  unfold Ctx.loop
  split
  · rfl
  · dsimp only
    split <;> rfl

theorem advanceOuter_frozen (c : Ctx) (o : Loop) : Ctx.frozen (c.advanceOuter o) c := by
  unfold Ctx.advanceOuter
  split
  · rfl
  · split <;> rfl

theorem advance_frozen (c : Ctx) : Ctx.frozen c.advance c := by
  unfold Ctx.advance
  split
  · rfl
  · exact advanceOuter_frozen ..
  · split
    · rfl
    · split
      · exact Ctx.frozen_trans (advanceOuter_frozen (c.setLoops _) _) rfl
      · rfl

theorem sequence_frozen (n : Nano) (w : Word) (c0 c : Ctx) : Ctx.frozen (sequence n w c0 c) c := by
  unfold sequence
  extract_lets a b
  have ha : Ctx.frozen a c := by
    show Ctx.frozen (match c.shadow with | none => c | some (t, v) => _) c
    split <;> rfl
  have hb : Ctx.frozen b c := by
    refine Ctx.frozen_trans ?_ ha
    show Ctx.frozen (if n.modeen then _ else a) a
    split <;> rfl
  split
  · refine Ctx.frozen_trans ?_ hb
    rfl
  · rename_i d _ _
    have hd : Ctx.frozen d c := by
      refine Ctx.frozen_trans ?_ hb
      show Ctx.frozen (if n.brcond = 0 then _ else _) b
      split <;> rfl
    split
    · exact Ctx.frozen_trans (loop_frozen ..) hd
    · exact Ctx.frozen_trans (advance_frozen ..) hd

/-- Straight-line code outside a delay slot, a mode shadow and a loop. -/
theorem sequence_straight (n : Nano) (w : Word) (c0 c : Ctx) (h0 : c0.slot = none) (hc : c.shadow = none)
    (hm : n.modeen = false) (hb : n.brcond = 0) (hl : n.loopctl ≠ 1) (hs : c.loops = []) :
    sequence n w c0 c = { c with slot := none, pc := c.pc + 1 } := by
  simp [sequence, h0, hc, hm, hb, hl, Ctx.advance, hs]

/-- Outside a mode shadow, TID, VIEW and MD stay. -/
theorem sequence_mode (n : Nano) (w : Word) (c0 c : Ctx) (hc : c.shadow = none) :
    (sequence n w c0 c).tid = c.tid ∧ (sequence n w c0 c).view = c.view ∧ (sequence n w c0 c).md = c.md := by
  have hl : ∀ (d : Ctx) k b, (d.loop k b).tid = d.tid ∧ (d.loop k b).view = d.view ∧ (d.loop k b).md = d.md := by
    intro d k b
    unfold Ctx.loop
    split
    · exact ⟨rfl, rfl, rfl⟩
    · dsimp only
      split <;> exact ⟨rfl, rfl, rfl⟩
  have ho : ∀ (d : Ctx) o, (d.advanceOuter o).tid = d.tid ∧ (d.advanceOuter o).view = d.view ∧
      (d.advanceOuter o).md = d.md := by
    intro d o
    unfold Ctx.advanceOuter
    split
    · exact ⟨rfl, rfl, rfl⟩
    · split <;> exact ⟨rfl, rfl, rfl⟩
  have ha : ∀ (d : Ctx), d.advance.tid = d.tid ∧ d.advance.view = d.view ∧ d.advance.md = d.md := by
    intro d
    unfold Ctx.advance
    split
    · exact ⟨rfl, rfl, rfl⟩
    · exact ho ..
    · split
      · exact ⟨rfl, rfl, rfl⟩
      · split
        · exact ho (d.setLoops _) _
        · exact ⟨rfl, rfl, rfl⟩
  unfold sequence
  simp only [hc]
  split
  · split <;> exact ⟨rfl, rfl, rfl⟩
  · by_cases h1 : n.modeen = true <;> by_cases h2 : n.brcond = 0 <;> by_cases h3 : n.loopctl = 1 <;>
      simp [h1, h2, h3, hl, ha]

end Sys2Proof.Machine
end

