-- ==== Sys2Proof/Safety.lean ====
section
/-! DEFINITION. What counts as a safe run: no step faults or is refused. -/

namespace Sys2Proof.Machine

/-- The state after `n` steps, where none of them stops. -/
def runN : Nat → State → Option State
  | 0, s => some s
  | n + 1, s => match step s with
    | .next t => runN n t
    | _ => none

/-- The first `n` steps neither fault nor are refused. -/
def SafeFor (n : Nat) (s : State) : Prop := runN n s ≠ none

end Sys2Proof.Machine
end

