-- ==== Sys2Proof/Tests/Slice0.lean ====
section
/-! SUPPORT. Tests: the checks of `Instr.wf`, single steps whose results the rules give, and, for each part of a statement
that has hypotheses, a witness: states and operands that meet the hypotheses of its clauses together. -/

open Sys2Proof Sys2Proof.Machine Sys2Proof.Spec

namespace Sys2Proof.Tests

/- The tests are elaborated one after another, since each thread that waits for the kernel holds a large stack. -/
set_option Elab.async false

/-! ### Well-formed commands -/

/-- Commands that are ill-formed, one for each check: addresses, windows, ports, stores and contexts. -/
theorem test_wf_refuses : (([.registerWrite 0 0x0000002 0, .registerRead 0 0x0000001, .readClear 0 0x0000003, .wselWrite ⟨.prt, 0⟩ 0,
    .waddrWrite ⟨.swc, 4⟩ 0, .wdataRead ⟨.pup, 4⟩, .wdataWrite ⟨.bpm, 0⟩ 0, .portEnable 0 0, .portDisable 0 1,
    .frameReceiveStart 0 [], .ebankWrite 7 0, .runWrite 4 0, .parityInjectNw 0 0, .parityInjectNw 14 16, .parityInjectMw 0 0,
    .add ⟨0, 384, 1⟩ 0 0 0, .watchdogExpiry ⟨3, 385, 3⟩, .asaPartitionWrite 4 0 0, .configSignatureRecompute ⟨.kce, 0⟩,
    .fabricCellReceive ⟨1, 1⟩ true] : List Instr).all fun i => !i.wf) = true := by decide +kernel

/-- The same for the deep tier, the traffic manager, the governor and the time unit. -/
theorem test_wf_refuses_values : (([.sharedPoolConfigWrite 8 .ingRsv 0, .hrcfgEnable 0, .injectFetch 0 [] [], .trainingStart 0 0,
    .ddrTrainingComplete 0 0 0 [],
    .channelEnable 0 0, .channelDisable 0 1, .bpmEnable 5 0, .hpprRequest 0 0, .subscriberNodeWrite 0 0 [0, 0],
    .serviceNodeWrite 9 0 [0, 0, 0, 0, 0], .meterConfigWrite 0 0 [], .gateConfigWrite 0 0 (some 0) [0],
    .gateConfigWrite 0 0 none [0, 0], .gateEnable 0 0 0, .armCancel 0, .toutArm 0 0, .snapArm 0,
    .ksetWrite 0] : List Instr).all fun i => !i.wf) = true := by decide +kernel

/-- The same for the host channel, the Kennel, the fault collector and the rows without an index. -/
theorem test_wf_refuses_requests : (([.commandFetch 0 [], .tenantMapWrite 0 [], .setgo 0x5A, .kennelAck 0xA5, .knlCtrlAck 0,
    .muzzleForce 0, .muzzleRelease 0, .blockResetRequest 0, .chipResetRequest 0, .snapFireWrite 0, .snapBankFree 0,
    .pcieLinkUp 0 1, .pcieLinkUp 1 3, .unassignedBaseNanoword ⟨0, 387, 2⟩ 0] : List Instr).all fun i => !i.wf) = true := by
  decide +kernel

/-- Commands next to those, which are well-formed. -/
theorem test_wf_accepts : ([.registerWrite 0 0x0000004 0, .wselWrite ⟨.swc, 3⟩ 0, .wselWrite ⟨.pup, 15⟩ 0, .portEnable 255 1,
    .frameReceiveStart 0 [0], .ebankWrite 15 0, .parityInjectNw 3 16, .add ⟨0, 384, 0⟩ 0 0 0, .add ⟨3, 383, 3⟩ 0 0 0,
    .setgo 0xA5, .kennelAck 0x5A, .chipResetRequest 0xC5, .pcieLinkUp 1 8] : List Instr).all Instr.wf = true := by
  decide +kernel

/-! ### Single steps -/

/-- A pup context about to run, in a machine out of reset. -/
def xp : CtxId := ⟨2, 5, 3⟩
def run (c : Ctx) : State :=
  ({ boot := { ({} : State).boot with vkeep := true, avs := true, inReset := false } } : State).setCtx xp { c with running := true }
def next (o : Host.Outcome State Fault Refusal) : State := match o with | .next t => t | _ => {}
def after (i : Instr) (w : Vector Word 16) : Ctx := (next (exec i (run { w := w, pc := 9 }))).ctx xp
def ws : Vector Word 16 := #v[0, 1, 0xFFFFFFFF, 0x80000000, 0x7FFFFFFF, 31, 0x12345678, 5, 0, 0, 0, 0, 0, 0, 0, 0]

/-- R96: the result wraps to 0; Z and the carry are 1, N and V 0; only the destination changes. -/
theorem test_add_wraps : (let c := after (.add xp 8 2 1) (ws.set 8 7); (c.w = ws ∧ c.z ∧ c.c ∧ !c.n ∧ !c.v ∧ c.pc = 10)) := by
  decide +kernel
/-- R96: 0x7FFFFFFF + 1 overflows as signed. -/
theorem test_add_overflows : (let c := after (.add xp 8 4 1) ws; (c.w[8] = 0x80000000 ∧ c.v ∧ c.n ∧ !c.c)) := by decide +kernel
/-- R96: 1 − 5 borrows. -/
theorem test_sub_borrows : (let c := after (.sub xp 1 1 7) ws; (c.w[1] = 0xFFFFFFFC ∧ c.c ∧ c.n ∧ !c.v)) := by decide +kernel
/-- R96: a shift by 0 shifts no bit out. -/
theorem test_shift_by_zero : (let c := after (.shl xp 8 3 0) ws; (c.w[8] = 0x80000000 ∧ !c.c)) := by decide +kernel
/-- R96: SHR by 31 shifts out bit 30 last. -/
theorem test_shr_carry : (let c := after (.shr xp 8 4 5) ws; (c.w[8] = 0 ∧ c.c ∧ c.z)) := by decide +kernel
/-- R165: RDST4 stores the least significant byte first, at its offset. -/
theorem test_rdst4_little_endian :
    (let c := after (.rdst4 xp 6 3) ws; [2, 3, 4, 5, 6, 7].map (fun k => c.rd.get k) = [0, 0x78, 0x56, 0x34, 0x12, 0]) := by
  decide +kernel
/-- R115: a taken branch runs its delay slot first. -/
theorem test_branch_delays : (let c := after (.br xp 77) ws; (c.pc = 10 ∧ c.slot = some (some 77))) := by decide +kernel
/-- The FCS of the nine digits of the usual CRC-32 check is CB F4 39 26, least significant byte first. -/
theorem test_fcs_check : fcsOf ([0x31, 0x32, 0x33, 0x34, 0x35, 0x36, 0x37, 0x38, 0x39] : List Byte) = [0x26, 0x39, 0xF4, 0xCB] := by
  decide +kernel
/-- A step takes the front of the queue. -/
theorem test_step_takes_the_front :
    (next (step { run { w := ws } with pending := [.mov xp 0 6, .nop xp] })).pending = [.nop xp] := by decide +kernel
/-- No word spells a command: the table gives its rows no bits. -/
theorem test_no_words : decodeTableWord 32 0 = none := rfl

/-! ### Witnesses -/

/-- Element `i` of a list. -/
def pick {α : Type} [Inhabited α] (l : List α) (i : Nat) : α := l.getD i default

/-- The machine after fuse load: the register fabric runs. -/
def up (s : State) : State := ({ s with boot := { s.boot with inReset := false } }).setRegB knl4 R.KNL_BOOT 0 true

namespace Machine

/-- Hypotheses of `QueueAndTimeAdvance`, `IdleStepPassesANanosecond` that can be met. -/
theorem test_witness_IdleStepPassesANanosecond : ∃ s : State, s.pending = [] ∧ NoHkWrite s :=
  ⟨{}, rfl, by decide +kernel⟩
/-- Hypotheses of `QueueAndTimeAdvance`, `QueueIsFirstInFirstOut` that can be met. -/
theorem test_witness_QueueIsFirstInFirstOut :
    (∃ s t : State, s.pending = [] ∧ step s = .next t) ∧ (∃ s t : State, s.pending ≠ [] ∧ step s = .next t) :=
  ⟨⟨{}, _, rfl, rfl⟩, ⟨{ pending := [.pcieLinkLoss] }, _, by decide, rfl⟩⟩
/-- Hypotheses of `EveryCommandGoesOn` that can be met; the variant is the configuration's, so it stays a premise here. -/
theorem test_witness_EveryCommandGoesOn :
    (∃ s : State, ∃ sl : Slice, ∃ idx : Fin 6, ∃ temp : BitVec 16, s.boot.vaon = true ∧
        s.regB (slInst .egv sl) (R.EGV_SENSOR + 4 * idx.val) 16 = false ∧ -440 ≤ temp.toInt ∧ temp.toInt < 0) ∧
    (Config.variantS = true → ∃ c : Instr, ∃ s t : State, exec c s = .next t ∧ s.boot.unrated = false ∧
        t.boot.unrated = true) ∧
    (∃ s : State, s.boot.porstLow = true ∧
        (∃ (sl : Slice) (k : Fin 6), s.regB (slInst .egv sl) (R.EGV_SENSOR + 4 * k.val) 16 = false) ∧
        ∀ (sl : Slice) (k : Fin 6), s.regB (slInst .egv sl) (R.EGV_SENSOR + 4 * k.val) 16 = false →
          6 * sl.val + k.val ∈ s.boot.warm) ∧
    (∃ s : State, s.boot.porstLow = true ∧ s.boot.unrated = true ∧ ∃ (sl : Slice) (k : Fin 6),
        s.regB (slInst .egv sl) (R.EGV_SENSOR + 4 * k.val) 16 = false ∧ 6 * sl.val + k.val ∉ s.boot.warm) ∧
    (∃ s : State, ∃ temp : BitVec 16, Quiet s ∧ s.boot.vaon = true ∧ s.hot = false ∧ 0 ≤ temp.toInt ∧ temp.toInt < s.thot ∧
        ∀ v ∈ s.allTemps, v < s.thot) ∧
    (∃ s : State, ∃ src : Fin 96, Quiet s ∧ s.conditionLasts src.val = false) ∧
    ∃ s : State, Quiet s ∧ s.flt.bark = true :=
  ⟨⟨up {}, 1, 2, 0xFFF0, by decide +kernel, by decide +kernel, by decide, by decide⟩,
   fun h => ⟨.sensorSample 0 0 0xFFF0, {}, _, rfl, rfl, by simp [State.loseGuarantee, h]; decide +kernel⟩,
   ⟨{ boot := { ({} : State).boot with porstLow := true, warm := List.range 24 } }, rfl, by decide +kernel, by decide +kernel⟩,
   ⟨{ boot := { ({} : State).boot with porstLow := true, unrated := true, warm := [3, 22] } }, rfl, rfl, 1, 2, by decide +kernel,
       by decide +kernel⟩,
   ⟨up {}, 300, by and_intros <;> decide +kernel⟩,
   ⟨up {}, 91, by decide +kernel, by decide +kernel⟩,
   ⟨{ flt := { ({} : State).flt with bark := true } }, by decide, rfl⟩⟩
/-- Hypotheses of `NoDetectionIsLeft` that can be met. -/
theorem test_witness_NoDetectionIsLeft : ∃ s t : State, s.flt.toRaise = [] ∧ step s = .next t := ⟨{}, _, rfl, rfl⟩
/-- Hypotheses of `CanonicalFormsAreKept` that can be met, by a state in which something is listed. -/
theorem test_witness_CanonicalFormsAreKept :
    ∃ s t : State, s.regs ≠ ⟨[]⟩ ∧ s.win ≠ ⟨[]⟩ ∧ Canonical s ∧ step s = .next t :=
  ⟨((up {}).setReg hif4 R.HIF_BADADDR 3).setEnt flt4 4 12 0 1, _, by decide +kernel, by decide +kernel,
    by constructor <;> decide +kernel, rfl⟩
/-- Hypotheses of `ResetLeaves` that can be met. -/
theorem test_witness_ResetLeaves :
    (∃ (i : InstId) (off : Nat) (r : RegRow), off < 4096 ∧ regRow i off = some r) ∧
    (∃ (i : InstId) (w e k n m : Nat), winDim i w = some (n, m) ∧ e < n ∧ k < m) :=
  ⟨⟨flt4, 0xC, _, by decide, rfl⟩, ⟨slInst .pcl 0, 2, 63, 0, 64, 1, by decide +kernel, by decide, by decide⟩⟩

end Machine

namespace Registers

def rows : List (InstId × RegRow) := [slInst .rwr 1, slInst .asa 2, kce4].flatMap fun i => (regTable i).map (i, ·)
def vals1 : List RegRow := rows.map (·.2)
def gS (s : State) : State := rows.foldl (fun s (i, r) => (s.setReg i r.off 0xA5A5A5A5)) s
/-- Hypotheses of `RegisterAccess`, `RegisterWrites` that can be met. -/
theorem test_witness_RegisterWrites :
    (∃ s : State, ∃ i : InstId, ∃ off : Nat, ∃ r : RegRow, FieldsOnly i off r ∧ Reached s i) ∧
    (∃ s : State, ∃ i : InstId, ∃ off : Nat, ∃ r : RegRow, FieldsOnly i off r ∧ Quiet s ∧
        s.reachable i = false) ∧
    (∃ s : State, ∃ i : InstId, ∃ off : Nat, ∃ r : RegRow, ∃ v : Word, FieldsOnly i off r ∧ ∃ rest, Quiet s ∧
        s.reachable i = true ∧ s.held = { inst := i, off := off, value := some v } :: rest) ∧
    (∃ s : State, ∃ i : InstId, ∃ off : Nat, ∃ r : RegRow, FieldsOnly i off r ∧ ∃ addr : BitVec 28, Reached s hif4 ∧
        decodeAddr addr = none) ∧
    (∃ s : State, ∃ i : InstId, ∃ off event : Nat, ∃ r : RegRow, Mask i off r event ∧ Reached s i) ∧
    (∃ s : State, ∃ b : Block, ∃ off : Nat, ∃ r : RegRow, b.sliced = true ∧ FieldsOnly (slInst b 0) off r ∧
        (∀ sl : Slice, Reached s (slInst b sl)) ∧ s.held = []) :=
  ⟨⟨up {}, slInst .rwr 1, 0x0, pick vals1 0, by constructor <;> decide +kernel, by constructor <;> decide +kernel⟩,
   ⟨(gS (up {})).setRegF (slInst .egv 2) R.EGV_SSTAT 8 2 1, slInst .asa 2, 0x0, pick vals1 8,
       by constructor <;> decide +kernel, by decide +kernel, by decide +kernel⟩,
   ⟨{ gS (up {}) with held := [{ inst := slInst .asa 2, off := 4, value := some 0x12345678 }] }, slInst .asa 2, 4, pick vals1 9,
       0x12345678, by constructor <;> decide +kernel, [], by and_intros <;> decide +kernel⟩,
   ⟨up {}, slInst .rwr 1, 0x0, pick vals1 0, by constructor <;> decide +kernel, 0xFFFFFFF, by constructor <;> decide +kernel,
       by decide +kernel⟩,
   ⟨up {}, slInst .rwr 1, R.RWR_EVMASK, R.RWR_STAT, _, ⟨by decide +kernel, by decide +kernel, rfl, _, _, rfl, by decide +kernel⟩,
       by constructor <;> decide +kernel⟩,
   ⟨up {}, .rwr, 0x0, pick vals1 0, by decide +kernel, by constructor <;> decide +kernel,
       fun sl => by constructor <;> revert sl <;> decide +kernel, rfl⟩⟩
/-- Hypotheses of `RegisterAccess`, `RegisterReads` that can be met. -/
theorem test_witness_RegisterReads :
    ∃ s : State, ∃ i : InstId, ∃ off : Nat, ∃ r : RegRow, actsOnRead i off = false ∧
        i.present = true ∧ off < 4096 ∧ regRow i off = some r ∧ isWinReg i off = false ∧ Reached s i ∧
        ∃ addr : BitVec 28, Reached s hif4 ∧ decodeAddr addr = none :=
  ⟨up {}, slInst .rwr 1, 0x0, pick vals1 0, by decide +kernel, by decide +kernel, by decide +kernel, by decide +kernel,
      by decide +kernel, by constructor <;> decide +kernel, 0xFFFFFFF, by constructor <;> decide +kernel, by decide +kernel⟩

end Registers

namespace Windows

def st (x : WinState) : State := (([slInst .rwr 1, slInst .pcl 2, slInst .egv 0,
    slInst .fwd 3]).foldl (fun s i => s.setWs i x) (up {}))
def xs : List WinState := [3,4,0,1].flatMap fun a => [({} : WinState), { win := 2, addr := a, ainc := true },
    { win := 1, addr := a, staged := [(0,5),(1,6),(9,7)] },
    { win := 1, addr := a, ainc := true, staged := [(2,5),(1,6),(2,0xFFFFFFFF),(9,7)],
      capture := some (1, 0, [7,8,9,10]) },
    { win := 99, addr := a, partialLost := true, capture := some (1, 1, []) },
    {win := 0, addr := 0xFFFFFFFF, ainc := true}]
def vals4 : List State := xs.map st
theorem beyond {s : State} {i : InstId}
    (h : ((winDim i (s.wsOf i).win.toNat).all fun d => decide (d.1 * d.2 ≤ (s.wsOf i).addr.toNat)) = true) : Beyond s i := by
  intro n m e
  rw [e] at h
  simpa using h
/-- Hypotheses of `WindowsAreSelectedAndAccessed`, `WindowSelects` that can be met. -/
theorem test_witness_WindowSelects :
    ∃ s : State, ∃ i : InstId, i.hasWindow = true ∧ i.inst ≠ 15 ∧ Reached s i :=
  ⟨pick vals4 0, slInst .rwr 1, by decide +kernel, by decide +kernel, by constructor <;> decide +kernel⟩
/-- Hypotheses of `WindowAccessBeyondTheEnd` that can be met. -/
theorem test_witness_WindowAccessBeyondTheEnd :
    ∃ s : State, ∃ i : InstId, i.hasWindow = true ∧ i.inst ≠ 15 ∧ Reached s i ∧ Beyond s i :=
  ⟨pick vals4 1, slInst .rwr 1, by decide +kernel, by decide +kernel, by constructor <;> decide +kernel,
      beyond (by decide +kernel)⟩
/-- A list of RWR with two damaged words, one of them under ADDR. -/
def twoBad : State :=
  { (up {}).setWs (slInst .rwr 1) { addr := 16 } with
    bad := (({} : Tbl Bool).set (winKey (slInst .rwr 1) 0 3) true).set (winKey (slInst .rwr 1) 0 16) true }
/-- Hypotheses of `WindowsAreSelectedAndAccessed`, `WindowData` that can be met. -/
theorem test_witness_WindowData :
    (∃ s : State, ∃ i : InstId, ∃ e : Nat, ∃ j : Nat, ∃ m : Nat, i.hasWindow = true ∧ i.inst ≠ 15 ∧ Reached s i ∧
        At s i e j m ∧ ¬(i.block = .asa ∧ (s.wsOf i).win.toNat = 0) ∧ ∃ l,
        (s.wsOf i).capture = some (((s.wsOf i).win.toNat), e, l) ∧ j ≠ 0) ∧
    (∃ s : State, ∃ i : InstId, ∃ e : Nat, ∃ j : Nat, ∃ m : Nat, i.hasWindow = true ∧ i.inst ≠ 15 ∧ Reached s i ∧
        At s i e j m ∧ ¬(i.block = .asa ∧ (s.wsOf i).win.toNat = 0) ∧ ((j = 0 ∨ ∀ l,
        (s.wsOf i).capture ≠ some (((s.wsOf i).win.toNat), e, l))) ∧
        s.badEntry i (s.wsOf i).win.toNat e = false ∧ readsStored i (s.wsOf i).win.toNat = true ∧ i.block ≠ .pup ∧
        i.block ≠ .rwr) ∧
    (∃ s : State, ∃ i : InstId, ∃ e : Nat, ∃ j : Nat, ∃ m : Nat, i.hasWindow = true ∧ i.inst ≠ 15 ∧ Reached s i ∧
        At s i e j m ∧ j = 0 ∧ s.badEntry i (s.wsOf i).win.toNat e = false ∧ i.block = .rwr ∧ (s.wsOf i).win.toNat = 0) ∧
    (∃ s : State, ∃ e : Nat, ∃ m : Nat, Reached s flt4 ∧ At s flt4 e 0 m ∧
        s.badEntry flt4 (s.wsOf flt4).win.toNat e = false ∧ (s.wsOf flt4).win.toNat < 4 ∧
        s.flt.banks.get (s.wsOf flt4).win.toNat = none) ∧
    (∃ s : State, ∃ i : InstId, ∃ e : Nat, ∃ j : Nat, ∃ m : Nat, i.hasWindow = true ∧ i.inst ≠ 15 ∧ Reached s i ∧
        At s i e j m ∧ j + 1 < m) ∧
    (∃ s : State, ∃ i : InstId, ∃ e : Nat, ∃ j : Nat, ∃ m : Nat, i.hasWindow = true ∧ i.inst ≠ 15 ∧ Reached s i ∧
        At s i e j m ∧ storesWords s i (s.wsOf i).win.toNat e = true ∧ plainStore i (s.wsOf i).win.toNat = true ∧ j + 1 = m ∧
        ∃ k, k < m) ∧
    (∃ s : State, ∃ i : InstId, ∃ e : Nat, ∃ j : Nat, ∃ m : Nat, i.hasWindow = true ∧ i.inst ≠ 15 ∧ Reached s i ∧
        At s i e j m ∧ storesWords s i (s.wsOf i).win.toNat e = true ∧ plainStore i (s.wsOf i).win.toNat = false ∧ j + 1 = m ∧
        ∃ d, d ≠ e) ∧
    (∃ s : State, Reached s (slInst .rwr 1) ∧ At s (slInst .rwr 1) 0 16 17 ∧ (s.wsOf (slInst .rwr 1)).win.toNat = 0 ∧
        s.badWord (slInst .rwr 1) 0 3 = true ∧ s.badWord (slInst .rwr 1) 0 16 = true) :=
  ⟨⟨pick vals4 3, slInst .fwd 3, 0, 3, 4, by decide +kernel, by decide +kernel, by constructor <;> decide +kernel, ⟨⟨_,
      rfl, by decide +kernel⟩, by decide +kernel⟩, by decide +kernel, [0x00000007#32, 0x00000008#32, 0x00000009#32,
      0x0000000a#32], by decide +kernel, by decide +kernel⟩,
   ⟨pick vals4 0, slInst .pcl 2, 0, 0, 2, by decide +kernel, by decide +kernel, by constructor <;> decide +kernel, ⟨⟨_,
       rfl, by decide +kernel⟩, by decide +kernel⟩, by decide +kernel, .inl rfl, by decide +kernel, by decide, by decide, by decide⟩,
   ⟨pick vals4 0, slInst .rwr 1, 0, 0, 17, by decide +kernel, by decide +kernel, by constructor <;> decide +kernel, ⟨⟨_,
       rfl, by decide +kernel⟩, by decide +kernel⟩, rfl, by decide +kernel, rfl, by decide +kernel⟩,
   ⟨up {}, 0, 1, by constructor <;> decide +kernel, ⟨⟨_, rfl, by decide +kernel⟩, by decide +kernel⟩, by and_intros <;> decide +kernel⟩,
   ⟨pick vals4 0, slInst .pcl 2, 0, 0, 2, by decide +kernel, by decide +kernel, by constructor <;> decide +kernel, ⟨⟨_,
       rfl, by decide +kernel⟩, by decide +kernel⟩, by decide +kernel⟩,
   ⟨pick vals4 0, slInst .egv 0, 0, 0, 1, by decide +kernel, by decide +kernel, by constructor <;> decide +kernel, ⟨⟨_,
       rfl, by decide +kernel⟩, by decide +kernel⟩, by decide +kernel, by decide +kernel, by decide +kernel, 0, by decide +kernel⟩,
   ⟨pick vals4 0, slInst .pup 2, 0, 0, 1, by decide +kernel, by decide +kernel, by constructor <;> decide +kernel, ⟨⟨_,
       rfl, by decide +kernel⟩, by decide +kernel⟩, by decide +kernel, by decide +kernel, by decide +kernel, 1,
       by decide +kernel⟩,
   ⟨twoBad, by constructor <;> decide +kernel, ⟨⟨_, rfl, by decide +kernel⟩, by decide +kernel⟩, by and_intros <;> decide +kernel⟩⟩
/-- R39, R257: the word of the list that is stored is repaired, and the damaged word that is not staged stays damaged. -/
theorem test_list_store_keeps_damage : (match exec (.wdataWrite (slInst .rwr 1) 5) twoBad with
    | .next t => (t.badWord (slInst .rwr 1) 0 3, t.badWord (slInst .rwr 1) 0 16, t.winWord (slInst .rwr 1) 0 16)
    | _ => (false, true, 0)) = (true, false, 5) := by decide +kernel

end Windows

namespace Zenrex

/-- A pup context in the middle of a run, and a context that runs housekeeping entry 241. -/
def xp : CtxId := ⟨2, 5, 3⟩
def xh : CtxId := ⟨2, 385, 0⟩
def b : State := { boot := { ({} : State).boot with vkeep := true, avs := true, inReset := false } }
def c0 : Ctx :=
  { running := true,
    w := #v[0, 1, 0xFFFFFFFF, 0x80000000, 0x7FFFFFFF, 31, 2, 5, 0xFF, 3, 0xABCD, 0x80000001, 0, 17, 9, 64],
    k := #v[0x00112233445566778899AABBCCDDEEFF, 5, 7, 2^127], pc := 100, fid := 4, tid := 9, hp := 10 }
def sp : State := b.setCtx xp c0
def sh : State := b.setCtx xh { c0 with entry := 241 }

theorem ready (idx : Nat) (uses : List Reg) : Ready sp xp idx uses :=
  ⟨⟨⟨rfl, rfl⟩, rfl⟩, by decide +kernel, by decide +kernel, rfl, rfl,
      fun r _ => by rw [show (sp.ctx xp).locked = [] by decide +kernel]; exact List.not_mem_nil⟩

theorem readyH (idx : Nat) (uses : List Reg) : Ready sh xh idx uses :=
  ⟨⟨⟨rfl, rfl⟩, rfl⟩, by decide +kernel, by decide +kernel, rfl, rfl,
      fun r _ => by rw [show (sh.ctx xh).locked = [] by decide +kernel]; exact List.not_mem_nil⟩

theorem canLook (idx : Nat) (d : Reg) (n : Nat) (uses : List Reg) : CanLook sp xp idx d n uses :=
  ⟨ready _ _, by revert d; decide +kernel⟩

theorem canLookH (idx : Nat) (d : Reg) (n : Nat) (uses : List Reg) : CanLook sh xh idx d n uses :=
  ⟨readyH _ _, by revert d; decide +kernel⟩
/-- Hypotheses of `AluResultsAndFlags`, `AluRegisterForms` that can be met. -/
theorem test_witness_AluRegisterForms :
    ∀ i ∈ ([.mov xp 3 3, .add xp 2 3 15, .sub xp 2 3 15, .and xp 2 3 15, .or xp 2 3 15, .xor xp 2 3 15, .andn xp 2 3 15,
        .shl xp 2 3 15, .shr xp 2 3 5, .sar xp 2 3 5, .rol xp 2 3 5, .minu xp 2 3 4, .maxu xp 2 3 4, .adc xp 2 3 4,
        .sbc xp 2 3 4, .tst xp 0, .cmpf xp 0 15] : List Instr),
      ∃ s x idx o, aluRegister s i = some (x, idx, o) ∧ Ready s x idx o.uses ∧ TailOk (s.ctx x) := by
  intro i h; fin_cases h <;> exact ⟨sp, xp, _, _, rfl, ready _ _, .inl (by decide +kernel)⟩
/-- Hypotheses of `AluResultsAndFlags`, `AluImmediateForms` that can be met. -/
theorem test_witness_AluImmediateForms :
    ∀ i ∈ ([.movi xp 2 0xFFF, .addi xp 2 3 0xFFF, .subi xp 2 3 0, .andi xp 2 3 1, .ori xp 2 3 1, .xori xp 2 3 1,
        .shli xp 2 3 31, .shri xp 2 3 32, .sari xp 2 3 0, .roli xp 2 3 31, .minui xp 2 3 7, .maxui xp 2 3 7,
        .addsi xp 2 3 0x800, .cmpfi xp 3 0, .movw xp 15 0xFFFF, .orh xp 15 0xFFFF, .addw xp 0 0x8000] : List Instr),
      ∃ s x idx o, aluImmediate s i = some (x, idx, o) ∧ Ready s x idx o.uses ∧ TailOk (s.ctx x) := by
  intro i h; fin_cases h <;> exact ⟨sp, xp, _, _, rfl, ready _ _, .inl (by decide +kernel)⟩
/-- Hypotheses of `ExtractsAndDeposits`, `ExtractsDeliverTheirField` that can be met. -/
theorem test_witness_ExtractsDeliverTheirField :
    ∀ i ∈ ([.ext8 xp 0 245, .ext16 xp 0 244, .ext24 xp 0 0, .ext32 xp 15 242, .extnh xp 1 0, .extnl xp 1 0, .ext12 xp 1 0,
        .ext3 xp 1 0, .ext20 xp 1 0, .ext6 xp 1 0, .ext13 xp 1 0, .extr8 xp 1 13, .extr16 xp 1 13, .extr32 xp 1 13,
        .xmd8 xp 1 63, .xmd16 xp 1 62, .xmd32 xp 1 60, .xk32 xp 3 1 12, .xtk32 xp 1 3 0, .xtk16 xp 3 0 242] : List Instr),
      ∃ s e, extractForm s i = some e ∧ Ready s e.x e.idx e.uses ∧ TailOk (s.ctx e.x) ∧ e.off + e.bytes ≤ e.src.size ∧
        ((∃ r, e.src = .key r) ∨ e.src = .md ∨ GoodBytes (s.ctx e.x) e.off e.bytes) := by
  intro i h
  fin_cases h <;>
    exact ⟨sp, _, rfl, ready _ _, .inl (by decide +kernel), by decide +kernel,
      by first | exact .inl ⟨_, rfl⟩ | exact .inr (.inl rfl) | exact .inr (.inr (by unfold GoodBytes; decide +kernel))⟩
/-- Hypotheses of `ExtractsAndDeposits`, `DepositsWriteTheView` that can be met. -/
theorem test_witness_DepositsWriteTheView :
    ∀ i ∈ ([.dep8 xp 0, .dep16 xp 15, .dep32 xp 3] : List Instr),
      ∃ s x idx a n, depositForm i = some (x, idx, a, n) ∧ Ready s x idx [a] ∧ (s.ctx x).committed = false ∧
        (s.ctx x).hp.toNat + n ≤ 256 := by
  intro i h; fin_cases h <;> exact ⟨sp, xp, _, _, _, rfl, ready _ _, by decide +kernel, by decide +kernel⟩
/-- Hypotheses of `ComparesAndRanges`, `ComparesWriteZ` that can be met. -/
theorem test_witness_ComparesWriteZ :
    ∀ i ∈ ([.cmpEq xp 0 3, .cmpNe xp 0 3, .cmpLtu xp 0 3, .cmpLeu xp 0 3, .cmpGtu xp 0 3, .cmpGeu xp 0 3, .cmpLt xp 0 3,
        .cmpLe xp 0 3, .cmpGt xp 0 3, .cmpGe xp 0 3, .cmpAny xp 0 3, .cmpAll xp 15 15, .cmpiEq xp 0 3, .cmpiNe xp 0 3,
        .cmpiLtu xp 0 3, .cmpiLeu xp 0 3, .cmpiGtu xp 0 3, .cmpiGeu xp 0 3, .cmpiLt xp 0 3, .cmpiLe xp 0 3, .cmpiGt xp 0 3,
        .cmpiGe xp 0 0xFFF, .cmpiAny xp 0 3, .cmpiAll xp 0 3] : List Instr),
      ∃ s x idx uses r, compareForm s i = some (x, idx, uses, r) ∧ Ready s x idx uses ∧ TailOk (s.ctx x) := by
  intro i h; fin_cases h <;> exact ⟨sp, xp, _, _, _, rfl, ready _ _, .inl (by decide +kernel)⟩
/-- Hypotheses of `RdStoresReachTheDescriptor`, `RdStores` that can be met. -/
theorem test_witness_RdStores :
    ∀ i ∈ ([.rdst1 xp 0 0, .rdst2 xp 3 63, .rdst4 xp 3 255, .rdst8 xp 15 60, .rdsti1 xp 47 9] : List Instr),
      ∃ s x idx uses off l, rdStore s i = some (x, idx, uses, off, l) ∧ Ready s x idx uses ∧ isHk x = false ∧
        (s.ctx x).committed = false := by
  intro i h; fin_cases h <;> exact ⟨sp, xp, _, _, _, _, rfl, ready _ _, by decide +kernel, by decide +kernel⟩
/-- Hypotheses of `MdStoresPointersAndKeys`, `MdStores` that can be met. -/
theorem test_witness_MdStores :
    ∀ i ∈ ([.setcol xp 9, .setdp xp 9, .setusr xp 3 15, .setcoli xp 3, .setdpi xp 0] : List Instr),
      ∃ s x idx uses off l, mdStore s i = some (x, idx, uses, off, l) ∧ Ready s x idx uses ∧ isHk x = false ∧
        (s.ctx x).committed = false := by
  intro i h; fin_cases h <;> exact ⟨sp, xp, _, _, _, _, rfl, ready _ _, by decide +kernel, by decide +kernel⟩
/-- Hypotheses of `BranchesLoopsAndModes`, `BranchesRememberTheirTarget` that can be met. -/
theorem test_witness_BranchesRememberTheirTarget :
    ∀ i ∈ ([.br xp 7, .bz xp 7, .bnz xp 7, .bc xp 7, .bnc xp 7, .bn xp 7, .bnn xp 7, .bv xp 7, .bnv xp 7, .blt xp 7,
        .bge xp 7, .bhi xp 0, .bls xp 0x3FFF, .jr xp 15] : List Instr),
      ∃ s x idx uses taken tgt, branchForm s i = some (x, idx, uses, taken, tgt) ∧ Ready s x idx uses ∧
        TailOk (s.ctx x) ∧ (s.ctx x).slot = none ∧ NotLast (s.ctx x) := by
  intro i h
  fin_cases h <;> exact ⟨sp, xp, _, _, _, _, rfl, ready _ _, .inl (by decide +kernel), by decide +kernel,
      by unfold NotLast; decide +kernel⟩
/-- Hypotheses of `BranchesLoopsAndModes`, `LoopsPushTheirBody` that can be met. -/
theorem test_witness_LoopsPushTheirBody :
    ∀ i ∈ ([.loop xp 0 5, .loop xp 9 63, .loopr xp 2 0] : List Instr),
      ∃ s x idx uses n a, loopForm s i = some (x, idx, uses, n, a) ∧ Ready s x idx uses ∧ (s.ctx x).committed = false ∧
        (s.ctx x).slot = none ∧ NotLast (s.ctx x) ∧ (s.ctx x).loops.length < 2 := by
  intro i h
  fin_cases h <;>
    exact ⟨sp, xp, _, _, _, _, rfl, ready _ _, by and_intros <;> first | decide +kernel | (unfold NotLast; decide +kernel)⟩
/-- Hypotheses of `BranchesLoopsAndModes`, `ModeActsAfterItsShadow` that can be met. -/
theorem test_witness_ModeActsAfterItsShadow :
    ∀ i ∈ ([.mode xp 0xFFF, .moder xp 15 0x100] : List Instr),
      ∃ s x idx uses tid imm, modeForm s i = some (x, idx, uses, tid, imm) ∧ Ready s x idx uses ∧ isHk x = false ∧
        (s.ctx x).committed = false ∧ Straight (s.ctx x) := by
  intro i h
  fin_cases h <;>
    exact ⟨sp, xp, _, _, _, _, rfl, ready _ _, by decide +kernel, by decide +kernel, by unfold Straight; decide +kernel⟩
/-- Hypotheses of `TableLookupsIssue`, `DirectLookupsIssue` that can be met. -/
theorem test_witness_DirectLookupsIssue :
    ∀ i ∈ ([.lbl xp 0 2, .nh xp 15 2, .sess xp 4 2, .pvlan xp 8 2, .bd xp 12 0] : List Instr),
      ∃ s x idx t bits d a, directForm i = some (x, idx, t, bits, d, a) ∧
        CanLook s x idx d (if t = 3 ∨ t = 4 then 4 else 2) [a] ∧ (s.ctx x).committed = false ∧
        ∀ j, j < (if t = 3 ∨ t = 4 then 4 else 2) → s.badWord (slInst .fwd x.slice) (t - 2)
          ((if t = 3 ∨ t = 4 then 4 else 2) * ((s.ctx x).w[a].toNat % 2 ^ bits) + j) = false := by
  intro i h; fin_cases h <;> exact ⟨sp, xp, _, _, _, _, _, rfl, canLook _ _ _ _, by decide +kernel, fun _ _ => rfl⟩
/-- Hypotheses of `TableLookupsIssue`, `LpmLookupsIssue` that can be met. -/
theorem test_witness_LpmLookupsIssue :
    ∃ s x, (s.ctx x).committed = false ∧ (s.fwd x.slice).badNodes = [] ∧ ∀ d a : Reg, ∀ k : Fin 4, CanLook s x 0x120 d 2 [a] ∧
        CanLook s x (0x121 + k.val) d 2 [] :=
  ⟨sp, xp, by decide +kernel, by decide +kernel, fun _ _ _ => ⟨canLook _ _ _ _, canLook _ _ _ _⟩⟩
/-- Hypotheses of `SearchesAndResults`, `SearchesIssue` that can be met. -/
theorem test_witness_SearchesIssue :
    ∀ i ∈ ([.srch160 xp 0 0 2, .srch320 xp 15 4 14, .srch640 xp 7 12 0] : List Instr),
      ∃ s x idx p width n d uses key, searchForm s i = some (x, idx, p, width, n, d, uses, key) ∧ CanLook s x idx d n uses ∧
        (s.ctx x).committed = false ∧ ∀ w k, s.badEntry (slInst .pcl x.slice) w k = false := by
  intro i h
  fin_cases h <;> exact ⟨sp, xp, _, _, _, _, _, _, _, rfl, canLook _ _ _ _, by decide +kernel,
      fun w k => by simp [State.badEntry, State.badWord]; intros; rfl⟩
/-- Hypotheses of `RawAccesses` that can be met. -/
theorem test_witness_RawAccesses :
    (∀ i ∈ ([.trd xh 0 0 1, .trd2 xh 1 4 1] : List Instr), ∃ s x idx, ∃ t : Fin 8, ∃ m wr d a,
      rawForm i = some (x, idx, t, m, wr, d, a) ∧ isHk x = true ∧ (s.ctx x).committed = false ∧
      CanLook s x idx d (if wr then 0 else 2 * m) [a] ∧ (s.ctx x).w[a].toNat + m ≤ s.rawSize x.slice t.val ∧
      wr = false ∧ t.val ≤ 1) ∧
    (∀ i ∈ ([.trd xh 2 0 1, .trd2 xh 6 4 1] : List Instr), ∃ s x idx, ∃ t : Fin 8, ∃ m wr d a,
      rawForm i = some (x, idx, t, m, wr, d, a) ∧ isHk x = true ∧ (s.ctx x).committed = false ∧
      CanLook s x idx d (if wr then 0 else 2 * m) [a] ∧ (s.ctx x).w[a].toNat + m ≤ s.rawSize x.slice t.val ∧
      wr = false ∧ 2 ≤ t.val ∧ (∀ k, s.badWord (slInst .fwd x.slice) (t.val - 2) k = false) ∧ (t ≠ 7 ∨ ¬ Sweeps s x)) ∧
    (∀ i ∈ ([.twr xh 0 0 1, .twr2 xh 1 4 1] : List Instr), ∃ s x idx, ∃ t : Fin 8, ∃ m wr d a,
      rawForm i = some (x, idx, t, m, wr, d, a) ∧ isHk x = true ∧ (s.ctx x).committed = false ∧
      CanLook s x idx d (if wr then 0 else 2 * m) [a] ∧ (s.ctx x).w[a].toNat + m ≤ s.rawSize x.slice t.val ∧
      wr = true ∧ t.val ≤ 1 ∧ Quiet s ∧ s.regB (slInst .pup x.slice) R.PUP_MCHK0 23 = false ∧
      (s.pup x.slice).abandons.get ((s.ctx x).entry - 240) < 2) ∧
    (∀ i ∈ ([.twr xh 2 0 1, .twr2 xh 6 4 1] : List Instr), ∃ s x idx, ∃ t : Fin 8, ∃ m wr d a,
      rawForm i = some (x, idx, t, m, wr, d, a) ∧ isHk x = true ∧ (s.ctx x).committed = false ∧
      CanLook s x idx d (if wr then 0 else 2 * m) [a] ∧ (s.ctx x).w[a].toNat + m ≤ s.rawSize x.slice t.val ∧
      wr = true ∧ 2 ≤ t.val) := by
  refine ⟨?_, ?_, ?_, ?_⟩ <;> intro i h <;> fin_cases h
  all_goals
    refine ⟨sh, xh, _, _, _, _, _, _, rfl, by decide +kernel, by decide +kernel, canLookH _ _ _ _, by decide +kernel,
        rfl, ?_⟩
    first | decide +kernel | exact ⟨by decide +kernel, fun _ => rfl, .inl (by decide +kernel)⟩
/-- The ageing routine runs with a clock of `now`, and row 9 of the L2 partition is valid. -/
def aging (now : Nat) : State :=
  ((((sh.setEnt (slInst .asa 2) 1 3 0 0xC020).writeRow 2 9 { value := 5, valid := true }).setReg (slInst .fwd 2)
    R.FWD_AGECFG 0x8007).setReg (slInst .fwd 2) R.FWD_AGENOW (BitVec.ofNat 32 now)).setReg (slInst .fwd 2) R.FWD_LRNCFG 0x100
/-- Hypotheses of `ForwardingAdvances`, `SweepAgesRows` that can be met, by a row that is old (at 7) and by one that is not. -/
theorem test_witness_SweepAgesRows :
    ∀ now ∈ ([7, 6] : List Nat), ∃ (s : State) (x : CtxId) (d a : Reg) (w : Word), isHk x = true ∧ (s.ctx x).committed = false ∧
      Sweeps s x ∧ CanLook s x 0x1C7 d 2 [a] ∧ s.l2Part x.slice = some w ∧ (s.fwd x.slice).learnQ.length < 4096 ∧
      (s.ctx x).w[a].toNat < l2Rows w ∧ (∀ n, s.badWord (slInst .fwd x.slice) 5 n = false) ∧
      (let k := (s.asa x.slice).shadow.get (l2First w + (s.ctx x).w[a].toNat)
       let e := s.winWord (slInst .fwd x.slice) 5 (2 * (s.ctx x).w[a].toNat + 1)
       decide (k.valid = true ∧ e.getLsbD 17 = false ∧ e.getLsbD 16 = false ∧
         max 1 (fld (s.reg (slInst .fwd x.slice) R.FWD_AGECFG) 0 15) ≤
           (fld (s.reg (slInst .fwd x.slice) R.FWD_AGENOW) 0 16 + 65536 - fld e 0 16) % 65536) = decide (now = 7)) := by
  intro now h
  refine ⟨aging now, xh, 4, 14, 0xC020, ?_⟩
  have clean : ∀ now ∈ ([7, 6] : List Nat), (aging now).bad = {} := by decide +kernel
  fin_cases h
  all_goals
    refine ⟨by decide +kernel, by decide +kernel, by unfold Sweeps; decide +kernel, ⟨by constructor <;> decide +kernel, by decide +kernel⟩, by decide +kernel,
      by decide +kernel, by decide +kernel, fun n => ?_, by decide +kernel⟩
    rw [State.badWord, clean _ (by decide)]; rfl

end Zenrex

namespace Sequencing

def xp : CtxId := ⟨2, 5, 3⟩
def xh : CtxId := ⟨2, 385, 0⟩
def regs : Vector Word 16 := #v[0, 1, 0xFFFFFFFF, 0x80000000, 0x7FFFFFFF, 31, 0x12345678, 5, 0xFF, 3, 0xABCD, 0x80000001,
    0, 17, 0x0A000001, 64]
def c0 : Ctx := {
        running := true, w := regs, k := #v[0x00112233445566778899AABBCCDDEEFF, 5, 7, 2^127], pc := 100, fid := 4,
        frameView := ⟨(List.range 250).map fun k => (k, BitVec.ofNat 8 (k * 37 + 1))⟩,
        scratch := ⟨[(3, 9), (255, 1)]⟩,
        md := ⟨(List.range 64).filterMap fun k =>
          if (BitVec.ofNat 8 (k * 11)) = 0 then none else some (k, BitVec.ofNat 8 (k * 11))⟩,
        rd := ⟨[(0, 1), (5, 6), (63, 7)]⟩, tid := 9, hp := 10}
def st (s : State) (x : CtxId) (c : Ctx) : State := s.setCtx x c
def b : State := { boot := {({} : State).boot with vkeep := true, avs := true, inReset := false} }
def flags : List Ctx := [{c0 with c := true}, {c0 with z := true, n := true}, {c0 with v := true, view := true},
    {c0 with committed := true, tail := 3}, {c0 with slot := some none}, {c0 with slot := some (some 7)},
        {c0 with shadow := some (8, true)}, {c0 with loops := [⟨99, 100⟩], lc0 := 3},
            {c0 with loops := [⟨99, 100⟩], lc0 := 1}, {c0 with loops := [⟨90, 120⟩, ⟨95,110⟩], lc0 := 2, lc1 := 5},
            {c0 with cycles := 77, hp := 250}]
def states : List State := (c0 :: flags).flatMap fun c => [st b xp c, st b xh {c with entry := 241}]
def vals7 : List State := states ++ states.map fun s => s.setEntry (slInst .pcl 2) 0 33 0 [0, 0xFFFF]
/-- Hypotheses of `ComparesAndRanges`, `RangeSetsOneBit` that can be met. -/
theorem test_witness_RangeSetsOneBit :
    ∃ s : State, ∃ x : CtxId, ∃ p : Fin 64, ∃ d : Reg, ∃ a : Reg, Ready s x (0x0C0 + p.val) [d, a, 0] ∧
        (s.ctx x).committed = false :=
  ⟨pick vals7 0, xp, 0, 0, 0, by constructor <;> decide +kernel, by decide +kernel⟩
/-- Hypotheses of `MdStoresPointersAndKeys`, `PointerKeyAndWait` that can be met. -/
theorem test_witness_PointerKeyAndWait :
    (∃ s : State, ∃ x : CtxId, TailOk (s.ctx x) ∧ Ready s x 0x000 [0]) ∧
    (∃ s : State, ∃ x : CtxId, TailOk (s.ctx x) ∧ ∃ a : Reg, Ready s x 0x03C [a]) ∧
    (∃ s : State, ∃ x : CtxId, TailOk (s.ctx x) ∧ Ready s x 0x03D [0]) ∧
    (∃ s : State, ∃ x : CtxId, TailOk (s.ctx x) ∧ ∃ k : Fin 4, ∃ l : Fin 4, ∃ a : Reg,
        Ready s x (0x040 + 4 * k.val + l.val) [a, 0]) ∧
    (∃ s : State, ∃ x : CtxId, TailOk (s.ctx x) ∧ ∃ m : BitVec 4, Ready s x 0x112 [] ∧ ((∀ t : Fin 4,
        m.getLsbD t.val = true → (s.ctx x).look[t] = none))) :=
  ⟨⟨pick vals7 0, xp, by unfold TailOk; decide +kernel, by constructor <;> decide +kernel⟩,
   ⟨pick vals7 0, xp, by unfold TailOk; decide +kernel, 0, by constructor <;> decide +kernel⟩,
   ⟨pick vals7 0, xp, by unfold TailOk; decide +kernel, by constructor <;> decide +kernel⟩,
   ⟨pick vals7 0, xp, by unfold TailOk; decide +kernel, 0, 0, 0, by constructor <;> decide +kernel⟩,
   ⟨pick vals7 0, xp, by unfold TailOk; decide +kernel, 0, by constructor <;> decide +kernel, by decide +kernel⟩⟩
/-- Hypotheses of `BranchesLoopsAndModes`, `SequencingRules` that can be met. -/
theorem test_witness_SequencingRules :
    (∃ s : State, ∃ x : CtxId, Ready s x 0x000 [0] ∧ TailOk (s.ctx x) ∧ ∃ tgt, (s.ctx x).slot = some (some tgt) ∧
        (s.ctx x).shadow = none ∧ (s.ctx x).loops = []) ∧
    (∃ s : State, ∃ x : CtxId, Ready s x 0x000 [0] ∧ TailOk (s.ctx x) ∧ (s.ctx x).slot = some none ∧
        (s.ctx x).shadow = none ∧ (s.ctx x).loops = []) ∧
    (∃ s : State, ∃ x : CtxId, Ready s x 0x000 [0] ∧ TailOk (s.ctx x) ∧ (s.ctx x).slot = none ∧ (s.ctx x).loops = []) ∧
    (∃ s : State, ∃ x : CtxId, Ready s x 0x000 [0] ∧ TailOk (s.ctx x) ∧ ∃ l, (s.ctx x).slot = none ∧
        (s.ctx x).shadow = none ∧ (s.ctx x).loops = [l] ∧ (s.ctx x).pc = l.last ∧ 1 < (s.ctx x).lc0.toNat) ∧
    (∃ s : State, ∃ x : CtxId, Ready s x 0x000 [0] ∧ TailOk (s.ctx x) ∧ ∃ l, (s.ctx x).slot = none ∧
        (s.ctx x).shadow = none ∧ (s.ctx x).loops = [l] ∧ (s.ctx x).pc = l.last ∧ (s.ctx x).lc0.toNat ≤ 1) :=
  ⟨⟨pick vals7 12, xp, by constructor <;> decide +kernel, by unfold TailOk; decide +kernel, 7, by and_intros <;> decide +kernel⟩,
   ⟨pick vals7 10, xp, by constructor <;> decide +kernel, by unfold TailOk; decide +kernel, by and_intros <;> decide +kernel⟩,
   ⟨pick vals7 0, xp, by constructor <;> decide +kernel, by unfold TailOk; decide +kernel, by decide +kernel,
       by decide +kernel⟩,
   ⟨pick vals7 16, xp, by constructor <;> decide +kernel, by unfold TailOk; decide +kernel, ⟨99,100⟩, by and_intros <;> decide +kernel⟩,
   ⟨pick vals7 18, xp, by constructor <;> decide +kernel, by unfold TailOk; decide +kernel, ⟨99,100⟩, by and_intros <;> decide +kernel⟩⟩
/-- Hypotheses of `TableLookupsIssue`, `L2LookupIssues` that can be met. -/
theorem test_witness_L2LookupIssues :
    ∃ s : State, ∃ x : CtxId, ∃ d : Reg, ∃ a : Reg, CanLook s x 0x12A d 2 [a, a + 1] ∧ (s.ctx x).committed = false ∧
        (∀ k, s.badWord (slInst .fwd x.slice) 5 k = false) :=
  ⟨st b xp c0, xp, 0, 0, ⟨by constructor <;> decide +kernel, by decide +kernel⟩, by decide +kernel, fun _ => rfl⟩

end Sequencing

namespace Results

def xp : CtxId := ⟨2, 5, 3⟩
def xh : CtxId := ⟨2, 385, 0⟩
def regs : Vector Word 16 := #v[0, 1, 0xFFFFFFFF, 0x80000000, 0x7FFFFFFF, 31, 0x12345678, 5, 0xFF, 3, 0xABCD, 0x80000001,
    0, 17, 0x0A000001, 64]
def c0 : Ctx := {
        running := true, w := regs, k := #v[0x00112233445566778899AABBCCDDEEFF, 5, 7, 2^127], pc := 100, fid := 4,
        frameView := ⟨(List.range 250).map fun k => (k, BitVec.ofNat 8 (k * 37 + 1))⟩,
        scratch := ⟨[(3, 9), (255, 1)]⟩,
        md := ⟨(List.range 64).filterMap fun k =>
          if (BitVec.ofNat 8 (k * 11)) = 0 then none else some (k, BitVec.ofNat 8 (k * 11))⟩,
        rd := ⟨[(0, 1), (5, 6), (63, 7)]⟩, tid := 9, hp := 10}
def st (s : State) (x : CtxId) (c : Ctx) : State := s.setCtx x c
def b : State := { boot := {({} : State).boot with vkeep := true, avs := true, inReset := false} }
def hks : List Ctx := [{c0 with entry := 241}, {c0 with entry := 241, suspended := true},
    {c0 with entry := 241, suspended := true, yielded := true}, {c0 with entry := 241, rd := ⟨[(0,2)]⟩}]
def meterS (_ : CtxId) (m : Nat) (w0 : Word) (s : State) : State := (s.setEntry (slInst .tmg 2) 5 m 0 [w0, 1000, 5000,
    1000, 5000]).updTmg 2 fun t => t
def mS : List State := ([0x200, 0x201, 0x202, 0x203, 0x206, 0x0].flatMap fun w0 => [c0,
    {c0 with w := c0.w.set 0 5, md := c0.md.set 25 1}, {c0 with md := (c0.md.set 20 1).set 21 2}].map fun c => (meterS
    xp 5 w0 (meterS xp 0 w0 (st b xp c)))) ++ [st b xp {c0 with md := {}}]
def vals7 : List State := mS
def tS : List State := ([xp, xh].flatMap fun x => [{c0 with committed := true, tail := 2},
    {c0 with committed := true, tail := 7}, {c0 with committed := true, tail := 8}].map fun c => st b x c).flatMap fun
    s => [s,
        s.updTmg 2 fun t => {t with countQ := List.replicate 512 default}]
def vals9 : List State := tS
def lk : Lookup := {table := 3, rd := 4, nres := 4, words := [7,8,9,10]}
def dd : Desc := default
def sl0 : Slot := ⟨3, 5, false, 4, .open⟩
def cm (l : List Slot) (s : State) : State := s.updPcl 2 fun p => {p with rob := l}
def vals14 : List State := ([c0, {c0 with committed := true, tail := 2}, {c0 with samples := [(3, true)]},
    {c0 with committed := true, tail := 3, samples := [(3, true)]}].flatMap fun c => [st b xp c,
        st b xh {c with entry := 241}]).flatMap fun s => [s, cm [sl0] s, cm [{sl0 with st := .committed dd}] s]
def hS : List State := hks.flatMap fun c => [st b xh c, (st b xh c).updPup 2 fun p => {p with preempt := true},
    (st b xh c).updPup 2 fun p => {p with freeze := true}]
def vals16 : List State := hS
def nan (width : Nat) (s : State) : State := s.setEntry (slInst .pup 2) 1 0x400 0 [BitVec.ofNat 32 (2^12 + 3 * 2^7 + 2^10 + 15 * 2^24 + 2^28 + width * 2^30)]
def vals19 : List State := ([0,1,2] : List Nat).flatMap fun w => [c0, {c0 with c := true, slot := some none}].flatMap
    fun c => [nan w (st b xp c), nan w (st b xh c)]
def vals20 : List State := [c0, {c0 with look := c0.look.set 1 (some {})}, {c0 with restarted := true},
    {c0 with look := c0.look.set 1 (some {}), restarted := true}].flatMap fun c => [st b xp c,
        st b xh {c with entry := 241}, (st b xp c).setReg (slInst .pup 2) R.PUP_MCHK0 0x800000]
/-- Hypotheses of `MetersAndTailRequests`, `MeterColoursAndDebits` that can be met. -/
theorem test_witness_MeterColoursAndDebits :
    (∃ s : State, ∃ x : CtxId, ∃ d : Reg, ∃ a : Reg, CanLook s x 0x12B d 2 [a] ∧ isHk x = false ∧
        (s.ctx x).committed = false ∧ s.badEntry (slInst .tmg x.slice) 5 ((s.ctx x).w[a].toNat % 2 ^ 17) = false ∧
        (s.ent (slInst .tmg x.slice) 5 ((s.ctx x).w[a].toNat % 2 ^ 17) 0).getLsbD 9 = false) ∧
    (∃ s : State, ∃ x : CtxId, ∃ d : Reg, ∃ a : Reg, CanLook s x 0x12B d 2 [a] ∧ isHk x = false ∧
        (s.ctx x).committed = false ∧ s.badEntry (slInst .tmg x.slice) 5 ((s.ctx x).w[a].toNat % 2 ^ 17) = false ∧
        (s.ent (slInst .tmg x.slice) 5 ((s.ctx x).w[a].toNat % 2 ^ 17) 0).getLsbD 9 = true ∧ ∃ col, ∃ d1, ∃ d2,
        meterColour (fld (s.ent (slInst .tmg x.slice) 5 ((s.ctx x).w[a].toNat % 2 ^ 17) 0) 0 2) (if (s.ent (slInst .tmg x.slice) 5 ((s.ctx x).w[a].toNat % 2 ^ 17) 0).getLsbD 2 then (s.ctx x).colour else 0) ((s.countedLen x.slice (s.ctx x).mdLen (fld (s.ent (slInst .tmg x.slice) 5 ((s.ctx x).w[a].toNat % 2 ^ 17) 0) 3 6)) * 1000000) (bucketLevel (fld (s.ent (slInst .tmg x.slice) 5 ((s.ctx x).w[a].toNat % 2 ^ 17) 2) 0 24) (((s.refillMeter x.slice ((s.ctx x).w[a].toNat % 2 ^ 17)).tmg x.slice).mtrC.get ((s.ctx x).w[a].toNat % 2 ^ 17))) (bucketLevel (fld (s.ent (slInst .tmg x.slice) 5 ((s.ctx x).w[a].toNat % 2 ^ 17) 4) 0 24) (((s.refillMeter x.slice ((s.ctx x).w[a].toNat % 2 ^ 17)).tmg x.slice).mtrE.get ((s.ctx x).w[a].toNat % 2 ^ 17))) = (col, d1, d2)) :=
  ⟨⟨pick vals7 0, xp, 0, 5, ⟨by constructor <;> decide +kernel, by decide +kernel⟩, by and_intros <;> decide +kernel⟩,
   ⟨pick vals7 0, xp, 0, 0, ⟨by constructor <;> decide +kernel, by decide +kernel⟩, by decide +kernel, by decide +kernel,
       by decide +kernel, by decide +kernel, 2, false, false, by decide +kernel⟩⟩
/-- Hypotheses of `MetersAndTailRequests`, `TailRequests` that can be met. -/
theorem test_witness_TailRequests :
    (∃ s : State, ∃ x : CtxId, ∃ d : Reg, ∃ a : Reg, (s.ctx x).committed = true ∧ (s.ctx x).tail < 8 ∧
        CanLook s x 0x12C d 0 [a] ∧ (s.tmg x.slice).countQ.length < 512) ∧
    (∃ s : State, ∃ x : CtxId, ∃ d : Reg, ∃ a : Reg, (s.ctx x).committed = true ∧ (s.ctx x).tail < 8 ∧
        CanLook s x 0x12C d 0 [a] ∧ 512 ≤ (s.tmg x.slice).countQ.length) ∧
    (∃ s : State, ∃ x : CtxId, ∃ d : Reg, ∃ a : Reg, (s.ctx x).committed = true ∧ (s.ctx x).tail < 8 ∧
        CanLook s x 0x12D d 0 [a] ∧ isHk x = false) :=
  ⟨⟨pick vals9 0, xp, 0, 0, by decide +kernel, by decide +kernel, ⟨by constructor <;> decide +kernel, by decide +kernel⟩,
      by decide +kernel⟩,
   ⟨pick vals9 1, xp, 0, 0, by decide +kernel, by decide +kernel, ⟨by constructor <;> decide +kernel, by decide +kernel⟩,
       by decide +kernel⟩,
   ⟨pick vals9 0, xp, 0, 0, by decide +kernel, by decide +kernel, ⟨by constructor <;> decide +kernel, by decide +kernel⟩,
       by decide +kernel⟩⟩
/-- Hypotheses of `SearchesAndResults`, `LookupResultsReturn` that can be met. -/
theorem test_witness_LookupResultsReturn :
    ∃ s : State, ∃ x : CtxId, ∃ tag : Fin 4, ∃ l : Lookup, Quiet s ∧ (s.ctx x).look[tag] = some l ∧ Plain l ∧
        s.tableOn x.slice l.table = true ∧ l.words.length ≤ 4 ∧ isHk x = false ∧ (s.ctx x).running = true ∧
        (s.ctx x).committed = false ∧ (s.ctx x).restarted = false ∧
        s.regB (slInst .pup x.slice) R.PUP_MCHK0 23 = false :=
  ⟨st b xp {c0 with look := c0.look.set 1 (some lk)}, xp, 1, lk, by decide +kernel, by decide +kernel,
      by unfold Plain; decide +kernel, by and_intros <;> decide +kernel⟩
/-- Hypotheses of `RdStoresReachTheDescriptor`, `CommitEmitsTheDescriptor` that can be met. -/
theorem test_witness_CommitEmitsTheDescriptor :
    (∃ s : State, ∃ x : CtxId, Straight (s.ctx x) ∧ (s.ctx x).committed = false ∧ (∀ t : Fin 4,
        (s.ctx x).look[t] = none) ∧ ∃ r, isHk x = false ∧ Ready s x 0x184 [] ∧ ((s.ctx x).rd.get 0).toNat ≤ 3 ∧
        HoldsSlot s x r ∧ r.st ≠ .skipped) ∧
    (∃ s : State, ∃ x : CtxId, Straight (s.ctx x) ∧ (s.ctx x).committed = false ∧ (∀ t : Fin 4,
        (s.ctx x).look[t] = none) ∧ ∃ r, isHk x = false ∧ Ready s x 0x186 [] ∧ ((s.ctx x).rd.get 0).toNat ≤ 3 ∧
        HoldsSlot s x r ∧ r.st ≠ .skipped ∧ (s.ctx x).tailReqs = []) ∧
    (∃ s : State, ∃ x : CtxId, Straight (s.ctx x) ∧ (s.ctx x).committed = false ∧ (∀ t : Fin 4,
        (s.ctx x).look[t] = none) ∧ isHk x = true ∧ Ready s x 0x184 []) :=
  ⟨⟨pick vals14 1, xp, by unfold Straight; decide +kernel, by decide +kernel, by decide +kernel, sl0, by and_intros <;> first | decide +kernel | (constructor <;> decide +kernel) | (unfold HoldsSlot; decide +kernel)⟩,
   ⟨pick vals14 1, xp, by unfold Straight; decide +kernel, by decide +kernel, by decide +kernel, sl0, by and_intros <;> first | decide +kernel | (constructor <;> decide +kernel) | (unfold HoldsSlot; decide +kernel)⟩,
   ⟨pick vals14 3, xh, by and_intros <;> first | decide +kernel | (constructor <;> decide +kernel) | (unfold Straight; decide +kernel)⟩⟩
/-- A tail that ends with `n` counter requests while the queue holds `k`, END having waited `e` cycles. -/
def ending (k n e : Nat) : State :=
  (cm [{ sl0 with st := .committed dd }] (st b xp { c0 with committed := true, tailReqs := List.replicate n ⟨5, 3, 64, none⟩, endWait := e
    })).updTmg 2 fun t => { t with countQ := List.replicate k default }
structure EndsWith (s : State) (n e : Nat) : Prop where
  quiet : Quiet s ∧ s.canIssue xp = true ∧ isHk xp = false
  word : s.badWord (slInst .pup 2) 0 (s.ctx xp).pc.toNat = false ∧ s.badEntry (slInst .pup 2) 1 0x185 = false
  straight : (s.ctx xp).slot = none ∧ (s.ctx xp).shadow = none ∧ (s.ctx xp).loops = []
  slot : ((s.pcl 2).rob.find? fun q => q.fid = (s.ctx xp).fid) = some { sl0 with st := .committed dd }
  tail : (s.ctx xp).committed = true ∧ (s.ctx xp).tailReqs.length = n ∧ (s.ctx xp).endWait = e
/-- Hypotheses of `DescriptorsBecomeReadyAndAreReleased`, `EndAndDropFreeTheContext` that can be met. -/
theorem test_witness_EndAndDropFreeTheContext :
    (∃ s : State, ∃ x : CtxId, Ready s x 0x185 [] ∧ Straight (s.ctx x) ∧ isHk x = true ∧ (s.ctx x).tailReqs = []) ∧
    (∃ s : State, EndsWith s 2 0 ∧ (s.tmg 2).countQ.length + (s.ctx xp).tailReqs.length ≤ 512) ∧
    (∃ s : State, EndsWith s 1 15 ∧ 512 ≤ (s.tmg 2).countQ.length) ∧
    (∃ s : State, EndsWith s 1 16 ∧ 512 ≤ (s.tmg 2).countQ.length) ∧
    (∃ s : State, ∃ x : CtxId, ∃ r : Slot, Straight (s.ctx x) ∧ isHk x = false ∧ HoldsSlot s x r ∧
        (s.ctx x).tailReqs = [] ∧ ∃ d, Ready s x 0x185 [] ∧ (s.ctx x).committed = true ∧ r.st = .committed d) ∧
    (∃ s : State, ∃ x : CtxId, ∃ r : Slot, Straight (s.ctx x) ∧ isHk x = false ∧ HoldsSlot s x r ∧
        (s.ctx x).tailReqs = [] ∧ Ready s x 0x185 [] ∧ (s.ctx x).committed = false) ∧
    (∃ s : State, ∃ x : CtxId, ∃ r : Slot, Straight (s.ctx x) ∧ isHk x = false ∧ HoldsSlot s x r ∧
        (s.ctx x).tailReqs = [] ∧ Ready s x 0x187 [] ∧ (s.ctx x).committed = false) :=
  ⟨⟨st b xh { c0 with entry := 241 }, xh, by constructor <;> decide +kernel, by unfold Straight; decide +kernel,
      by decide +kernel, by decide +kernel⟩,
   ⟨ending 510 2 0, by constructor <;> decide +kernel, by decide +kernel⟩,
   ⟨ending 512 1 15, by constructor <;> decide +kernel, by decide +kernel⟩,
   ⟨ending 512 1 16, by constructor <;> decide +kernel, by decide +kernel⟩,
   ⟨pick vals14 8, xp, {sl0 with st := .committed dd}, by unfold Straight; decide +kernel, by decide +kernel,
      by unfold HoldsSlot; decide +kernel, by decide +kernel, dd, by constructor <;> decide +kernel, by decide +kernel,
      by decide +kernel⟩,
   ⟨pick vals14 1, xp, sl0, by and_intros <;> first | decide +kernel | (constructor <;> decide +kernel) | (unfold Straight; decide +kernel) | (unfold HoldsSlot; decide +kernel)⟩,
   ⟨pick vals14 1, xp, sl0, by and_intros <;> first | decide +kernel | (constructor <;> decide +kernel) | (unfold Straight; decide +kernel) | (unfold HoldsSlot; decide +kernel)⟩⟩
/-- Hypotheses of `HousekeepingSuspendsAndResumes`, `SafeYieldResume` that can be met. -/
theorem test_witness_SafeYieldResume :
    (∃ s : State, ∃ sl : Slice, ∃ k : Fin 4, Ready s (⟨sl, Fin.ofNat 388 (384 + k.val), 0⟩) 0x1E0 [] ∧
        Straight (s.ctx (⟨sl, Fin.ofNat 388 (384 + k.val), 0⟩)) ∧ (s.ctx (⟨sl, Fin.ofNat 388 (384 + k.val),
        0⟩)).committed = false) ∧
    (∃ s : State, ∃ sl : Slice, ∃ k : Fin 4, Ready s (⟨sl, Fin.ofNat 388 (384 + k.val), 0⟩) 0x1E1 [] ∧
        Straight (s.ctx (⟨sl, Fin.ofNat 388 (384 + k.val), 0⟩)) ∧ (s.ctx (⟨sl, Fin.ofNat 388 (384 + k.val),
        0⟩)).committed = false) ∧
    (∃ s : State, ∃ sl : Slice, ∃ k : Fin 4, Quiet s ∧ (s.ctx (⟨sl, Fin.ofNat 388 (384 + k.val),
        0⟩)).running = true ∧ (s.ctx (⟨sl, Fin.ofNat 388 (384 + k.val), 0⟩)).suspended = true ∧ s.awake sl = true ∧
        ((s.pup sl).preempt || (s.pup sl).freeze ||
          !(s.reg (slInst .pup sl) R.PUP_CTRL).getLsbD (8 + ((s.ctx ⟨sl, Fin.ofNat 388 (384 + k.val), 0⟩).entry - 240)) ||
          s.withheld sl ((s.ctx ⟨sl, Fin.ofNat 388 (384 + k.val), 0⟩).entry - 240)) = false ∧
        (s.ctx ⟨sl, Fin.ofNat 388 (384 + k.val), 0⟩).yielded = false) :=
  ⟨⟨pick vals16 0, 2, 1, by constructor <;> decide +kernel, by unfold Straight; decide +kernel, by decide +kernel⟩,
   ⟨pick vals16 0, 2, 1, by constructor <;> decide +kernel, by unfold Straight; decide +kernel, by decide +kernel⟩,
   ⟨(pick vals16 3).setReg (slInst .pup 2) R.PUP_CTRL 0xFFFFFF, 2, 1, by and_intros <;> decide +kernel⟩⟩
/-- Hypotheses of `CustomerCodeAndExceptions`, `CustomerAddAtWidth` that can be met. -/
theorem test_witness_CustomerAddAtWidth :
    ∃ s : State, ∃ x : CtxId, ∃ mw : Word, ∃ width : Fin 3, 0x400 ≤ fld mw 20 12 ∧
        nanoOf (s.entry (slInst .pup x.slice) 1 (fld mw 20 12)) =
            { aluop := 1, flagmask := 15, dstsel := 1, width := width.val, ctxok := 3, dslotok := true } ∧ Ready s x
            (fld mw 20 12) [(Fin.ofNat 16 (fld mw 16 4)),
        (Fin.ofNat 16 (fld mw 12 4)), (Fin.ofNat 16 (fld mw 8 4))] ∧ (s.ctx x).committed = false :=
  ⟨pick vals19 0, xp, 0x40053600, 0, by and_intros <;> first | decide +kernel | (constructor <;> decide +kernel)⟩
/-- Hypotheses of `CustomerCodeAndExceptions`, `MicrowordsNameTheirInstruction` that can be met. -/
theorem test_witness_MicrowordsNameTheirInstruction :
    ∃ mw : Word, fld mw 20 12 < 0x400 ∧ baseAssigned (fld mw 20 12) = false := ⟨0x3FF00000, by decide +kernel, by decide +kernel⟩
/-- R93, with the worked example of 04_zenrex_instructions.md: ADD w3, w1, w2 is 0x01131200. -/
theorem test_microword_add :
    (0x011#12 ++ field 3 ++ field 1 ++ field 2 ++ 0#8 : Word) = 0x01131200 ∧
      (next (exec (.customerNanoword xp 0x01131200) (st b xp c0))).ctx xp = (next (exec (.add xp 3 1 2) (st b xp c0))).ctx xp := by
  decide +kernel
/-- Hypotheses of `CustomerCodeAndExceptions`, `ExceptionsEndTheRun` that can be met. -/
theorem test_witness_ExceptionsEndTheRun :
    (∃ s : State, ∃ x : CtxId, Quiet s ∧ (s.ctx x).running = true ∧ (s.ctx x).committed = false ∧
        isHk x = false ∧ (s.ctx x).restarted = false ∧
        (1024 ≤ (s.ctx x).cycles ∨ ∃ tag : Fin 4, (s.ctx x).look[tag].isSome = true)) ∧
    (∃ s : State, ∃ x : CtxId, Quiet s ∧ (s.ctx x).running = true ∧ (s.ctx x).committed = false ∧
        ∃ tag : Fin 4, isHk x = false ∧ (s.ctx x).restarted = false ∧ (s.ctx x).look[tag].isSome = true) ∧
    (∃ s : State, ∃ x : CtxId, Quiet s ∧ (s.ctx x).running = true ∧ (s.ctx x).committed = false ∧ ∃ mw : Word,
        isHk x = false ∧ (s.ctx x).restarted = false ∧
        Ready s x (fld mw 20 12) [Fin.ofNat 16 (fld mw 12 4), Fin.ofNat 16 (fld mw 8 4)] ∧ fld mw 20 12 < 0x400 ∧
        baseAssigned (fld mw 20 12) = false) ∧
    (∃ s : State, ∃ x : CtxId, Quiet s ∧ (s.ctx x).running = true ∧ (s.ctx x).committed = false ∧
        isHk x = true ∧ (s.ctx x).suspended = false ∧
        (4096 ≤ (s.ctx x).cycles ∨ ∃ tag : Fin 4, (s.ctx x).look[tag].isSome = true) ∧
        (s.pup x.slice).abandons.get ((s.ctx x).entry - 240) < 2) ∧
    (∃ s : State, ∃ x : CtxId, Quiet s ∧ (s.ctx x).running = true ∧ (s.ctx x).committed = false ∧
        isHk x = true ∧ (s.ctx x).suspended = false ∧ 4096 ≤ (s.ctx x).cycles ∧
        (s.pup x.slice).abandons.get ((s.ctx x).entry - 240) = 2 ∧ 240 ≤ (s.ctx x).entry ∧ (s.ctx x).entry < 256 ∧
        s.boot.inReset = false ∧ faultClass s (12 + x.slice.val) ≤ 1 ∧ (s.srcCfg (12 + x.slice.val)).getLsbD 8 = false) :=
  ⟨⟨st b xp { c0 with cycles := 1024 }, xp, by and_intros <;> decide +kernel⟩,
   ⟨pick vals20 3, xp, by decide +kernel, by decide +kernel, by decide +kernel, 1, by and_intros <;> decide +kernel⟩,
   ⟨pick vals20 0, xp, by decide +kernel, by decide +kernel, by decide +kernel, 0x3FF00000, by and_intros <;> first | decide +kernel | (constructor <;> decide +kernel)⟩,
   ⟨st b xh { c0 with entry := 241, cycles := 4096 }, xh, by and_intros <;> decide +kernel⟩,
   ⟨((st b xh { c0 with entry := 241, cycles := 4096 }).updPup 2 fun p => { p with abandons := p.abandons.set 1 2 }).setEnt flt4 4 14 0 1,
       xh, by and_intros <;> decide +kernel⟩⟩

end Results

namespace Ports

def mkS (st : Nat) (cfg : Word) (lcfg : Nat) (more : State → State := id) : State :=
  more ((((up {}).setLane 8 R.PRT_PSTAT 0 4 st).updPort 8 fun x => {x with cfg := cfg}).setLane 8 R.PRT_LCFG 0 2 lcfg)
def base : List State := (List.range 9).flatMap fun st => [mkS st 0x3DB 1, mkS st 0x0DB 2, mkS st 0x2DB 1,
    mkS st 0x3DB 0,  mkS st 0x441 1]
def gFrames (s : State) : State := {s with
        frames := (s.frames.set 3 {bytes := List.replicate 40 1, maxfrm := 100, final := true, inport := 8}).set 4
          {bytes := List.replicate 60 2, maxfrm := 1518, inport := 8},
        nextFrame := 5}
def pll (s : State) : State := s.setMac 8 R.PRT_MSTAT 0 2 3
def shedS : State := {(mkS 7 0x3DB 1).updPort 8 fun x => { x with shedLF := true, shedLanes := some 1 } with
        gov := { toShed := [(8, 2)] }}
def shedS2 : State := (mkS 7 0x3DB 1).updPort 8 fun x => { x with shedLF := true, shedLanes := some 3 }
def fec (s : State) : State := (s.setMac 8 R.PRT_FECDEG 0 21 (2^20 + 3)).updPort 8 fun x => {x with fecU := 4, fecN := 1024}
def rxS (n : Nat) (p : PortSt → PortSt) : State := (gFrames (mkS 7 0x3DB 1)).updPort 8 fun x => p { x with absorb := [n] }
def txf : TxFrame := { copy := { cid := 2, fid := 4, a := 2, b := 1, s := 0, port := 8, tid := 5 }, bytes := [1,2,3] }
def states : List State := base ++ base.map pll ++ [shedS, shedS2, fec (mkS 7 0x3DB 1), mkS 8 0 0, rxS 3 id, rxS 4 id,
    rxS 3 fun x => {x with rx := some 3}, rxS 4 fun x => {x with rx := some 4},
  (mkS 1 0x3DB 1 fun s => s.setRegB knl4 R.KNL_BOOT 5 true), (mkS 0 0x3DB 1 fun s => s.setRegB knl4 R.KNL_BOOT 5 true),
  ((mkS 7 0x441 1).setLane 8 R.PRT_PSTAT 8 1 1), (rxS 3 fun x => {x with absorb := [], released := [3]}),
      (rxS 3 fun x => {x with absorb := [], released := [3,4]}).setRegF (slInst .swc 0) R.SWC_INGRSV 0 19 0,
  (mkS 7 0x441 1).updPort 8 fun x => { x with mac := [txf] },
      ((mkS 7 0x441 1).setLane 8 R.PRT_PSTAT 4 1 1).updPort 8 fun x => { x with mac := [txf] },
      ((mkS 7 0x441 1).updPort 8 fun x => { x with tx := some txf }).updSwc 0 fun x =>
          {x with gused := x.gused.set 8 5, stored := x.stored.set 4 {cells := 3, refs := 2}},
  (mkS 7 0x441 1).updMacro 1 fun x => {x with absBytes := 2097000, windowBytes := 99999}]
def vals11 : List State := states
/-- Hypotheses of `LinksComeUpAndGoDown`, `LinksComeUp` that can be met. -/
theorem test_witness_LinksComeUp :
    (∃ s : State, Quiet s ∧ ∃ i : Instr, ∃ p : Port, ∃ a : Nat, ∃ b : Nat, comesUp s i = some (p, a, b)) ∧
    (∃ s : State, Quiet s ∧ ∃ m : Macro, ∃ b : Bool, ∃ p : Port, p.val / 8 = m.val ∧
        ((s.portState p.val ≠ 0 ∨ (s.port p.val).waitCal = true)) ∧ decide (2 ≤ fld (s.port p.val).cfg 3 3) = b) ∧
    (∃ s : State, Quiet s ∧ ∃ p : Port, s.portState p.val = 6 ∧ s.portQueues p.val = [] ∧
        s.sleep (portSlice p.val) = 3) :=
  ⟨⟨pick vals11 0, by decide +kernel, .anComplete 8, 8, 2, 3, by decide +kernel⟩,
   ⟨pick vals11 5, by decide +kernel, 1, true, 8, by and_intros <;> decide +kernel⟩,
   ⟨(mkS 6 0x3DB 1).setRegF (slInst .egv 0) R.EGV_SSTAT 8 2 3, by decide +kernel, 8, by and_intros <;> decide +kernel⟩⟩
/-- Hypotheses of `LinksComeUpAndGoDown`, `LinksGoDown` that can be met. -/
theorem test_witness_LinksGoDown :
    (∃ s : State, ∃ p : Port, IdlePort s p.val ∧ ∃ lane : Port, s.laneOwner lane.val = some p.val ∧ s.portState p.val = 7) ∧
    (∃ s : State, ∃ p : Port, IdlePort s p.val ∧ ∃ lane : Port, s.laneOwner lane.val = some p.val ∧
        2 ≤ s.portState p.val ∧ s.portState p.val ≤ 6) ∧
    (∃ s : State, ∃ p : Port, IdlePort s p.val ∧ ∃ lane : Port, s.laneOwner lane.val = some p.val ∧
        (s.portState p.val < 2 ∨ 7 < s.portState p.val)) ∧
    (∃ s : State, ∃ p : Port, IdlePort s p.val ∧ ∃ m : Macro, ∃ b : Bool, p.val / 8 = m.val ∧
        decide (2 ≤ fld (s.port p.val).cfg 3 3) = b ∧ ((∀ q : Port,
        q.val / 8 = m.val → q ≠ p → decide (2 ≤ fld (s.port q.val).cfg 3 3) ≠ b)) ∧ s.portState p.val = 7) ∧
    (∃ s : State, ∃ p : Port, IdlePort s p.val ∧ s.portState p.val = 7 ∧ fld (s.port p.val).cfg 6 2 ≠ 0 ∧
        2 ^ (10 + fld (s.macReg p.val R.PRT_FECDEG) 16 4) ≤ (s.port p.val).fecN ∧
        fld (s.macReg p.val R.PRT_FECDEG) 0 16 ≠ 0 ∧ fld (s.macReg p.val R.PRT_FECDEG) 0 16 ≤ (s.port p.val).fecU ∧
        (s.macReg p.val R.PRT_FECDEG).getLsbD 20 = true) ∧
    (∃ s : State, ∃ p : Port, IdlePort s p.val ∧ (s.port p.val).shedLF = true ∧
        ((s.port p.val).shedLanes).getD (cfgLanes (s.port p.val).cfg) = 1 ∧ s.portState p.val = 7 ∧ ∃ k,
        s.gov.toShed = [(p.val, k)]) :=
  ⟨⟨pick vals11 35, 8, by constructor <;> decide +kernel, 8, by decide +kernel, by decide +kernel⟩,
   ⟨pick vals11 10, 8, by constructor <;> decide +kernel, 8, by and_intros <;> decide +kernel⟩,
   ⟨pick vals11 5, 8, by constructor <;> decide +kernel, 8, by decide +kernel, by decide +kernel⟩,
   ⟨pick vals11 35, 8, by constructor <;> decide +kernel, 1, true, by and_intros <;> decide +kernel⟩,
   ⟨pick vals11 92, 8, by constructor <;> decide +kernel, by and_intros <;> decide +kernel⟩,
   ⟨pick vals11 90, 8, by constructor <;> decide +kernel, by decide +kernel, by decide +kernel, by decide +kernel, 2,
       by decide +kernel⟩⟩
/-- Hypotheses of `PortControlAndLinkEvents`, `PortsAreEnabled` that can be met. -/
theorem test_witness_PortsAreEnabled :
    (∃ s : State, ∃ p : Port, ∃ v : Word, CanConfigure s p.val ∧ v.getLsbD 0 = true ∧
        (s.laneReg p.val R.PRT_PCFG).getLsbD 0 = false ∧ MayEnable s p.val (pcfgAfter s p.val v) ∧
        s.regB knl4 R.KNL_BOOT 5 = true) ∧
    (∃ s : State, ∃ p : Port, ∃ v : Word, CanConfigure s p.val ∧ v.getLsbD 0 = true ∧
        (s.laneReg p.val R.PRT_PCFG).getLsbD 0 = false ∧ MayEnable s p.val (pcfgAfter s p.val v) ∧
        s.regB knl4 R.KNL_BOOT 5 = false) ∧
    (∃ s : State, ∃ p : Port, ∃ v : Word, CanConfigure s p.val ∧ v.getLsbD 0 = true ∧
        (s.laneReg p.val R.PRT_PCFG).getLsbD 0 = false ∧ ¬ MayEnable s p.val (pcfgAfter s p.val v)) ∧
    (∃ s : State, ∃ p : Port, ∃ v : Word, CanConfigure s p.val ∧ v.getLsbD 0 = false ∧ IdlePort s p.val ∧
        s.regB knl4 R.KNL_BOOT (12 + (portSlice p.val).val) = false) :=
  ⟨⟨pick vals11 98, 8, 0x17C803D9, by constructor <;> first | decide +kernel | (constructor <;> decide +kernel),
      by decide +kernel, by decide +kernel, by unfold MayEnable; decide +kernel, by decide +kernel⟩,
   ⟨pick vals11 0, 8, 0x17C803D9, by constructor <;> first | decide +kernel | (constructor <;> decide +kernel),
       by decide +kernel, by decide +kernel, by unfold MayEnable; decide +kernel, by decide +kernel⟩,
   ⟨pick vals11 0, 8, 0xFFFFFFFF, by constructor <;> first | decide +kernel | (constructor <;> decide +kernel),
       by decide +kernel, by decide +kernel, by unfold MayEnable; decide +kernel⟩,
   ⟨pick vals11 0, 8, 0x17C803D8, by constructor <;> first | decide +kernel | (constructor <;> decide +kernel),
       by decide +kernel, by constructor <;> decide +kernel, by decide +kernel⟩⟩
/-- Hypotheses of `PortControlAndLinkEvents`, `LinkEventsChangeTheirFields` that can be met. -/
theorem test_witness_LinkEventsChangeTheirFields :
    (∃ s : State, Quiet s) ∧
    (∃ s : State, ∃ p : Port, Quiet s ∧ s.portState p.val = 7 ∧ fld (s.port p.val).cfg 6 2 ≠ 0 ∧
        (s.port p.val).rx = none ∧ (s.port p.val).fecN < 2 ^ (10 + fld (s.macReg p.val R.PRT_FECDEG) 16 4)) ∧
    (∃ s : State, ∃ p : Port, Quiet s ∧ s.portState p.val = 7 ∧ fld (s.port p.val).cfg 6 2 ≠ 0 ∧
        2 ^ (10 + fld (s.macReg p.val R.PRT_FECDEG) 16 4) ≤ (s.port p.val).fecN ∧
        (fld (s.macReg p.val R.PRT_FECDEG) 0 16 = 0 ∨ (s.port p.val).fecU < fld (s.macReg p.val R.PRT_FECDEG) 0 16)) ∧
    (∃ s : State, ∃ m : Macro, Quiet s ∧ ∀ k, k < 8 → 4 * (s.macro (m.val / 8 * 8 + k)).absBytes < 2097152) ∧
    (∃ s : State, ∃ p : Port, Quiet s ∧ (s.portState p.val = 7 ∧ (s.port p.val).cfg.getLsbD 10 = true ∧
        fld (s.port p.val).cfg 3 3 ≤ 1) ∧ ¬ ((s.laneReg p.val R.PRT_PSTAT).getLsbD 4 = true ∨
        (s.laneReg p.val R.PRT_PSTAT).getLsbD 11 = true ∨ (s.port p.val).shedLF = true) ∧ s.portQueues p.val = [] ∧ (s.port p.val).mac = [] ∧ (s.port p.val).tx = none ∧
        s.egressWaiting p.val = 0) ∧
    (∃ s : State, ∃ p : Port, Quiet s ∧ (s.laneReg p.val R.PRT_PSTAT).getLsbD 11 = true) ∧
    (∃ s : State, ∃ p : Port, Quiet s ∧ (s.portState p.val = 7 ∧ (s.port p.val).cfg.getLsbD 10 = true ∧
        fld (s.port p.val).cfg 3 3 ≤ 1) ∧ IdlePort s p.val) ∧
    (∃ s : State, ∃ p : Port, Quiet s ∧ (s.laneReg p.val R.PRT_PSTAT).getLsbD 8 = true ∧
        s.sleep (portSlice p.val) ≠ 3) ∧
    (∃ s : State, ∃ p : Port, Quiet s ∧ (s.port p.val).shedLF = true ∧ ∃ n, 2 ≤ n ∧
        (s.port p.val).shedLanes.getD (cfgLanes (s.port p.val).cfg) = n) :=
  ⟨⟨pick vals11 0, by decide +kernel⟩,
   ⟨pick vals11 35, 8, by and_intros <;> decide +kernel⟩,
   ⟨(pick vals11 35).updPort 8 fun x => { x with fecN := 2 ^ 25 }, 8, by and_intros <;> decide +kernel⟩,
   ⟨pick vals11 35, 1, by decide +kernel, by decide +kernel⟩,
   ⟨pick vals11 39, 8, by and_intros <;> decide +kernel⟩,
   ⟨(pick vals11 39).setLane 8 R.PRT_PSTAT 11 1 1, 8, by and_intros <;> decide +kernel⟩,
   ⟨pick vals11 39, 8, by decide +kernel, by decide +kernel, by constructor <;> decide +kernel⟩,
   ⟨pick vals11 100, 8, by and_intros <;> decide +kernel⟩,
   ⟨pick vals11 91, 8, by decide +kernel, by decide +kernel, 3, by decide +kernel, by decide +kernel⟩⟩
/-- Hypotheses of `FramesArriveAndAreReleased`, `FramesAreReceived` that can be met. -/
theorem test_witness_FramesAreReceived :
    (∃ s : State, ∃ p : Port, Quiet s ∧ s.portState p.val = 7 ∧
        (s.laneReg p.val R.PRT_PSTAT).getLsbD 4 = false ∧ (s.port p.val).rxSkip = false ∧ (s.port p.val).released = [] ∧
        (s.port p.val).rx = none ∧ s.inBlockReset (prtI p.val) = false ∧ HasRoom s p.val) ∧
    (∃ s : State, ∃ p : Port, Quiet s ∧ s.portState p.val = 7 ∧
        (s.laneReg p.val R.PRT_PSTAT).getLsbD 4 = false ∧ (s.port p.val).rxSkip = false ∧ (s.port p.val).released = [] ∧
        (s.port p.val).rx = none ∧ s.inBlockReset (prtI p.val) = false ∧ ¬ HasRoom s p.val) ∧
    (∃ s : State, ∃ p : Port, Quiet s ∧ s.portState p.val = 7 ∧
        (s.laneReg p.val R.PRT_PSTAT).getLsbD 4 = false ∧ (s.port p.val).rxSkip = false ∧ (s.port p.val).released = [] ∧
        ∃ f, (s.port p.val).rx = some f ∧ f ∈ (s.port p.val).absorb) ∧
    (∃ s : State, ∃ p : Port, ∃ bytes : List Byte, Quiet s ∧ s.portState p.val = 7 ∧
        (s.laneReg p.val R.PRT_PSTAT).getLsbD 4 = false ∧ (s.port p.val).rxSkip = false ∧ (s.port p.val).released = [] ∧
        ∃ f, (s.port p.val).rx = some f ∧ f ∈ (s.port p.val).absorb ∧ Whole (s.frame f) ((s.frame f).bytes ++ bytes) ∧
        (s.frame f).poison = false) ∧
    (∃ s : State, ∃ p : Port, ∃ bytes : List Byte, Quiet s ∧ s.portState p.val = 7 ∧
        (s.laneReg p.val R.PRT_PSTAT).getLsbD 4 = false ∧ (s.port p.val).rxSkip = false ∧ (s.port p.val).released = [] ∧
        ∃ f, (s.port p.val).rx = some f ∧ f ∈ (s.port p.val).absorb ∧ ¬ Whole (s.frame f) ((s.frame f).bytes ++ bytes)) :=
  ⟨⟨pick vals11 35, 8, by and_intros <;> first | decide +kernel | (unfold HasRoom; decide +kernel)⟩,
   ⟨pick vals11 106, 8, by and_intros <;> first | decide +kernel | (unfold HasRoom; decide +kernel)⟩,
   ⟨pick vals11 96, 8, by decide +kernel, by decide +kernel, by decide +kernel, by decide +kernel, by decide +kernel, 3,
       by decide +kernel, by decide +kernel⟩,
   ⟨pick vals11 96, 8, List.replicate 20 9 ++ fcsOf (List.replicate 40 1 ++ List.replicate 20 9), by decide +kernel,
       by decide +kernel, by decide +kernel, by decide +kernel, by decide +kernel, 3, by and_intros <;> first | decide +kernel | (unfold Whole; decide +kernel)⟩,
   ⟨pick vals11 96, 8, [], by decide +kernel, by decide +kernel, by decide +kernel, by decide +kernel, by decide +kernel,
       3, by decide +kernel, by decide +kernel, by unfold Whole; decide +kernel⟩⟩
/-- Hypotheses of `FramesArriveAndAreReleased`, `FramesAreReleasedAndSplit` that can be met. -/
theorem test_witness_FramesAreReleasedAndSplit :
    (∃ s : State, ∃ p : Port, ∃ f : Nat, ∃ r : List Nat, Quiet s ∧ s.sleep (portSlice p.val) = 0 ∧
        s.inBlockReset (prtI p.val) = false ∧ s.inBlockReset (slInst .swc (portSlice p.val)) = false ∧
        (s.port p.val).absorb = f :: r ∧ (s.frame f).final = true) ∧
    (∃ s : State, ∃ p : Port, ∃ f : Nat, ∃ r : List Nat, Quiet s ∧ s.sleep (portSlice p.val) = 0 ∧
        s.inBlockReset (prtI p.val) = false ∧ s.inBlockReset (slInst .swc (portSlice p.val)) = false ∧
        (s.port p.val).absorb = f :: r ∧ (s.frame f).final = false ∧
        ((s.ent (slInst .swc (portSlice p.val)) 7 (p.val % 64) 0).getLsbD 0 = false ∨ (s.frame f).bytes.length < 256)) ∧
    (∃ s : State, ∃ p : Port, ∃ f : Nat, ∃ r : List Nat, Quiet s ∧ s.sleep (portSlice p.val) = 0 ∧
        s.inBlockReset (prtI p.val) = false ∧ s.inBlockReset (slInst .swc (portSlice p.val)) = false ∧
        (s.port p.val).released = f :: r ∧ (s.frame f).final = true ∧
        (∀ q : Port, q.val / 8 = p.val / 8 → ∀ g, (s.port q.val).released.head? = some g →
          s.regF (slInst .swc (portSlice p.val)) R.SWC_INGUSE 0 19 + ((s.frame g).maxfrm + 255) / 256 ≤
            s.regF (slInst .swc (portSlice p.val)) R.SWC_INGRSV 0 19) ∧
        (s.pcl (portSlice p.val)).waiting.length + (s.pcl (portSlice p.val)).rob.length < 4096 ∧
        (s.pcl (portSlice p.val)).waiting.length < s.freeContexts (portSlice p.val)) ∧
    (∃ s : State, ∃ p : Port, ∃ f : Nat, ∃ r : List Nat, Quiet s ∧ s.sleep (portSlice p.val) = 0 ∧
        s.inBlockReset (prtI p.val) = false ∧ s.inBlockReset (slInst .swc (portSlice p.val)) = false ∧
        (s.port p.val).released = f :: r ∧ (s.frame f).final = true ∧
        s.regF (slInst .swc (portSlice p.val)) R.SWC_INGRSV 0 19 < s.regF (slInst .swc (portSlice p.val)) R.SWC_INGUSE 0 19 + (((s.frame f).maxfrm + 255) / 256)) :=
  ⟨⟨pick vals11 94, 8, 3, [], by and_intros <;> decide +kernel⟩,
   ⟨pick vals11 95, 8, 4, [], by and_intros <;> decide +kernel⟩,
   ⟨pick vals11 101, 8, 3, [], by and_intros <;> decide +kernel⟩,
   ⟨pick vals11 102, 8, 3, [4], by and_intros <;> decide +kernel⟩⟩
/-- Hypotheses of `FramesAreTransmitted` that can be met. -/
theorem test_witness_FramesAreTransmitted :
    (∃ s : State, ∃ p : Port, Quiet s ∧ ∃ x : TxFrame, ∃ r : List TxFrame, (s.port p.val).mac = x :: r ∧
        x.copy.gone = false ∧ s.portState p.val = 7 ∧ (s.laneReg p.val R.PRT_PSTAT).getLsbD 11 = false ∧
        (s.laneReg p.val R.PRT_PSTAT).getLsbD 4 = false ∧ (s.port p.val).tx = none ∧ (s.port p.val).shedLF = false ∧
        s.ptpMessage p.val x.bytes = none ∧ s.sleep (portSlice p.val) = 0 ∧
        s.inBlockReset (prtI p.val) = false) ∧
    (∃ s : State, ∃ p : Port, Quiet s ∧ ∃ x : TxFrame, ∃ r : List TxFrame, (s.port p.val).mac = x :: r ∧
        x.copy.gone = false ∧ s.portState p.val = 7 ∧ (s.laneReg p.val R.PRT_PSTAT).getLsbD 11 = false ∧
        (s.laneReg p.val R.PRT_PSTAT).getLsbD 4 = true) ∧
    (∃ s : State, ∃ p : Port, Quiet s ∧ ∃ x : TxFrame, (s.port p.val).tx = some x ∧ x.final = true ∧
        x.cut = false ∧ x.copy.gone = false ∧ x.copy.deep = none ∧ s.cellsHere x.copy.fid (portSlice p.val) = true) :=
  ⟨⟨pick vals11 103, 8, by decide +kernel, txf, [], by and_intros <;> decide +kernel⟩,
   ⟨pick vals11 104, 8, by decide +kernel, txf, [], by and_intros <;> decide +kernel⟩,
   ⟨pick vals11 105, 8, by decide +kernel, _, rfl, by and_intros <;> decide +kernel⟩⟩

end Ports

namespace Pups

def rdy : Desc := { fid := 4, rd := [1,2] }
def com : Desc := { fid := 3, rd := [1,2] }
def rs : Restart := ⟨4, 99, true, false, 3, 5, false⟩
def rsMet : Restart := { rs with fid := 3, metError := true }
def slots : List Slot := [⟨8, 0, false, 3, .open⟩, ⟨8, 0, false, 3, .committed com⟩, ⟨8, 1, false, 4, .ready rdy⟩, ⟨9, 1,
    false, 4, .ready rdy⟩]
def vals12 : List Slot := slots
def fr (s : State) : State := {s with
        frames := (s.frames.set 3
          {bytes := List.replicate 300 1, maxfrm := 1518, final := true, inport := 72, ingCells := 2}).set 4
          {bytes := List.replicate 60 2, maxfrm := 1518, inport := 72},
        nextFrame := 5}
def asg (run : Bool) (ew : Word) (s : State) : State :=
  let s := (fr s).setEnt (slInst .pcl 1) 2 8 0 3
  let s := ((s.setEnt (slInst .pup 1) 2 3 0 ew).setEnt (slInst .pup 1) 3 3 0 ew).setRegB (slInst .pup 1) R.PUP_CTRL 0 run
  s.updPcl 1 fun p => { p with waiting := [3] }
def ss : List State := [asg true 0x00FFFFFF {}, asg true 0x0000FFFF ({} : State), asg false 0xFFFFFF {}, asg true 0 {},
  ((asg true 0x00FF5FFF {}).updPup 1 fun p => {p with rr := 4}).setRegB (slInst .pup 1) R.PUP_CTRL 1 true,
  (asg true 0x00FF5FFF {}).updPup 1 fun p => {p with restarts := [rs], rr := 4},
  (asg true 0x00FF5FFF {}).updPup 1 fun p => {p with restarts := [rs, rs], rr := 383},
  (asg true 0x00FF5FFF {}).updPup 1 fun p => {p with restarts := [rsMet], repair := some (true, 9)},
  (asg true 0x00FF5FFF {}).updPup 1 fun p => {p with restarts := [rsMet, rs], repair := some (false, 9)}]
def st2 : List State := [({} : State).updPup 1 fun p => {p with repair := some (true, 7)},
    ({} : State).updPup 1 fun p => {p with repair := some (false, 7)}, {},
        {({} : State).updPup 1 fun p => {p with repair := some (false, 7)} with
                bad := (({} : Tbl Bool).set (winKey (slInst .pup 1) 0 7) true).set (winKey (slInst .pup 2) 0 7) true,
                win := ({} : Tbl Word).set (winKey (slInst .pup 3) 0 7) 99},
  {({} : State) with bad := (({} : Tbl Bool).set (winKey (slInst .pup 1) 1 56) true)}]
def hk (f : Ctx → Ctx) : State := ({} : State).updCtx ⟨1, 385, 0⟩ fun c => f
    {c with running := true, suspended := true, entry := 241}
def st3 : List State := [hk id, hk fun c => {c with yielded := true}, (hk id).updPup 1 fun p => {p with preempt := true}] ++
    [hk id, hk fun c => {c with yielded := true}].map fun s =>
      (s.setReg (slInst .pup 1) R.PUP_CTRL 0xFFFF00).updEgv 1 fun e => { e with bucket := 10 ^ 15 }
def rb (o : Bool) (l : List Slot) : State := (({} : State).setEnt (slInst .pcl 1) 2 8 0 (if o then 256 else 0)).updPcl 1 fun p => {p with rob := l}
def st4 : List State := [rb true [slots[2]!], rb true [slots[3]!,slots[2]!], rb false [slots[0]!, slots[2]!],
    rb true [slots[0]!, slots[2]!], rb true [{slots[0]! with st := .skipped}, slots[2]!], rb true [slots[1]!],
        rb false [slots[3]!, slots[1]!, slots[2]!]]
def vals14 : List State := ss ++ st2 ++ st3 ++ st4 ++ [({} : State).setReg (slInst .pup 1) R.PUP_STAT 7,
    ({} : State).setReg (slInst .pup 1) R.PUP_STAT 3]
/-- No packet that waits to restart can begin. -/
abbrev Cannot (s : State) (sl : Slice) : Prop := ∀ r ∈ (s.pup sl).restarts,
  (r.metError = true ∧ (s.pup sl).repair ≠ none) ∨ s.nextCtx sl (some r.notPup) = none
/-- Hypotheses of `PacketsAreAssigned` that can be met. -/
theorem test_witness_PacketsAreAssigned :
    (∃ s : State, ∃ sl : Slice, ∃ x : CtxId, Assigning s sl ∧ ∃ f : Nat, ∃ rest : List Nat, Cannot s sl ∧
        (s.pcl sl).waiting = f :: rest ∧ (s.frame f).gone = false ∧ s.regB (slInst .pup sl) R.PUP_CTRL 0 = true ∧
        (fld (s.ent (slInst .pcl sl) 2 ((s.frame f).inport.val % 64) 0) 0 8) < 240 ∧
        (s.ent (slInst .pup sl) (if (s.regB (slInst .pup sl) R.PUP_CTRL 1) then 3 else 2) (fld (s.ent (slInst .pcl sl) 2 ((s.frame f).inport.val % 64) 0) 0 8) 0).getLsbD 14 = true ∧ (s.pcl sl).rob.length < 4096 ∧ s.nextCtx sl none = some x) ∧
    (∃ s : State, ∃ sl : Slice, Assigning s sl ∧ ∃ f : Nat, ∃ rest : List Nat, Cannot s sl ∧
        (s.pcl sl).waiting = f :: rest ∧ (s.frame f).gone = false ∧
        (s.regB (slInst .pup sl) R.PUP_CTRL 0 = false ∨ 240 ≤ (fld (s.ent (slInst .pcl sl) 2 ((s.frame f).inport.val % 64) 0) 0 8) ∨ (s.ent (slInst .pup sl) (if (s.regB (slInst .pup sl) R.PUP_CTRL 1) then 3 else 2) (fld (s.ent (slInst .pcl sl) 2 ((s.frame f).inport.val % 64) 0) 0 8) 0).getLsbD 14 = false)) ∧
    (∃ s : State, ∃ sl : Slice, ∃ x : CtxId, Assigning s sl ∧ ∃ f : Nat, ∃ rest : List Nat, (s.pup sl).restarts ≠ [] ∧
        Cannot s sl ∧ (s.pcl sl).waiting = f :: rest ∧ s.nextCtx sl none = some x) ∧
    (∃ s : State, ∃ sl : Slice, ∃ x : CtxId, Assigning s sl ∧ ∃ r : Restart, ∃ rest : List Restart,
        (s.pup sl).restarts = r :: rest ∧ (s.pup sl).repair = none ∧ s.nextCtx sl (some r.notPup) = some x) ∧
    (∃ s : State, ∃ sl : Slice, ∃ x : CtxId, Assigning s sl ∧ ∃ q r : Restart, (s.pup sl).restarts = q :: [r] ∧
        q.metError = true ∧ (s.pup sl).repair ≠ none ∧ r.metError = false ∧ s.nextCtx sl (some r.notPup) = some x) :=
  ⟨⟨pick vals14 0, 1, ⟨1, 0, 0⟩, by constructor <;> decide +kernel, 3, [], by and_intros <;> decide +kernel⟩,
   ⟨pick vals14 2, 1, by constructor <;> decide +kernel, 3, [], by and_intros <;> decide +kernel⟩,
   ⟨pick vals14 7, 1, ⟨1, 0, 0⟩, by constructor <;> decide +kernel, 3, [], by and_intros <;> decide +kernel⟩,
   ⟨pick vals14 6, 1, ⟨1, 0, 0⟩, by constructor <;> decide +kernel, rs, [rs], by and_intros <;> decide +kernel⟩,
   ⟨pick vals14 8, 1, ⟨1, 0, 0⟩, by constructor <;> decide +kernel, rsMet, rs, by and_intros <;> decide +kernel⟩⟩
/-- Hypotheses of `StoreRepairAndPupControl`, `StoresAreRepaired` that can be met. -/
theorem test_witness_StoresAreRepaired :
    (∃ s : State, ∃ sl : Slice, Quiet s ∧ s.sleep sl = 0 ∧ s.inBlockReset (slInst .pup sl) = false ∧
        s.regB (slInst .pup sl) R.PUP_CTRL 2 = true ∧ (s.pup sl).repair = none) ∧
    (∃ s : State, ∃ sl : Slice, ∃ nano : Bool, ∃ idx : Fin 16384, Quiet s ∧ ∃ k,
        (s.pup sl).repair = some (nano, idx.val) ∧ (s.pup sl).heldWrites = [] ∧
        idx.val < (if nano then 4096 else 16384) ∧
        (lenders sl).find? (fun q => !s.badEntry (slInst .pup q) (if nano then 1 else 0) idx.val) = some k) :=
  ⟨⟨pick vals14 0, 1, by and_intros <;> decide +kernel⟩,
   ⟨pick vals14 9, 1, true, 7, by decide +kernel, 2, by and_intros <;> decide +kernel⟩⟩
/-- Hypotheses of `StoreRepairAndPupControl`, `PupControlWrites` that can be met. -/
theorem test_witness_PupControlWrites :
    ∃ s : State, ∃ inst : Fin 16, (inst.val < 4 ∨ inst.val = 15) ∧ ((∀ sl : Slice,
        inst.val = sl.val ∨ inst.val = 15 → Reached s (slInst .pup sl))) :=
  ⟨up {}, 1, by decide +kernel, by intro sl _; fin_cases sl <;> constructor <;> decide +kernel⟩
/-- Hypotheses of `HousekeepingSuspendsAndResumes`, `RoutinesResume` that can be met. -/
theorem test_witness_RoutinesResume :
    (∃ s : State, ∃ x : CtxId, x = ⟨1, 385, 0⟩ ∧ Quiet s ∧ (s.ctx x).running = true ∧ (s.ctx x).suspended = true ∧
        s.sleep 1 = 0 ∧ s.failed 1 = false ∧ s.safePending x = false ∧ (s.ctx x).yielded = false) ∧
    (∃ s : State, ∃ x : CtxId, x = ⟨1, 385, 0⟩ ∧ Quiet s ∧ (s.ctx x).running = true ∧ (s.ctx x).suspended = true ∧
        s.sleep 1 = 0 ∧ s.failed 1 = false ∧ s.safePending x = false ∧ (s.ctx x).yielded = true ∧
        s.energyFloor 1 2 + (fld (s.ent (slInst .egv 1) 1 ((s.ctx x).entry - 240) 1) 0 16 * 1024000 : Nat) ≤
          (s.egv 1).bucket) ∧
    (∃ s : State, ∃ x : CtxId, x = ⟨1, 385, 0⟩ ∧ Quiet s ∧ (s.ctx x).running = true ∧ (s.ctx x).suspended = true ∧
        s.sleep 1 = 0 ∧ s.failed 1 = false ∧ s.safePending x = false ∧ (s.ctx x).yielded = true ∧
        fld (s.ent (slInst .egv 1) 1 ((s.ctx x).entry - 240) 0) 16 16 ≠ 0) ∧
    (∃ s : State, ∃ x : CtxId, x = ⟨1, 385, 0⟩ ∧ Quiet s ∧ (s.ctx x).running = true ∧ (s.ctx x).suspended = true ∧
        s.sleep 1 = 0 ∧ s.failed 1 = false ∧ s.safePending x = false ∧ (s.ctx x).yielded = true ∧
        (s.egv 1).bucket < s.energyFloor 1 2 +
          (fld (s.ent (slInst .egv 1) 1 ((s.ctx x).entry - 240) 1) 0 16 * 1024000 : Nat)) ∧
    (∃ s : State, ∃ x : CtxId, x = ⟨1, 385, 0⟩ ∧ Quiet s ∧ (s.ctx x).running = true ∧ (s.ctx x).suspended = true ∧
        s.sleep 1 = 0 ∧ s.safePending x = true) :=
  ⟨⟨pick vals14 17, _, rfl, by and_intros <;> decide +kernel⟩,
   ⟨pick vals14 18, _, rfl, by and_intros <;> decide +kernel⟩,
   ⟨(pick vals14 18).setEntry (slInst .egv 1) 1 (((pick vals14 18).ctx ⟨1, 385, 0⟩).entry - 240) 0 [0x40000, 3], _, rfl,
       by and_intros <;> decide +kernel⟩,
   ⟨(pick vals14 18).updEgv 1 fun e => { e with bucket := -1 }, _, rfl, by and_intros <;> decide +kernel⟩,
   ⟨pick vals14 16, _, rfl, by and_intros <;> decide +kernel⟩⟩
/-- Hypotheses of `DescriptorsBecomeReadyAndAreReleased`, `DescriptorsAreReleased` that can be met. -/
theorem test_witness_DescriptorsAreReleased :
    (∃ s : State, ∃ sl : Slice, ∃ lp : Fin 64, ∃ r : Slot, ∃ d : Desc, Quiet s ∧
        s.regB (slInst .pcl 0) R.PCL_VERSION 17 = false ∧ r ∈ (s.pcl sl).rob ∧ r.lp = lp.val ∧ releasing s sl lp r d) ∧
    (∃ s : State, ∃ sl : Slice, ∃ lp : Fin 64, ∃ r : Slot, ∃ d : Desc, Quiet s ∧
        s.regB (slInst .pcl 0) R.PCL_VERSION 17 = false ∧ r ∈ (s.pcl sl).rob ∧ r.lp = lp.val ∧
        (s.ent (slInst .pcl sl) 2 lp.val 0).getLsbD 8 = false ∧ r.st = .ready d ∧ d.fid = r.fid ∧ ((∀ q ∈ (s.pcl sl).rob,
        q.lp = lp.val → q ≠ r → q.st = .open))) ∧
    (∃ s : State, ∃ sl : Slice, ∃ lp : Fin 64, ∃ r : Slot, ∃ d : Desc, Quiet s ∧
        s.regB (slInst .pcl 0) R.PCL_VERSION 17 = false ∧ r ∈ (s.pcl sl).rob ∧ r.lp = lp.val ∧
        (s.ent (slInst .pcl sl) 2 lp.val 0).getLsbD 8 = true ∧ r.st = .ready d ∧ d.fid = r.fid ∧ ∃ q : Slot,
        (s.pcl sl).rob = [q, r] ∧ q.lp = lp.val ∧ q.fid ≠ r.fid ∧ q.st = .open) :=
  ⟨⟨pick vals14 19, 1, 8, pick vals12 2, rdy, by and_intros <;> first | decide +kernel | (unfold releasing; decide +kernel)⟩,
   ⟨pick vals14 21, 1, 8, pick vals12 2, rdy, by and_intros <;> decide +kernel⟩,
   ⟨pick vals14 22, 1, 8, pick vals12 2, rdy, by
     and_intros <;> first | decide +kernel | exact ⟨pick vals12 0, by and_intros <;> decide +kernel⟩⟩⟩

end Pups

namespace Forwarding

def is : List Instr := ([0, 24, 0x119, 0x180, 0x221, 0x240,
    0x281] : List Word).flatMap fun p => [.routeAdd4 1 0x0A010203 p 0xFFFFFFFF, .routeDel4 1 0x0A0102FF p,
        .routeAdd6 1 1 2 3 0x20010DB8 p 7, .routeDel6 1 1 2 3 0x20010DB8 p]
def vals4 : List Instr := is
def rt (p i : Nat) (v6 : Bool) (a : Nat) : Route := ⟨v6, i, p, BitVec.ofNat 128 a, 5⟩
def wr (l : List Route) (s : State) : State := (s.updFwd 1 fun f => {f with routes := l}).setRegF (slInst .fwd 1) R.FWD_LPMUSE 0 22 (unitsOf l)
def ss : List State := [{}, wr [rt 24 0 false 0x0A010277, rt 128 1 true (0x20010DB8 * 2^96 + 3 * 2^64 + 2 * 2^32 + 1),
    rt 64 2 true (0x20010DB8 * 2^96 + 3 * 2^64), rt 25 1 false 0x0A010203] {},
        ({} : State).updFwd 1 fun f => {f with run := some ⟨1, []⟩, queue := [⟨2, []⟩]}]
def vals5 : List State := ss
def part (n : Nat) (s : State) : State := s.setEnt (slInst .asa 1) 1 3 0 (BitVec.ofNat 32 (0x8000 + 0x4000 + 32 * n))
def l2s : List State := [part 1 {}, (part 1 {}).writeRow 1 9 (l2Row ((3 : BitVec 14) ++ ((0x0A010203 : Word) ++
    (3 : BitVec 16)))),
  ((part 1 {}).writeRow 1 3 (l2Row ((0 : BitVec 14) ++ ((0x0A010203 : Word) ++
      (3 : BitVec 16))))).setEntry (slInst .fwd 1) 5 3 0 [5, 0x1FFFF],
  ((part 1 {}).writeRow 1 3 (l2Row ((0 : BitVec 14) ++ ((0 : Word) ++ (3 : BitVec 16)))))]
def vals6 : List State := l2s
def f3 : List State := [({} : State).updFwd 1 fun f => {f with run := some ⟨5, []⟩, res := (1, 77)},
    (({} : State).updFwd 1 fun f => {f with refreshQ := [24]}).setWinWord (slInst .fwd 1) 5 49 0xFFFFFFFF,
  (({} : State).updFwd 1 fun f => {f with learnQ := [[1,2,3,4]], filter := [4,5]}).updFifo 1 fun f =>
      {f with words := fifoItem [4,5]}]
def vals14 : List State := f3
def f4 : List State := [up {}, ((up {}).setEnt (slInst .asa 1) 1 1 0 0x8020).updAsa 1 fun a => {a with
        rewriteQ := [7, 9], disabled := a.disabled.set 7 true, live := a.live.set 7 (some {value := 4}),
        shadow := a.shadow.set 7 {value := 5, valid := true}}]
def vals18 : List State := f4
/-- Hypotheses of `ForwardingTablesChange`, `RoutesChange` that can be met. -/
theorem test_witness_RoutesChange :
    (∃ s : State, ∃ i : Instr, ∃ sl : Slice, ∃ op : Nat, ∃ args : List Word, ∃ r : Route, ∃ add : Bool,
        routeForm i = some (sl, op, args, r, add) ∧ FwdIdle s sl ∧
        unitsOf (s.fwd sl).routes = s.regF (slInst .fwd sl) R.FWD_LPMUSE 0 22) ∧
    (∃ s : State, ∃ i : Instr, ∃ sl : Slice, ∃ op : Nat, ∃ args : List Word, ∃ r : Route, ∃ add : Bool,
        routeForm i = some (sl, op, args, r, add) ∧ Quiet s ∧ (s.fwd sl).run ≠ none ∧ s.awake sl = true) :=
  ⟨⟨pick vals5 0, pick vals4 0, 1, 1, [0x0a010203#32, 0x00000000#32, 0xffffffff#32], _, true, rfl,
      by constructor <;> decide +kernel, by decide +kernel⟩,
   ⟨pick vals5 2, pick vals4 0, 1, 1, [0x0a010203#32, 0x00000000#32, 0xffffffff#32], _, true, rfl, by and_intros <;> decide +kernel⟩⟩
def fullRow : AsaRow := { value := 2 ^ 40, valid := true }
def fullL2 : State := (part 1 {}).updAsa 1 fun a => { a with shadow := ⟨(List.range' 0 2048).map fun r => (r, fullRow)⟩ }
theorem lookup_full (d v : AsaRow) (n a k : Nat) (h : a ≤ k ∧ k < a + n) :
    lookupD d k ((List.range' a n).map fun r => (r, v)) = v := by
  induction n generalizing a with
  | zero => omega
  | succ n ih =>
    rw [List.range'_succ, List.map_cons, lookupD]
    split
    · rfl
    · exact ih _ (by omega)
/-- Hypotheses of `ForwardingTablesChange`, `L2EntriesChange` that can be met. -/
theorem test_witness_L2EntriesChange :
    (∃ s : State, ∃ sl : Slice, ∃ w : Word, ∃ a0 : Word, ∃ a1 : Word, FwdIdle s sl ∧ s.l2Part sl = some w ∧ ∃ r,
        s.l2Find sl w (a1.extractLsb' 16 14 ++ (a0 ++ a1.extractLsb' 0 16)) = some r ∧ r < 32768) ∧
    (∃ s : State, ∃ sl : Slice, ∃ w : Word, ∃ a0 : Word, ∃ a1 : Word, FwdIdle s sl ∧ s.l2Part sl = some w ∧
        s.l2Find sl w (a1.extractLsb' 16 14 ++ (a0 ++ a1.extractLsb' 0 16)) = none ∧ ∃ q, q < l2Rows w ∧
        ((s.asa sl).shadow.get (l2First w + q)).valid = false) ∧
    (∃ s : State, ∃ sl : Slice, ∃ w : Word, ∃ a0 : Word, ∃ a1 : Word, FwdIdle s sl ∧ s.l2Part sl = some w ∧
        s.l2Find sl w (a1.extractLsb' 16 14 ++ (a0 ++ a1.extractLsb' 0 16)) = none ∧ ((∀ q,
        q < l2Rows w → ((s.asa sl).shadow.get (l2First w + q)).valid = true))) ∧
    (∃ s : State, ∃ sl : Slice, ∃ w : Word, FwdIdle s sl ∧ s.l2Part sl = some w) ∧
    (∃ s : State, ∃ sl : Slice, ∃ w : Word, ∃ a0 : Word, FwdIdle s sl ∧ s.l2Part sl = some w ∧ l2Rows w ≤ a0.toNat) ∧
    (∃ s : State, ∃ sl : Slice, ∃ w : Word, ∃ a0 : Word, FwdIdle s sl ∧ s.l2Part sl = some w ∧ a0.toNat < l2Rows w ∧
        ((s.asa sl).shadow.get (l2First w + a0.toNat)).valid = false) ∧
    (∃ s : State, ∃ sl : Slice, ∃ w : Word, ∃ a0 : Word, FwdIdle s sl ∧ s.l2Part sl = some w ∧ a0.toNat < l2Rows w ∧
        ((s.asa sl).shadow.get (l2First w + a0.toNat)).valid = true ∧
        (s.ent (slInst .fwd sl) 5 a0.toNat 1).getLsbD 16 = false) ∧
    (∃ s : State, ∃ sl : Slice, ∃ w : Word, ∃ a0 : Word, FwdIdle s sl ∧ s.l2Part sl = some w ∧ a0.toNat < l2Rows w ∧
        ((s.asa sl).shadow.get (l2First w + a0.toNat)).valid = true ∧
        (s.ent (slInst .fwd sl) 5 a0.toNat 1).getLsbD 16 = true) :=
  ⟨⟨pick vals6 2, 1, 0xC020, 0x0A010203, 3, by constructor <;> decide +kernel, by decide +kernel, 3, by decide +kernel,
      by decide +kernel⟩,
   ⟨pick vals6 0, 1, 0xC020, 0xC020, 0xC020, by constructor <;> decide +kernel, by decide +kernel, by decide +kernel, 0,
       by decide +kernel, by decide +kernel⟩,
   ⟨fullL2, 1, 0xC020, 0xC020, 0xC020, by constructor <;> decide +kernel, by decide +kernel,
    by rw [State.l2Find, show ((fullL2.asa 1).shadow.ents) = (List.range' 0 2048).map (fun r => (r, fullRow)) from rfl,
         Option.map_eq_none_iff, List.find?_eq_none]
       intro x h
       obtain ⟨r, -, rfl⟩ := List.mem_map.1 h
       exact fun e => absurd (of_decide_eq_true (Bool.and_eq_true_iff.1 e).2) (by decide +kernel),
    fun q h => by
      have := lookup_full default fullRow 2048 0 (l2First 0xC020 + q)
        ⟨Nat.zero_le _, by rw [show l2First 0xC020 = 0 by decide, Nat.zero_add]; exact lt_of_lt_of_eq h (by decide)⟩
      exact congrArg AsaRow.valid this⟩,
   ⟨pick vals6 0, 1, 0xC020, by constructor <;> decide +kernel, by decide +kernel⟩,
   ⟨pick vals6 0, 1, 0xC020, 0xC020, by constructor <;> decide +kernel, by decide +kernel, by decide +kernel⟩,
   ⟨pick vals6 0, 1, 0xC020, 3, by constructor <;> decide +kernel, by and_intros <;> decide +kernel⟩,
   ⟨pick vals6 3, 1, 0xC020, 3, by constructor <;> decide +kernel, by and_intros <;> decide +kernel⟩,
   ⟨pick vals6 2, 1, 0xC020, 3, by constructor <;> decide +kernel, by and_intros <;> decide +kernel⟩⟩
/-- R227, R398: the age clock of slice 1 is stopped: its ageing routine is one that may be withheld, and it is. -/
abbrev AgeingStops (s : State) : Prop := s.regB (slInst .fwd 1) R.FWD_AGECFG 15 = true ∧
  (s.ent (slInst .egv 1) 1 (s.regF (slInst .fwd 1) R.FWD_LRNCFG 8 4) 1).getLsbD 16 = true ∧
  (1 ≤ s.stage ∨ s.regB (slInst .tmg 1) R.TMG_ESTAT 0 = true)
/-- Hypotheses of `ForwardingAdvances`, `ForwardingQueuesAdvance` that can be met. -/
theorem test_witness_ForwardingQueuesAdvance :
    (∃ s : State, ∃ sl : Slice, Quiet s ∧ ∃ o, (s.fwd sl).run = some o ∧ (s.fwd sl).queue = [] ∧
        (s.fwd sl).res.1 < 8 ∧ o.op = 5 ∧ (s.fwd sl).res.1 ≤ 1) ∧
    (∃ s : State, Quiet s) ∧
    (∃ s : State, ∃ sl : Slice, Quiet s ∧ s.awake sl = true ∧ ∃ row, ∃ rest, (s.fwd sl).refreshQ = row :: rest ∧
        s.badEntry (slInst .fwd sl) 5 row = false) ∧
    (∃ s : State, ∃ sl : Slice, Quiet s ∧ (s.fwd sl).refreshQ = [] ∧ (s.fwd sl).learnQ = []) ∧
    (∃ s : State, ∃ sl : Slice, Quiet s ∧ s.sleep sl ≠ 0 ∧ s.failed sl = false ∧ (s.fwd sl).refreshQ ≠ []) ∧
    (∃ s : State, ∃ sl : Slice, Quiet s ∧ s.sleep sl ≠ 0 ∧ s.failed sl = false ∧ (s.fwd sl).learnQ ≠ []) ∧
    (∃ s : State, ∃ sl : Slice, Quiet s ∧ s.awake sl = true ∧ ∃ n, ∃ rest, (s.fwd sl).learnQ = n :: rest ∧
        (s.fifo sl.val).waiting = [] ∧ (s.fifo sl.val).words.length + n.length ≤ 64 ∧ n ≠ []) ∧
    (∃ s : State, Quiet s ∧ AgeingStops s) ∧ (∃ s : State, Quiet s ∧ ¬ AgeingStops s) :=
  ⟨⟨pick vals14 0, 1, by decide +kernel, { op := 5, args := [] }, by and_intros <;> decide +kernel⟩,
   ⟨pick vals14 0, by decide +kernel⟩,
   ⟨pick vals14 1, 1, by decide +kernel, by decide +kernel, 24, [], by decide +kernel, by decide +kernel⟩,
   ⟨pick vals14 0, 1, by and_intros <;> decide +kernel⟩,
   ⟨(pick vals14 1).setRegF (slInst .egv 1) R.EGV_SSTAT 8 2 2, 1, by and_intros <;> decide +kernel⟩,
   ⟨(pick vals14 2).setRegF (slInst .egv 1) R.EGV_SSTAT 8 2 2, 1, by and_intros <;> decide +kernel⟩,
   ⟨pick vals14 2, 1, by decide +kernel, by decide +kernel, [1,2,3,4], [], by and_intros <;> decide +kernel⟩,
   ⟨(((pick vals14 0).setRegB (slInst .fwd 1) R.FWD_AGECFG 15 true).setEnt (slInst .egv 1) 1
       ((pick vals14 0).regF (slInst .fwd 1) R.FWD_LRNCFG 8 4) 1 0x10000).setRegB (slInst .tmg 1) R.TMG_ESTAT 0 true, by decide +kernel,
       by decide +kernel⟩,
   ⟨(pick vals14 0).setRegB (slInst .fwd 1) R.FWD_AGECFG 15 true, by decide +kernel, by decide +kernel⟩⟩
/-- A write of the last word of row 7 waits to be made; the partition that holds the row, and the row. -/
def rowAt (p : Word) (r : AsaRow := {}) : State :=
  (((up {}).setWs (slInst .asa 1) { addr := 87 }).setEnt (slInst .asa 1) 1 1 0 p).updAsa 1 fun a => { a with shadow := a.shadow.set 7 r }
/-- Hypotheses of `SearchArraysAreKept`, `RowsAreWritten` that can be met: outside the KIND 1 partition, in it, and in a bank that
accepts no writes. -/
theorem test_witness_RowsAreWritten :
    (∀ p : Word, p ∈ [0x8020, 0xC020, 0xA040] → Reached (rowAt p) (slInst .asa 1) ∧ At (rowAt p) (slInst .asa 1) 7 10 11 ∧
      ((rowAt p).wsOf (slInst .asa 1)).win.toNat = 0) ∧
    (¬ InL2 (rowAt 0x8020) 1 7 ∧ (rowAt 0x8020).bankRefuses (slInst .asa 1) 0 7 = false) ∧
    (InL2 (rowAt 0xC020) 1 7 ∧ (rowAt 0xC020).bankRefuses (slInst .asa 1) 0 7 = false) ∧
    (rowAt 0xA040).bankRefuses (slInst .asa 1) 0 7 = true := by
  refine ⟨fun p h => ?_, ⟨fun ⟨w, h, b⟩ => ?_, by decide +kernel⟩, ⟨⟨0xC020, by and_intros <;> decide +kernel⟩, by decide +kernel⟩,
    by decide +kernel⟩
  · fin_cases h <;> exact ⟨by constructor <;> decide +kernel, ⟨⟨_, rfl, by decide +kernel⟩, by decide +kernel⟩, by decide +kernel⟩
  · rw [show (rowAt 0x8020).rowPart 1 7 = some 0x8020 by decide +kernel] at h
    cases h; exact absurd b (by decide)
/-- R232: a store sets the row and its shadow together. -/
theorem test_row_store : (match exec (.wdataWrite (slInst .asa 1) 0x1A50F) (rowAt 0x8020 { value := 9 }) with
    | .next t => ((t.asa 1).shadow.get 7, (t.asa 1).row 7)
    | _ => default) = ({ value := 9, pf := 0x0F, pfcare := 0xA5, valid := true }, { value := 9, pf := 0x0F, pfcare := 0xA5, valid := true }) :=
  by decide +kernel
/-- A pup context whose lookup under tag 0 has failed two verifications. -/
def failedTwice : State := (up {}).setCtx ⟨1, 5, 0⟩ { look := #v[some { table := 8, falseRows := [7, 9] }, none, none, none] }
/-- Hypotheses of `SearchArraysAreKept`, `SearchesAreVerified` that can be met. -/
theorem test_witness_SearchesAreVerified :
    ∃ (s : State) (x : CtxId) (tag : Fin 4) (l : Lookup), Quiet s ∧ (s.ctx x).look[tag] = some l ∧
      Plain { l with falseRows := [], multi := false } ∧ s.tableOn x.slice l.table = true ∧ ReportOnly s (srcOf 6 x.slice) ∧
      l.falseRows = [7, 9] :=
  ⟨failedTwice, ⟨1, 5, 0⟩, 0, { table := 8, falseRows := [7, 9] }, by decide +kernel, by decide +kernel, by unfold Plain; decide +kernel,
    by decide +kernel, by constructor <;> decide +kernel, rfl⟩
/-- R241: a row that matches only as its bank stores it fails, and the next entry that matches is returned. -/
theorem test_search_is_verified : ((rowAt 0x8020 { value := 3, care := 1, valid := true }).updAsa 1 fun a => { a with
      live := a.live.set 5 (some { valid := true }) }).asaSearch 1 0x8020 false 1 0 0 = (some 7, [5]) := by decide +kernel
/-- Hypotheses of `SearchArraysAreKept`, `RowsAreRewritten` that can be met. -/
theorem test_witness_SearchArraysAreKept :
    (∃ s : State, ∃ sl : Slice, Reached s (slInst .asa sl) ∧ ∃ part : Fin 32, ∃ v : Word,
        ((if (s.ent (slInst .asa sl) 1 part.val 0).getLsbD 15 then v.getLsbD 15 = false else v.getLsbD 15 = true → partLegal v (((List.range 32).filter (· ≠ part.val)).map (fun p => s.ent (slInst .asa sl) 1 p 0) |>.filter (·.getLsbD 15)) = true))) ∧
    (∃ s : State, ∃ sl : Slice, Reached s (slInst .asa sl) ∧ ∃ part : Fin 32, ∃ v : Word,
        (¬ (if (s.ent (slInst .asa sl) 1 part.val 0).getLsbD 15 then v.getLsbD 15 = false else v.getLsbD 15 = true → partLegal v (((List.range 32).filter (· ≠ part.val)).map (fun p => s.ent (slInst .asa sl) 1 p 0) |>.filter (·.getLsbD 15)) = true))) ∧
    (∃ s : State, ∃ sl : Slice, Reached s (slInst .asa sl) ∧ ∃ r, ∃ rest, (s.asa sl).rewriteQ = r :: rest) ∧
    (∃ s : State, ∃ sl : Slice, Reached s (slInst .asa sl) ∧ s.regB (slInst .asa sl) R.ASA_CTRL 0 = true ∧
        ∃ row : Fin 65536, (s.asa sl).shadowErr.get row.val = .clean ∧ (s.asa sl).lost.get row.val = false) :=
  ⟨⟨pick vals18 0, 1, by constructor <;> decide +kernel, 0, 0x8020, by decide +kernel⟩,
   ⟨pick vals18 0, 1, by constructor <;> decide +kernel, 0, 0xFFFF, by decide +kernel⟩,
   ⟨pick vals18 1, 1, by constructor <;> decide +kernel, 7, [9], by decide +kernel⟩,
   ⟨pick vals18 0, 1, by constructor <;> decide +kernel, by decide +kernel, 7, by decide +kernel, by decide +kernel⟩⟩

end Forwarding

namespace Copies

def by1 (n : Nat) : List Byte := (List.range n).map fun k => BitVec.ofNat 8 (k * 7 + 3)
def gf (n : Nat) : Frame :=
    { bytes := by1 n ++ fcsOf (by1 n), final := true, maxfrm := 1518, inport := 72, ingCells := cellsOf (n + 4) }
def vals1 : List Frame := [60, 61, 100, 252, 256, 300, 700].map gf
def frs (s : State) : State := { s with frames := (({} : Tbl Frame).set 3 (gf 60)).set 4 (gf 60), nextFrame := 7 }
def cp (fid : Nat) (edit : Nat := 0) : Copy :=
    { cid := 5, fid := fid, eslice := 1, port := 73, queue := 17, tid := 4, edit := edit, eclass := 1 }
def ed (op off len src soff : Nat) : Word := BitVec.ofNat 32 (op + off * 16 + len * 4096 + src * 2^20 + soff * 2^21)
def s0 : State := (((frs {}).setEntry (slInst .rwr 1) 0 2 0 [0x2000, ed 3 12 4 0 0,
    ed 1 20 8 0 0])).setEntry (slInst .rwr 1) 0 3 0 [0x1000, ed 3 255 100 0 0]
def rws : List State := [cp 3, cp 4, cp 3 2, cp 3 3].map fun c => s0.updSwc 1 fun x => {x with rewriteQ := [c]}
def tooL : State := let s := ({ s0 with frames := s0.frames.set 3 (gf 16379) }.setEntry (slInst .rwr 1) 0 2 0 [0x1000,
    ed 2 12 4 0 0]); s.updSwc 1 fun x => {x with rewriteQ := [cp 3 2]}
def vals7 : List State := tooL :: rws
def dd (act : Nat) (dest : Word) : Desc := {
        fid := 3, rd := [BitVec.ofNat 8 act, 0, 5, 0] ++ leBytes 4 dest.toNat ++ [7, 1, 3] ++ List.replicate 37 9 ++
        [4, 72] ++ List.replicate 14 8, mdLen := 304}
def dest : Word := BitVec.ofNat 32 (1 + 4 * 33 + 2^18 * 73)
def ds : List Desc := [dd 0 0, dd 1 dest, dd 2 9, dd 3 5]
def topo (s : State) : State := ((s.setEnt (slInst .tmg 1) 0 33 0 0x80000002).setEnt (slInst .tmg 1) 1 2 0 0x80000009).setLane 73 R.PRT_PSTAT 0 4 7
def vals8 : List Desc := ds
def des : List State := ds.flatMap fun d => [(topo s0).updSwc 1 fun x => {x with descs := [d]},
    ((topo s0).updSwc 1 fun x => {x with descs := [d]}).setLane 73 R.PRT_PSTAT 0 4 1]
def vals10 : List State := des
def adm : List State := ([cp 3, cp 4].map fun c => (topo s0).updSwc 1 fun x =>
    {x with admitQ := [c], gused := x.gused.set 77 7}) ++ ([cp 3,
        cp 4].map fun c => ((topo s0).setRegF (slInst .swc 1) R.SWC_SHFREE 0 19 0).setRegF (slInst .swc 1) R.SWC_INGRSV 0 19 393000 |>.updSwc 1 fun x => {x with admitQ := [c]})
def vals12 : List State := adm
def bp (s : State) : State :=
  let s := forAll [5,6,7] (fun c t => t.setChF c R.DTC_CCFG 1 1 0) s
  let s := ((s.setChF 4 R.DTC_CSTAT 0 3 3).setChF 4 R.DTC_SIZE 0 26 1000).setReg (slInst .bpm 1) R.BPM_CTRL 1
  (forAll [0,1,2,3] (fun k t => t.setReg (slInst .bpm 1) (R.BPM_PGMAX + 4 * k) 100) s).setEnt (slInst .swc 1) 1 4 1 5
def qd (c : Copy) (s : State) : State := s.setQueue 1 17 [c]
def sps : List State :=
  let sq := fun (s : State) => s.updSwc 1 fun x => {x with spillQ := [(17, 5)]}
  let dr := fun (s : State) => s.updSwc 1 fun x => {x with draining := [(17, 5)]}
  [sq (qd (cp 3) (bp s0)), sq (qd (cp 3) s0), sq (qd (cp 4) (bp s0)), (qd { cp 3 with deep := some 65536, a := 2 } (bp
      s0)).updSwc 1 fun x => {x with spilling := [(17,5)], gused := (x.gused.set 73 9)},
   qd { cp 3 with deep := some 65536, len := 304 } (bp s0), (qd { cp 3 with deep := some 65536, len := 304 } (bp
       s0)).setEnt (slInst .swc 1) 3 0 2 0,
   dr (qd { cp 3 with deep := some 65536, len := 304 } ((bp s0).updBpm 1 fun b =>
       {b with refs := b.refs.set 65536 2, pageOwner := b.pageOwner.set 1 1}))]
def vals19 : List State := sps
def cap (s : State) : State := (s.setReg swc4 R.SWC_HRCFG 0x106).updSwc 1 fun x =>
    {x with captures := [by1 64], puntUse := 3}
def served (s : State) : State := { s with hif := { s.hif with puntRr := 1 } }
def pi (kind : Nat) : PuntItem := { kind := kind, ring := 5, fid := 3, bytes := by1 70, cells := 2 }
def ringS (s : State) : State :=
  let s := s.setEntry hif4 1 (puntBlk 5) 0 [0, 0, 0x10606, 0x1000, 0, 20, 0, 0x00000408]
  let s := s.setEntry hif4 1 (injBlk 5) 0 [0x2000, 0, 0x106, 0x3F0005]
  { s with hif := { s.hif with puntRr := 1, rings := s.hif.rings.set 5 { cache := [(0, 0x99), (1, 0x88)] } } }
def injD (act len sl : Nat) : List Byte := List.replicate 8 0 ++ leBytes 2 len ++ [BitVec.ofNat 8 act, 5] ++
    leBytes 4 dest.toNat ++ [0,0,0,0,BitVec.ofNat 8 sl] ++ List.replicate 43 0
def leaky (l o : List Nat) : State :=
  ((up {}).updSwc 1 fun x => { x with leaked := l, suspect := o }).updEgv 1 fun e => { e with tasks := [(16, 0)] }
theorem gf_good (n : Nat) (h : 60 ≤ n) : GoodFrame (gf n) := by
  have e : (fcsOf (by1 n)).length = 4 := rfl
  have l : (by1 n).length = n := by simp [by1]
  refine ⟨rfl, ⟨rfl, rfl, rfl⟩, ?_, ?_⟩ <;> simp [gf, e, l]; omega
theorem tooL_frame : (pick vals7 0).frame 3 = gf 16379 := rfl
/-- Hypotheses of `CarriedFcsIsFresh` that can be met. -/
theorem test_witness_CarriedFcsIsFresh :
    ∃ f : Frame, GoodFrame f ∧ f.injected = false :=
  ⟨pick vals1 0, by constructor <;> decide +kernel, by decide +kernel⟩
/-- Hypotheses of `CopiesAreResolvedAndRewritten`, `FramesAreRewritten` that can be met. -/
theorem test_witness_FramesAreRewritten :
    (∃ s : State, ∃ sl : Slice, ∃ c : Copy, ∃ r : List Copy, SwitchOn s sl ∧ (s.swc sl).rewriteQ = c :: r ∧
        c.gone = false ∧ c.eslice = sl.val ∧ GoodFrame (s.frame c.fid) ∧ s.editPar c = none ∧
        listLegal (frameHead (s.frame c.fid)).length (s.editList c) = true ∧ s.tooLong c = false ∧ c.ce = false) ∧
    (∃ s : State, ∃ sl : Slice, ∃ c : Copy, ∃ r : List Copy, SwitchOn s sl ∧ (s.swc sl).rewriteQ = c :: r ∧
        c.gone = false ∧ c.eslice = sl.val ∧ GoodFrame (s.frame c.fid) ∧ s.editPar c = none ∧
        listLegal (frameHead (s.frame c.fid)).length (s.editList c) = true ∧ s.tooLong c = true ∧ c.deep = none) ∧
    (∃ s : State, ∃ sl : Slice, ∃ c : Copy, ∃ r : List Copy, SwitchOn s sl ∧ (s.swc sl).rewriteQ = c :: r ∧
        c.gone = false ∧ c.eslice = sl.val ∧ GoodFrame (s.frame c.fid) ∧ ∃ i : InstId, i.present = true ∧
        s.clocked i = true) :=
  ⟨⟨pick vals7 1, 1, cp 3, [], by constructor <;> decide +kernel, by decide +kernel, by decide +kernel,
      by decide +kernel, by constructor <;> decide +kernel, by and_intros <;> decide +kernel⟩,
   ⟨pick vals7 0, 1, cp 3 2, [], by constructor <;> decide +kernel, by decide +kernel, by decide +kernel,
       by decide +kernel, tooL_frame ▸ gf_good _ (by decide), by and_intros <;> decide +kernel⟩,
   ⟨pick vals7 0, 1, cp 3 2, [], by constructor <;> decide +kernel, by decide +kernel, by decide +kernel,
       by decide +kernel, tooL_frame ▸ gf_good _ (by decide), slInst .fwd 2, by decide +kernel, by decide +kernel⟩⟩
/-- A copy waits for rewrite with a list that is not legal (3), one that is damaged (2), and one whose template is (4). -/
def refused : List State := [pick vals7 4,
  { pick vals7 3 with bad := (({} : Tbl Bool).set (winKey (slInst .rwr 1) 0 34) true) },
  { ((s0.setEntry (slInst .rwr 1) 0 4 0 [0x1007, ed 1 12 4 0 0]).updSwc 1 fun x => { x with rewriteQ := [cp 3 4] }) with
    bad := (({} : Tbl Bool).set (winKey (slInst .rwr 1) 1 224) true) }].map fun s =>
  (s.setEnt flt4 4 (srcOf 8 1) 0 1).setEnt flt4 4 (srcOf 9 1) 0 1
/-- Hypotheses of `CopiesAreResolvedAndRewritten`, `FramesAreRewritten` that can be met where the edits are refused: the one
copy of slice 1 waits, and its reports bring no reset. -/
def RefusedCopy (s : State) (c : Copy) : Prop :=
  SwitchOn s 1 ∧ (s.swc 1).rewriteQ = [c] ∧ c.gone = false ∧ c.eslice = 1 ∧ GoodFrame (s.frame c.fid) ∧ c.deep = none ∧
    ReportOnly s (srcOf 8 1) ∧ ReportOnly s (srcOf 9 1)
theorem test_witness_EditsAreRefused :
    (∃ s c, RefusedCopy s c ∧ s.editPar c = none ∧ listLegal (frameHead (s.frame c.fid)).length (s.editList c) = false) ∧
    (∃ s c, RefusedCopy s c ∧ DamagedEdit s 1 c false 2) ∧ (∃ s c, RefusedCopy s c ∧ DamagedEdit s 1 c true 7) := by
  refine ⟨⟨pick refused 0, cp 3 3, ?_, by decide +kernel, by decide +kernel⟩,
    ⟨pick refused 1, cp 3 2, ?_, by unfold DamagedEdit; simp only [Bool.false_eq_true, if_false]; exact ⟨by decide +kernel, rfl⟩⟩,
    ⟨pick refused 2, cp 3 4, ?_, by
      unfold DamagedEdit; simp only [if_true]
      exact ⟨by decide +kernel, by decide +kernel, by decide +kernel, ed 1 12 4 0 0, by decide +kernel, by decide +kernel⟩⟩⟩
  all_goals
    exact ⟨by constructor <;> decide +kernel, by and_intros <;> first | decide +kernel | (constructor <;> decide +kernel)⟩
/-- A descriptor for group 9, whose one member is the port of `topo`. -/
def grouped : State := (((topo s0).updSwc 1 fun x => { x with descs := [dd 2 9] }).setEnt (slInst .swc 1) 4 9 0 0x8004000A).setEntry
  (slInst .swc 1) 5 10 0 [0x80000000 ||| dest, 3]
def member : Copy := (memberCopy grouped 1 (dd 2 9) 10).getD {}
/-- Hypotheses of `CopiesAreResolvedAndRewritten`, `DescriptorsAreResolved` that can be met by a valid group. -/
theorem test_witness_GroupsAreResolved :
    ∃ s : State, ∃ sl : Slice, ∃ d : Desc, ∃ r : List Desc, SwitchOn s sl ∧ (s.swc sl).descs = d :: r ∧
      PlainDesc s sl d ∧ GoodFrame (s.frame d.fid) ∧ (s.frame d.fid).linked = {} ∧ Settled s d.fid ∧ d.byte 0 = 2 ∧
      ∃ l, GroupList s sl (fld d.dest 0 16) l ∧ (∀ m ∈ l, ∀ c, memberCopy s sl d m = some c → Passes s c) ∧
        l.filterMap (memberCopy s sl d) ≠ [] := by
  refine ⟨grouped, 1, dd 2 9, [], by constructor <;> decide +kernel, by decide +kernel, by constructor <;> decide +kernel,
    by constructor <;> decide +kernel, by decide +kernel, by unfold Settled; decide +kernel, by decide +kernel, [10],
    by unfold GroupList; decide +kernel, fun m hm c hc => ?_, by decide +kernel⟩
  obtain rfl := List.mem_singleton.mp hm
  obtain rfl := Option.some.inj ((by decide +kernel : memberCopy grouped 1 (dd 2 9) 10 = some member).symm.trans hc)
  constructor <;> decide +kernel
/-- Hypotheses of `CopiesAreResolvedAndRewritten`, `DescriptorsAreResolved` that can be met. -/
theorem test_witness_DescriptorsAreResolved :
    (∃ s : State, ∃ sl : Slice, ∃ d : Desc, ∃ r : List Desc, SwitchOn s sl ∧ (s.swc sl).descs = d :: r ∧
        PlainDesc s sl d ∧ GoodFrame (s.frame d.fid) ∧ (s.frame d.fid).linked = {} ∧ Settled s d.fid ∧ d.byte 0 = 0) ∧
    (∃ s : State, ∃ sl : Slice, ∃ d : Desc, ∃ r : List Desc, SwitchOn s sl ∧ (s.swc sl).descs = d :: r ∧
        PlainDesc s sl d ∧ GoodFrame (s.frame d.fid) ∧ (s.frame d.fid).linked = {} ∧ Settled s d.fid ∧ d.byte 0 = 1 ∧
        s.badEntry (slInst .tmg (Fin.ofNat 4 (fld d.dest 0 2))) 0 (fld d.dest 2 16) = false ∧
        s.badEntry (slInst .tmg (Fin.ofNat 4 (fld d.dest 0 2))) 1 (s.service (Fin.ofNat 4 (fld d.dest 0 2)) (fld d.dest 2 16)) = false ∧ fld d.dest 18 8 / 64 = (Fin.ofNat 4 (fld d.dest 0 2)).val ∧ s.nodePort (Fin.ofNat 4 (fld d.dest 0 2)) (fld d.dest 2 16) = some (fld d.dest 18 8 % 64) ∧ s.sleep (Fin.ofNat 4 (fld d.dest 0 2)) = 0 ∧
        s.inBlockReset (slInst .swc (Fin.ofNat 4 (fld d.dest 0 2))) = false ∧
        s.inBlockReset (slInst .tmg (Fin.ofNat 4 (fld d.dest 0 2))) = false ∧ s.portState (fld d.dest 18 8) = 7) ∧
    (∃ s : State, ∃ sl : Slice, ∃ d : Desc, ∃ r : List Desc, SwitchOn s sl ∧ (s.swc sl).descs = d :: r ∧
        PlainDesc s sl d ∧ GoodFrame (s.frame d.fid) ∧ (s.frame d.fid).linked = {} ∧ Settled s d.fid ∧ d.byte 0 = 1 ∧
        s.badEntry (slInst .tmg (Fin.ofNat 4 (fld d.dest 0 2))) 0 (fld d.dest 2 16) = false ∧
        s.badEntry (slInst .tmg (Fin.ofNat 4 (fld d.dest 0 2))) 1 (s.service (Fin.ofNat 4 (fld d.dest 0 2)) (fld d.dest 2 16)) = false ∧ fld d.dest 18 8 / 64 = (Fin.ofNat 4 (fld d.dest 0 2)).val ∧ s.nodePort (Fin.ofNat 4 (fld d.dest 0 2)) (fld d.dest 2 16) = some (fld d.dest 18 8 % 64) ∧ s.sleep (Fin.ofNat 4 (fld d.dest 0 2)) = 0 ∧
        s.inBlockReset (slInst .swc (Fin.ofNat 4 (fld d.dest 0 2))) = false ∧
        s.inBlockReset (slInst .tmg (Fin.ofNat 4 (fld d.dest 0 2))) = false ∧ s.portState (fld d.dest 18 8) ≠ 7) ∧
    (∃ s : State, ∃ sl : Slice, ∃ d : Desc, ∃ r : List Desc, SwitchOn s sl ∧ (s.swc sl).descs = d :: r ∧
        PlainDesc s sl d ∧ GoodFrame (s.frame d.fid) ∧ (s.frame d.fid).linked = {} ∧ Settled s d.fid ∧ d.byte 0 = 2 ∧
        ∀ l, ¬ GroupList s sl (fld d.dest 0 16) l) ∧
    (∃ s : State, ∃ sl : Slice, ∃ d : Desc, ∃ r : List Desc, SwitchOn s sl ∧ (s.swc sl).descs = d :: r ∧
        PlainDesc s sl d ∧ GoodFrame (s.frame d.fid) ∧ (s.frame d.fid).linked = {} ∧ Settled s d.fid ∧ d.byte 0 = 3 ∧
        portSlice (s.frame d.fid).inport.val = sl ∧
        (s.swc sl).puntUse + (((s.frame d.fid).bytes.length + 255) / 256) ≤ s.regF (slInst .swc sl) R.SWC_PUNTRSV 0 19) :=
  ⟨⟨pick vals10 0, 1, pick vals8 0, [], by and_intros <;> first | decide +kernel | (constructor <;> decide +kernel) | (unfold Settled; decide +kernel)⟩,
   ⟨pick vals10 2, 1, pick vals8 1, [], by constructor <;> decide +kernel, by decide +kernel,
       by constructor <;> decide +kernel, by constructor <;> decide +kernel, by decide +kernel,
       by unfold Settled; decide +kernel, by and_intros <;> decide +kernel⟩,
   ⟨pick vals10 3, 1, pick vals8 1, [], by constructor <;> decide +kernel, by decide +kernel,
       by constructor <;> decide +kernel, by constructor <;> decide +kernel, by decide +kernel,
       by unfold Settled; decide +kernel, by and_intros <;> decide +kernel⟩,
   ⟨pick vals10 4, 1, pick vals8 2, [], by constructor <;> decide +kernel, by decide +kernel,
       by constructor <;> decide +kernel, by constructor <;> decide +kernel, by decide +kernel,
       by unfold Settled; decide +kernel, by decide +kernel, fun _ h => absurd h.1 (by decide +kernel)⟩,
   ⟨pick vals10 6, 1, pick vals8 3, [], by constructor <;> decide +kernel, by decide +kernel,
       by constructor <;> decide +kernel, by constructor <;> decide +kernel, by decide +kernel,
       by unfold Settled; decide +kernel, by and_intros <;> decide +kernel⟩⟩
/-- The copy that waits for admission goes to a port in UP whose gates act, its class's longest window being `w`. -/
def gated (w : Nat) : State :=
  (((pick vals12 0).setEnt (slInst .tmg 1) 2 9 2 1).updTmg 1 fun t => { t with
    gates := t.gates.set 9 { running := true, longest := List.replicate 8 (some w) } }).updPort 73 fun p => { p with cfg := 0x3DB }
structure Gated (s : State) (w : Nat) : Prop where
  on : Quiet s ∧ (s.swc 1).admitQ = [cp 3] ∧ s.stage = 0 ∧ s.energyClass 1 2 1 73 ≠ 3 ∧ (s.qprof 1 17 1).getLsbD 19 = false
  frame : (s.frame 3).final = true ∧ (s.frame 3).cut = false ∧ portSlice (s.frame 3).inport.val = 1
  free : s.admission 1 (portClass 73 1) 4 (((s.frame 3).bytes.length + 255) / 256) = some (0, 0, 1)
  head : s.portState 73 = 7 ∧ s.portQueues 73 = [] ∧ s.queue 1 17 = []
  gates : s.gatesAct 1 9 = true ∧ ((s.tmg 1).gates.get 9).longest[1]? = some (some w)
/-- Hypotheses of `CopiesAreAdmittedAndSpilled`, `CopiesAreAdmitted` that can be met. -/
theorem test_witness_CopiesAreAdmitted :
    (∃ s, Gated s 5) ∧ (∃ s, Gated s 900) ∧
    (∃ s : State, ∃ sl : Slice, ∃ c : Copy, ∃ r : List Copy, SwitchOn s sl ∧ (s.swc sl).admitQ = c :: r ∧
        c.eslice = sl.val ∧ GoodFrame (s.frame c.fid) ∧ (s.frame c.fid).cut = false ∧
        portSlice (s.frame c.fid).inport.val = sl ∧ s.stage = 0 ∧ c.ecnCap = false ∧
        s.inBlockReset (slInst .tmg sl) = false ∧ s.energyClass sl (c.queue / 8) (c.queue % 8) c.port ≠ 3 ∧
        (s.qprof sl c.queue 1).getLsbD 19 = false ∧
        Settled { s with swcs := s.swcs.set sl.val { s.swc sl with admitQ := r } } c.fid ∧
        (s.gatesAct (portSlice c.port) (c.port % 64) = false ∨ s.portState c.port ≠ 7) ∧ ∃ a, ∃ b, ∃ m,
        s.admission sl (portClass c.port (c.queue % 8)) c.tid (((s.frame c.fid).bytes.length + 255) / 256) = some (a, b,
        m)) ∧
    (∃ s : State, ∃ sl : Slice, ∃ c : Copy, ∃ r : List Copy, SwitchOn s sl ∧ (s.swc sl).admitQ = c :: r ∧
        c.eslice = sl.val ∧ GoodFrame (s.frame c.fid) ∧ (s.frame c.fid).cut = false ∧
        portSlice (s.frame c.fid).inport.val = sl ∧ s.stage = 0 ∧ c.ecnCap = false ∧
        s.inBlockReset (slInst .tmg sl) = false ∧ s.energyClass sl (c.queue / 8) (c.queue % 8) c.port ≠ 3 ∧
        (s.qprof sl c.queue 1).getLsbD 19 = false ∧
        Settled { s with swcs := s.swcs.set sl.val { s.swc sl with admitQ := r } } c.fid ∧
        (s.gatesAct (portSlice c.port) (c.port % 64) = false ∨ s.portState c.port ≠ 7 ∨ s.portQueues c.port = []) ∧
        s.admission sl (portClass c.port (c.queue % 8)) c.tid (((s.frame c.fid).bytes.length + 255) / 256) = none) :=
  ⟨⟨gated 5, by constructor <;> decide +kernel⟩, ⟨gated 900, by constructor <;> decide +kernel⟩,
   ⟨pick vals12 0, 1, cp 3, [], by
      and_intros <;> first
        | decide +kernel | (constructor <;> decide +kernel)
        | (unfold Settled; decide +kernel) | exact .inl (by decide +kernel) | exact ⟨0, 0, 1, by decide +kernel⟩⟩,
   ⟨pick vals12 2, 1, cp 3, [], by
      and_intros <;> first
        | decide +kernel | (constructor <;> decide +kernel)
        | (unfold Settled; decide +kernel) | exact .inl (by decide +kernel)⟩⟩
/-- Hypotheses of `FabricRingsAndReserves`, `CellsCrossTheFabric` that can be met. -/
theorem test_witness_CellsCrossTheFabric :
    (∃ s : State, ∃ l : Link, Quiet s ∧ s.linkRuns l = true ∧ ∃ f, ∃ r, (s.link l.src l.dst).waiting = f :: r) ∧
    (∃ s : State, ∃ l : Link, Quiet s ∧ ∃ f, ∃ r, (s.link l.src l.dst).flying = f :: r ∧ f ∈ r ∧
        portSlice (s.frame f).inport.val = l.src) ∧
    (∃ s : State, ∃ l : Link, Quiet s ∧ ∃ f, (s.link l.src l.dst).flying = [f] ∧ f ∉ (s.link l.src l.dst).waiting ∧
        portSlice (s.frame f).inport.val = l.src ∧
        Settled { s with links := s.links.set (4 * l.src.val + l.dst.val) { s.link l.src l.dst with flying := [] } } f ∧
        (s.frame f).final = true ∧ (s.frame f).ingCells ≤ s.regF (slInst .swc l.src) R.SWC_INGUSE 0 19) ∧
    (∃ s : State, ∃ l : Link, Quiet s ∧ (s.link l.src l.dst).flying ≠ [] ∧ (s.link l.src l.dst).fails = 7 ∧ ReportOnly s 90) ∧
    (∃ s : State, ∃ l : Link, Quiet s ∧ (s.link l.src l.dst).flying ≠ [] ∧ (s.link l.src l.dst).fails ≠ 7 ∧ ReportOnly s 90) ∧
    (∃ s : State, ∃ l : Link, Quiet s ∧ (s.link l.src l.dst).retraining = true ∧
        (s.link l.src l.dst).retrainFails < 2) ∧
    (∃ s : State, ∃ l : Link, Quiet s ∧ (s.link l.src l.dst).retraining = true ∧ (s.link l.src l.dst).retrainFails = 2 ∧
        ReportOnly s 91 ∧ ReportOnly s (56 + l.dst.val)) :=
  ⟨⟨frs (({} : State).updLink 1 2 fun y => {y with waiting := [3], flying := [3,3]}), ⟨1, 2⟩, by decide +kernel,
      by decide +kernel, 3, [], by decide +kernel⟩,
   ⟨frs (({} : State).updLink 1 2 fun y => {y with waiting := [3], flying := [3,3]}), ⟨1, 2⟩, by decide +kernel, 3, [3],
       by and_intros <;> decide +kernel⟩,
   ⟨(frs (({} : State).updLink 1 2 fun y => { y with flying := [3] })).setRegF (slInst .swc 1) R.SWC_INGUSE 0 19 4, ⟨1, 2⟩,
       by decide +kernel, 3, by and_intros <;> first | decide +kernel | (unfold Settled; decide +kernel)⟩,
   ⟨(({} : State).updLink 1 2 fun y => { y with flying := [3, 3], fails := 7 }).setEnt flt4 4 90 0 1, ⟨1, 2⟩, by and_intros <;> first | decide +kernel | (constructor <;> decide +kernel)⟩,
   ⟨(({} : State).updLink 1 2 fun y => { y with flying := [3, 3] }).setEnt flt4 4 90 0 1, ⟨1, 2⟩, by and_intros <;> first | decide +kernel | (constructor <;> decide +kernel)⟩,
   ⟨({} : State).updLink 1 2 fun y => {y with retraining := true, fails := 8}, ⟨1, 2⟩, by and_intros <;> decide +kernel⟩,
   ⟨((({} : State).updLink 1 2 fun y => { y with retraining := true, retrainFails := 2 }).setEnt flt4 4 91 0 1).setEnt flt4 4 58 0 1,
       ⟨1, 2⟩, by and_intros <;> first | decide +kernel | (constructor <;> decide +kernel)⟩⟩
/-- Hypotheses of `CopiesAreAdmittedAndSpilled`, `CopiesSpillAndDrain` that can be met. -/
theorem test_witness_CopiesSpillAndDrain :
    (∃ s : State, ∃ sl : Slice, Quiet s ∧ s.inBlockReset (slInst .swc sl) = false ∧ s.awake sl = false ∧
        (s.swc sl).spillQ ≠ [] ∧ s.failed sl = false) ∧
    (∃ s : State, ∃ sl : Slice, ∃ q : Fin 524288, ∃ c : Copy, SwitchOn s sl ∧ s.queue sl q.val = [c] ∧ c.gone = false ∧
        c.eslice = sl.val ∧ c.queue = q.val ∧ (s.swc sl).spillQ = [(q.val, c.cid)] ∧ c.deep = none ∧
        (s.frame c.fid).final = true ∧ s.cellsHere c.fid sl = true ∧ ∃ a, (s.spillBuffer sl c 1).1 = some a) ∧
    (∃ s : State, ∃ sl : Slice, ∃ q : Fin 524288, ∃ c : Copy, SwitchOn s sl ∧ s.queue sl q.val = [c] ∧ c.gone = false ∧
        c.eslice = sl.val ∧ c.queue = q.val ∧ (s.swc sl).spillQ = [(q.val, c.cid)] ∧ c.deep = none ∧
        (s.frame c.fid).final = true ∧ s.cellsHere c.fid sl = true ∧ (s.spillBuffer sl c 1).1 = none ∧ s.stage < 2) ∧
    (∃ s : State, ∃ sl : Slice, ∃ q : Fin 524288, ∃ c : Copy, SwitchOn s sl ∧ s.queue sl q.val = [c] ∧ c.gone = false ∧
        c.eslice = sl.val ∧ c.queue = q.val ∧ ∃ a, (s.swc sl).spilling = [(q.val, c.cid)] ∧ c.deep = some a ∧
        s.deepServes sl 0 a c.deepBytes = true) ∧
    (∃ s : State, ∃ sl : Slice, ∃ q : Fin 524288, ∃ c : Copy, SwitchOn s sl ∧ s.queue sl q.val = [c] ∧ c.gone = false ∧
        c.eslice = sl.val ∧ c.queue = q.val ∧ ∃ a, c.deep = some a ∧ c.a + c.b + c.s = 0 ∧ (s.swc sl).draining = [] ∧
        s.inBlockReset (slInst .dtc sl) = false ∧ s.throttled sl 1 = false ∧ s.gov.drain5 = false) ∧
    (∃ s : State, ∃ sl : Slice, ∃ q : Fin 524288, ∃ c : Copy, SwitchOn s sl ∧ s.queue sl q.val = [c] ∧ c.gone = false ∧
        c.eslice = sl.val ∧ c.queue = q.val ∧ ∃ a, ∃ pa, ∃ pb, ∃ pn, c.deep = some a ∧
        s.deepServes sl 1 a c.deepBytes = true ∧ (s.swc sl).draining = [(q.val, c.cid)] ∧ s.stage < 3 ∧ (s.bpm sl).refs.get a = 2 ∧ s.bufferOffline sl a c.deepBytes = false ∧
        s.admission sl (portClass c.port (c.queue % 8)) c.tid ((c.len + 255) / 256) = some (pa, pb, pn)) :=
  ⟨⟨(pick vals19 0).setRegF (slInst .egv 1) R.EGV_SSTAT 8 2 2, 1, by and_intros <;> decide +kernel⟩,
   ⟨pick vals19 0, 1, 17, cp 3, by constructor <;> decide +kernel, by
      and_intros <;> first | decide +kernel | exact ⟨0, by decide +kernel⟩⟩,
   ⟨pick vals19 1, 1, 17, cp 3, by constructor <;> decide +kernel, by and_intros <;> decide +kernel⟩,
   ⟨pick vals19 3, 1, 17, { cp 3 with deep := some 65536, a := 2 }, by constructor <;> decide +kernel, by decide +kernel,
       by decide +kernel, by decide +kernel, by decide +kernel, 65536, by and_intros <;> decide +kernel⟩,
   ⟨pick vals19 4, 1, 17, { cp 3 with deep := some 65536, len := 304 }, by constructor <;> decide +kernel,
       by decide +kernel, by decide +kernel, by decide +kernel, by decide +kernel, 65536, by and_intros <;> decide +kernel⟩,
   ⟨pick vals19 6, 1, 17, { cp 3 with deep := some 65536, len := 304 }, by constructor <;> decide +kernel,
       by decide +kernel, by decide +kernel, by decide +kernel, by decide +kernel, 65536, 0, 0, 2, by and_intros <;> decide +kernel⟩⟩
/-- Hypotheses of `FabricRingsAndReserves`, `SwitchRingsAndReserves` that can be met. -/
theorem test_witness_SwitchRingsAndReserves :
    (∃ s : State, ∃ sl : Slice, SwitchOn s sl ∧ Reached s (slInst .swc sl) ∧ ∃ pc : Fin 512, ∃ v : Word,
        (s.setEnt (slInst .swc sl) 0 pc.val 0 (v &&& winMaskAt (slInst .swc sl) 0 pc.val 0)).takenCells sl + 4096 ≤ 393216) ∧
    (∃ s : State, ∃ sl : Slice, SwitchOn s sl ∧ Reached s (slInst .swc sl) ∧ ∃ pc : Fin 512, ∃ v : Word,
        393216 < (s.setEnt (slInst .swc sl) 0 pc.val 0 (v &&& winMaskAt (slInst .swc sl) 0 pc.val 0)).takenCells sl + 4096) ∧
    (∃ s : State, ∃ sl : Slice, SwitchOn s sl ∧ Reached s swc4 ∧ ∃ v : Word, v.getLsbD 8 = true) ∧
    (∃ s : State, ∃ sl : Slice, SwitchOn s sl ∧ ∃ b, ∃ r, s.regB swc4 R.SWC_HRCFG 8 = true ∧
        s.inBlockReset hif4 = false ∧ s.hif.puntRr = sl.val ∧ (s.swc sl).captures = b :: r ∧ b.length = 64 ∧
        ((s.regF swc4 R.SWC_HRHEAD 0 20) + 1) % (2 ^ max 6 (min 20 (s.regF swc4 R.SWC_HRCFG 0 5))) = s.regF swc4 R.SWC_HRTAIL 0 20) ∧
    (∃ s : State, ∃ sl : Slice, SwitchOn s sl ∧ ∃ b, ∃ r, s.regB swc4 R.SWC_HRCFG 8 = true ∧
        s.inBlockReset hif4 = false ∧ s.hif.puntRr = sl.val ∧ (s.swc sl).captures = b :: r ∧ b.length = 64 ∧
        ((s.regF swc4 R.SWC_HRHEAD 0 20) + 1) % (2 ^ max 6 (min 20 (s.regF swc4 R.SWC_HRCFG 0 5))) ≠ s.regF swc4 R.SWC_HRTAIL 0 20) ∧
    (∃ s : State, ∃ sl : Slice, SwitchOn s sl ∧ s.regB (slInst .swc sl) R.SWC_CTRL 0 = true ∧
        s.taskActs sl 16 = true ∧ (∀ k ∈ (s.swc sl).leaked, k ∉ (s.swc sl).suspect)) ∧
    (∃ s : State, ∃ sl : Slice, SwitchOn s sl ∧ s.regB (slInst .swc sl) R.SWC_CTRL 0 = true ∧
        s.taskActs sl 16 = true ∧ ∃ k, (s.swc sl).leaked = [k] ∧ k ∈ (s.swc sl).suspect ∧ ReportOnly s (srcOf 13 sl)) :=
  ⟨⟨up {}, 1, by constructor <;> decide +kernel, by constructor <;> decide +kernel, 0, 0, by decide +kernel⟩,
   ⟨up {}, 1, by constructor <;> decide +kernel, by constructor <;> decide +kernel, 0, 0x7F7FFFF, by decide +kernel⟩,
   ⟨up {}, 1, by constructor <;> decide +kernel, by constructor <;> decide +kernel, 0x7F7FFFF, by decide +kernel⟩,
   ⟨(cap (served {})).setReg swc4 R.SWC_HRTAIL 1, 1, by constructor <;> decide +kernel, by1 64, [], by and_intros <;> decide +kernel⟩,
   ⟨cap (served {}), 1, by constructor <;> decide +kernel, by1 64, [], by and_intros <;> decide +kernel⟩,
   ⟨leaky [7, 9] [], 1, by constructor <;> decide +kernel, by and_intros <;> decide +kernel⟩,
   ⟨leaky [7] [7], 1, by constructor <;> decide +kernel, by decide +kernel, by decide +kernel, 7, by decide +kernel,
       by decide +kernel, by constructor <;> decide +kernel⟩⟩
/-- Hypotheses of `PuntsAndInjections` that can be met. -/
theorem test_witness_PuntsAndInjections :
    (∃ s : State, Quiet s ∧ s.inBlockReset hif4 = false ∧ ∃ sl : Slice, ∃ p : PuntItem, ∃ r : List PuntItem,
        s.hif.puntRr = sl.val ∧ SwitchOn s sl ∧ (s.swc sl).punts = p :: r ∧ s.puntReady p = true ∧
        s.puntOn p.ring = false) ∧
    (∃ s : State, Quiet s ∧ s.inBlockReset hif4 = false ∧ ∃ sl : Slice, ∃ p : PuntItem, ∃ r : List PuntItem,
        s.hif.puntRr = sl.val ∧ SwitchOn s sl ∧ (s.swc sl).punts = p :: r ∧ s.puntReady p = true ∧
        s.puntOn p.ring = true ∧ ∃ k addr, BufferFor s p.ring (if p.kind = 2 then p.bytes else (s.frame p.fid).bytes).length k addr) ∧
    (∃ s : State, Quiet s ∧ s.inBlockReset hif4 = false ∧ ∃ ring : Fin 64, ∃ cls : Fin 4,
        s.puntOn ring.val = true ∧ fld (s.ring (puntBlk ring.val) 5) 16 14 ≠ fld (s.ring (puntBlk ring.val) 5) 0 14 ∧
        ((s.hif.rings.get ring.val).cache.countP fun p => p.1 = cls.val) < 16) ∧
    (∃ s : State, Quiet s ∧ s.inBlockReset hif4 = false ∧ ∃ ring : Fin 64, s.injTurn = some ring.val ∧ s.injOn ring.val = true ∧
        fld (s.ring (injBlk ring.val) 3) 16 14 ≠ fld (s.ring (injBlk ring.val) 3) 0 14) ∧
    (∃ s : State, Quiet s ∧ s.inBlockReset hif4 = false ∧ ∃ ring : Fin 64, ∃ desc : List Byte, s.injTurn = some ring.val ∧
        s.injOn ring.val = true ∧ fld (s.ring (injBlk ring.val) 3) 16 14 ≠ fld (s.ring (injBlk ring.val) 3) 0 14 ∧
        (¬ (((((desc[10]?).getD 0).toNat) = 1 ∨ (((desc[10]?).getD 0).toNat) = 2) ∧ 60 ≤ (ofLe (slice desc 8 2)) ∧
        (ofLe (slice desc 8 2)) ≤ 16379 ∧
        s.injectAllowed (s.ringOwner false ring.val) (((desc[10]?).getD 0).toNat) (BitVec.ofNat 32 (ofLe (slice desc 12 4))) = true))) ∧
    (∃ s : State, Quiet s ∧ s.inBlockReset hif4 = false ∧ ∃ ring : Fin 64, ∃ desc : List Byte, s.injTurn = some ring.val ∧
        s.injOn ring.val = true ∧ fld (s.ring (injBlk ring.val) 3) 16 14 ≠ fld (s.ring (injBlk ring.val) 3) 0 14 ∧
        ((((((desc[10]?).getD 0).toNat) = 1 ∨ (((desc[10]?).getD 0).toNat) = 2) ∧ 60 ≤ (ofLe (slice desc 8 2)) ∧
        (ofLe (slice desc 8 2)) ≤ 16379 ∧
        s.injectAllowed (s.ringOwner false ring.val) (((desc[10]?).getD 0).toNat) (BitVec.ofNat 32 (ofLe (slice desc 12 4))) = true)) ∧ SwitchOn s (Fin.ofNat 4 (((desc[20]?).getD 0).toNat % 4)) ∧ s.regF (slInst .swc (Fin.ofNat 4 (((desc[20]?).getD 0).toNat % 4))) R.SWC_INGUSE 0 19 + ((ofLe (slice desc 8 2)) + 4 + 255) / 256 ≤ s.regF (slInst .swc (Fin.ofNat 4 (((desc[20]?).getD 0).toNat % 4))) R.SWC_INGRSV 0 19) :=
  ⟨⟨{(s0).updSwc 1 fun x => {x with punts := [pi 0], puntUse := 9} with hif := {puntRr := 1}}, by decide +kernel,
      by decide +kernel, 1, pi 0, [], by decide +kernel, by constructor <;> decide +kernel, by and_intros <;> decide +kernel⟩,
   ⟨(ringS s0).updSwc 1 fun x => {x with punts := [pi 2, pi 0], puntUse := 9}, by decide +kernel, by decide +kernel, 1,
       pi 2, [pi 0], by decide +kernel, by constructor <;> decide +kernel, by decide +kernel, by decide +kernel,
       by decide +kernel, 1, 0x88, by decide +kernel,
       fun j hj => by have := hj.1; interval_cases j <;> revert hj <;> decide +kernel, by decide +kernel⟩,
   ⟨(ringS s0).updSwc 1 fun x => {x with punts := [pi 2, pi 0], puntUse := 9}, by decide +kernel, by decide +kernel, 5,
       1, by and_intros <;> decide +kernel⟩,
   ⟨(ringS s0).updSwc 1 fun x => {x with punts := [pi 2, pi 0], puntUse := 9}, by decide +kernel, by decide +kernel, 5,
       by decide +kernel, by decide +kernel⟩,
   ⟨(ringS s0).updSwc 1 fun x => {x with punts := [pi 2, pi 0], puntUse := 9}, by decide +kernel, by decide +kernel, 5,
       injD 1 59 1, by and_intros <;> decide +kernel⟩,
   ⟨(ringS s0).updSwc 1 fun x => {x with punts := [pi 2, pi 0], puntUse := 9}, by decide +kernel, by decide +kernel, 5,
       injD 1 60 1, by and_intros <;> first | decide +kernel | (constructor <;> decide +kernel)⟩⟩

end Copies

namespace Deep

def ro (n : Nat) (s : State) : State := s.setEnt flt4 4 n 0 1
def c5 (s : State) (st : Nat) : State := s.setChF 5 R.DTC_CSTAT 0 3 st
def mem1 (s : State) : State := (forAll [5,6,7] (fun c t => t.setChF c R.DTC_CCFG 1 1 0) s)
def dimm (w : Word) (s : State) : State := s.setReg (chInst 5) (chOff 5 R.DTC_DIMM) w
def vals5 : List State := [0,1,2,3,4].flatMap fun st => [c5 (up {}) st, c5 (dimm 0x03 (up {})) st, c5 (dimm 0x21 (up {})) st,
    c5 ((dimm 0x07 (up {})).setChF 5 R.DTC_TRNCTL 4 6 6) st]
def bfu (s : State) : State := s.setReg (slInst .bpm 1) R.BPM_BUFUSE 7
def vals7 : List State := [0,1,2,3,4].flatMap fun st => [c5 (up {}) st, c5 ((up {}).setChF 5 R.DTC_CCFG 0 1 1) st,
    bfu (c5 (up {}) st), c5 ((up {}).setReg (slInst .bpm 1) R.BPM_CTRL 1) st,
        c5 ((up {}).setChF 4 R.DTC_CCFG 1 1 0) st, ro 61 (c5 (up {}) st)]
def ch (f : ChanSt → ChanSt) (s : State) : State := s.updChan 5 f
def kk (r : Nat) : Nat := ((r * 8 + 5) * 8 + 5) * 4 + 2
def hs : List State := [(up {}), ch (fun x => {x with
        coolReads := x.coolReads.set 5 1, raa := (x.raa.set 3 5).set (kk 5) 200, throttled := [2, 1],
        heel := (x.heel.set (kk 5) [⟨7, 4⟩, ⟨9, 5⟩]).set (kk 0) [⟨9,1⟩]}) (up {}),
  (ro 73 (ch (fun x => {x with  heel := (x.heel.set (kk 5) [⟨7, 4⟩, ⟨9, 5⟩]).set (kk 0) [⟨9,1⟩]}) ({} :
      State))).setChF 5 R.DTC_HEELCFG 0 16 5,
  (ch (fun x => {x with coolReads := x.coolReads.set 5 1, raa := (x.raa.set 3 5).set (kk 5) 200}) (up {})).setChF
      5 (R.DTC_DIMM + 4) 16 8 2]
def vals12 : List State := (hs.map fun s => (s.setRankPwr 5 0 0).setRankPwr 5 5 0).map fun s => if s.chF 5 R.DTC_HEELCFG 0 16 = 0 then s.setChF 5 R.DTC_HEELCFG 0 16 50 else s
def loc : DeepLoc := ⟨3, 77, 0, 1, 2, 3, 4⟩
def on (s : State) : State := (fun s => (s.setRankPwr 5 0 0).setRankPwr 5 5 0) <| (c5 (s.setChF 5 R.DTC_ECCCFG 16 1 1) 3).updBpm 1 fun b => {b with pageOwner := b.pageOwner.set 77 1}
def cpS : State :=
  let s := (mem1 (c5 (up {}) 0)).setChF 4 R.DTC_CSTAT 0 3 3
  let s := ((s.setChF 4 R.DTC_PWRCFG 11 1 1).setReg (chInst 4) (chOff 4 R.DTC_DIMM) 0x07).setChF 4 R.DTC_SIZE 0 26 100
  let s := s.setReg (slInst .bpm 1) R.BPM_CTRL 1
  let s := s.updBpm 1 fun b => {b with
          pageOwner := (b.pageOwner.set 10 1).set 60 1, refs := (b.refs.set (10 * 65536) 2).set (60 * 65536 + 512) 1}
  s.setQueue 1 17 [{ cid := 5, fid := 3, deep := some (60 * 65536 + 512), port := 73 }]
def runs (n : Nat) (s : State) : State := s.updEgv 1 fun e => { e with tasks := [(n, 0)] }
/-- A port's bucket of channels 4 and 5 that lacks more than BURST. -/
def short (p : Nat) (s : State) : State := forAll [4, 5] (fun c t => t.updChan c fun x => { x with short := x.short.set p (10 ^ 12) }) s
/-- A write of the housekeeping port that waits, and a channel that is no member. -/
def waits (s : State) : State :=
  (s.setChF 6 R.DTC_CCFG 1 1 0).updBpm 1 fun b => { b with hkWrite := some ⟨77 * 65536 + 512, 256, none⟩ }
def scrubS : State := (runs 17 (on (dimm 0x07 (up {})))).setChF 5 R.DTC_SIZE 0 26 1000
/-- Hypotheses of `ChannelsAreTrainedAndOnline`, `ChannelsAreTrained` that can be met. -/
theorem test_witness_ChannelsAreTrained :
    (∃ s : State, ∃ ch : Reg, Reached s (chInst ch.val) ∧ ∃ v : Word, s.chReg ch.val (R.DTC_DIMM + 4) = 0 ∧
        s.chF ch.val R.DTC_CCFG 4 3 ≤ 5 ∧
        (((s.chF ch.val R.DTC_CSTAT 0 3) = 0 ∨ (s.chF ch.val R.DTC_CSTAT 0 3) = 2 ∨ (s.chF ch.val R.DTC_CSTAT 0 3) = 4)) ∧ v.getLsbD 0 = true ∧ gibOf (v &&& 0x00FF01FF) ≤ 1024 ∧ (((v &&& 0x00FF01FF).getLsbD 1 = true ∨ fld (v &&& 0x00FF01FF) 4 2 = 0)) ∧ fld (v &&& 0x00FF01FF) 2 2 ≠ 3) ∧
    (∃ s : State, ∃ ch : Reg, Reached s (chInst ch.val) ∧ ∃ v : Word, s.chReg ch.val (R.DTC_DIMM + 4) = 0 ∧
        s.chF ch.val R.DTC_CCFG 4 3 ≤ 5 ∧
        (((s.chF ch.val R.DTC_CSTAT 0 3) = 0 ∨ (s.chF ch.val R.DTC_CSTAT 0 3) = 2 ∨ (s.chF ch.val R.DTC_CSTAT 0 3) = 4)) ∧ v.getLsbD 0 = true ∧ (1024 < gibOf (v &&& 0x00FF01FF) ∨ ((v &&& 0x00FF01FF).getLsbD 1 = false ∧ fld (v &&& 0x00FF01FF) 4 2 ≠ 0) ∨ fld (v &&& 0x00FF01FF) 2 2 = 3)) ∧
    (∃ s : State, ∃ ch : Reg, Reached s (chInst ch.val) ∧ s.chReg ch.val (R.DTC_DIMM + 4) = 0 ∧
        s.chF ch.val R.DTC_CCFG 4 3 ≤ 5 ∧ ((s.chF ch.val R.DTC_CSTAT 0 3) = 1 ∨ (s.chF ch.val R.DTC_CSTAT 0 3) = 3)) ∧
    (∃ s : State, ∃ ch : Reg, Reached s (chInst ch.val) ∧ ∃ v : Word, v.getLsbD 0 = true ∧
        (s.chF ch.val R.DTC_CSTAT 0 3) = 3) ∧
    (∃ s : State, ∃ ch : Reg, Reached s (chInst ch.val) ∧ ∃ v : Word, v.getLsbD 0 = true ∧
        ((s.chF ch.val R.DTC_CSTAT 0 3) = 0 ∨ (s.chF ch.val R.DTC_CSTAT 0 3) = 2 ∨ (s.chF ch.val R.DTC_CSTAT 0 3) = 4) ∧
        s.trainRefused ch.val = false ∧ s.badCfg ch.val = false ∧ s.dimms ch.val ≠ []) ∧
    (∃ s : State, ∃ ch : Reg, Reached s (chInst ch.val) ∧ ∃ v : Word, v.getLsbD 0 = true ∧
        ((s.chF ch.val R.DTC_CSTAT 0 3) = 0 ∨ (s.chF ch.val R.DTC_CSTAT 0 3) = 2 ∨ (s.chF ch.val R.DTC_CSTAT 0 3) = 4) ∧
        s.trainRefused ch.val = false ∧ (s.badCfg ch.val = true ∨ s.dimms ch.val = [])) ∧
    (∃ s : State, ∃ ch : Reg, Reached s (chInst ch.val) ∧ ∃ lanes : List Word, (s.chF ch.val R.DTC_CSTAT 0 3) = 1 ∧
        lanes.length = 80 ∧ (((s.fittedLanes ch.val lanes).map (·.2)).all fun w => decide ((s.chF ch.val R.DTC_TRNCTL 4 6) ≤ fld w 16 8) && decide ((s.chF ch.val R.DTC_TRNCTL 4 6) ≤ fld w 24 8)) = true) ∧
    (∃ s : State, ∃ ch : Reg, Reached s (chInst ch.val) ∧ ∃ lanes : List Word, (s.chF ch.val R.DTC_CSTAT 0 3) = 1 ∧
        lanes.length = 80 ∧ (((s.fittedLanes ch.val lanes).map (·.2)).all fun w => decide ((s.chF ch.val R.DTC_TRNCTL 4 6) ≤ fld w 16 8) && decide ((s.chF ch.val R.DTC_TRNCTL 4 6) ≤ fld w 24 8)) = false) :=
  ⟨⟨pick vals5 0, 5, by constructor <;> decide +kernel, 1, by and_intros <;> decide +kernel⟩,
   ⟨pick vals5 0, 5, by constructor <;> decide +kernel, 0xFFFFFFFF, by and_intros <;> decide +kernel⟩,
   ⟨pick vals5 4, 5, by constructor <;> decide +kernel, by and_intros <;> decide +kernel⟩,
   ⟨pick vals5 12, 5, by constructor <;> decide +kernel, 1, by decide +kernel, by decide +kernel⟩,
   ⟨pick vals5 1, 5, by constructor <;> decide +kernel, 1, by and_intros <;> decide +kernel⟩,
   ⟨pick vals5 0, 5, by constructor <;> decide +kernel, 1, by and_intros <;> decide +kernel⟩,
   ⟨pick vals5 4, 5, by constructor <;> decide +kernel, List.replicate 80 0x20200000, by and_intros <;> decide +kernel⟩,
   ⟨pick vals5 7, 5, by constructor <;> decide +kernel, (List.replicate 80 0x20200000).set 11 0x04200000,
       by and_intros <;> decide +kernel⟩⟩
/-- Hypotheses of `ChannelsAreTrainedAndOnline`, `ChannelsGoOnline` that can be met. -/
theorem test_witness_ChannelsGoOnline :
    (∃ s : State, ∃ ch : Reg, Reached s (chInst ch.val) ∧ ∃ v : Word,
        v.getLsbD 1 = (s.chReg ch.val R.DTC_CCFG).getLsbD 1 ∧ v.getLsbD 0 = true ∧
        (s.chReg ch.val R.DTC_CCFG).getLsbD 0 = false ∧ (s.chF ch.val R.DTC_CSTAT 0 3) = 2 ∧ ((∀ p,
        p < 4 → s.reg (slInst .bpm (chSlice ch.val)) (R.BPM_BUFUSE + 4 * p) = 0))) ∧
    (∃ s : State, ∃ ch : Reg, Reached s (chInst ch.val) ∧ ∃ v : Word,
        v.getLsbD 1 = (s.chReg ch.val R.DTC_CCFG).getLsbD 1 ∧ v.getLsbD 0 = true ∧
        (s.chReg ch.val R.DTC_CCFG).getLsbD 0 = false ∧ (s.chF ch.val R.DTC_CSTAT 0 3) = 2 ∧ (¬ (∀ p,
        p < 4 → s.reg (slInst .bpm (chSlice ch.val)) (R.BPM_BUFUSE + 4 * p) = 0))) ∧
    (∃ s : State, ∃ ch : Reg, Reached s (chInst ch.val) ∧ ∃ v : Word,
        v.getLsbD 1 = (s.chReg ch.val R.DTC_CCFG).getLsbD 1 ∧ v.getLsbD 0 = false ∧ (s.chF ch.val R.DTC_CSTAT 0 3) = 3 ∧
        NoSpill s ch.val) ∧
    (∃ s : State, ∃ ch : Reg, Reached s (chInst ch.val) ∧ ∃ v : Word,
        v.getLsbD 1 ≠ (s.chReg ch.val R.DTC_CCFG).getLsbD 1 ∧ v.getLsbD 0 = (s.chReg ch.val R.DTC_CCFG).getLsbD 0 ∧
        v.getLsbD 0 = false ∧ (s.chF ch.val R.DTC_CSTAT 0 3) = 0 ∧
        (s.regB (slInst .bpm (chSlice ch.val)) R.BPM_CTRL 0 = false ∧ (∀ p,
        p < 4 → s.reg (slInst .bpm (chSlice ch.val)) (R.BPM_BUFUSE + 4 * p) = 0))) ∧
    (∃ s : State, ∃ ch : Reg, Reached s (chInst ch.val) ∧ ∃ v : Word,
        v.getLsbD 1 ≠ (s.chReg ch.val R.DTC_CCFG).getLsbD 1 ∧ v.getLsbD 0 = (s.chReg ch.val R.DTC_CCFG).getLsbD 0 ∧
        v.getLsbD 0 = false ∧ (s.chF ch.val R.DTC_CSTAT 0 3) = 0 ∧
        (¬ (s.regB (slInst .bpm (chSlice ch.val)) R.BPM_CTRL 0 = false ∧ (∀ p,
        p < 4 → s.reg (slInst .bpm (chSlice ch.val)) (R.BPM_BUFUSE + 4 * p) = 0)))) ∧
    (∃ s : State, ∃ ch : Reg, Reached s (chInst ch.val) ∧ Reached s (slInst .bpm (chSlice ch.val)) ∧ ∃ v : Word,
        (s.members (chSlice ch.val)).length = 3 ∧ v.getLsbD 0 = true) ∧
    (∃ s : State, ∃ ch : Reg, Reached s (chInst ch.val) ∧ Reached s (slInst .bpm (chSlice ch.val)) ∧
        (s.members (chSlice ch.val)).length ≠ 3) ∧
    (∃ s : State, ∃ ch : Reg, Reached s (chInst ch.val) ∧ (s.chF ch.val R.DTC_CSTAT 0 3) = 3 ∧ NoSpill s ch.val ∧
        ReportOnly s (60 + (chSlice ch.val).val)) :=
  ⟨⟨pick vals7 12, 5, by constructor <;> decide +kernel, 3, by and_intros <;> decide +kernel⟩,
   ⟨pick vals7 14, 5, by constructor <;> decide +kernel, 3, by and_intros <;> decide +kernel⟩,
   ⟨pick vals7 18, 5, by constructor <;> decide +kernel, 2, by and_intros <;> first | decide +kernel | (unfold NoSpill; decide +kernel)⟩,
   ⟨pick vals7 0, 5, by constructor <;> decide +kernel, 0, by and_intros <;> decide +kernel⟩,
   ⟨pick vals7 2, 5, by constructor <;> decide +kernel, 0, by and_intros <;> decide +kernel⟩,
   ⟨pick vals7 4, 5, by constructor <;> decide +kernel, by constructor <;> decide +kernel, 1, by decide +kernel,
       by decide +kernel⟩,
   ⟨pick vals7 0, 5, by constructor <;> decide +kernel, by constructor <;> decide +kernel, by decide +kernel⟩,
   ⟨pick vals7 18, 5, by constructor <;> decide +kernel, by decide +kernel, by unfold NoSpill; decide +kernel,
       by constructor <;> decide +kernel⟩⟩
/-- Hypotheses of `RowsAreRefreshedRepairedAndMoved`, `RowsAreRefreshed` that can be met. -/
theorem test_witness_RowsAreRefreshed :
    (∃ s : State, ∃ ch : Reg, Quiet s ∧ s.failed (chSlice ch.val) = true) ∧
    (∃ s : State, ∃ ch : Reg, ∃ rank : Fin 8, Quiet s ∧ s.failed (chSlice ch.val) = false ∧ s.rankPwr ch.val rank.val = 0 ∧ ∃ above : Bool,
        above = true) ∧
    (∃ s : State, ∃ ch : Reg, ∃ rank : Fin 8, Quiet s ∧ s.failed (chSlice ch.val) = false ∧ s.rankPwr ch.val rank.val = 0 ∧ ∃ above : Bool,
        above = false ∧ 1 ≤ (s.chan ch.val).coolReads.get rank.val) ∧
    (∃ s : State, ∃ ch : Reg, ∃ rank : Fin 8, Quiet s ∧ s.failed (chSlice ch.val) = false ∧ s.rankPwr ch.val rank.val = 0 ∧
        (s.chan ch.val).raa.wf = true) ∧
    (∃ s : State, ∃ ch : Reg, ∃ rank : Fin 8, Quiet s ∧ s.failed (chSlice ch.val) = false ∧ ∃ lr : Fin 8, ∃ bg : Fin 8, ∃ bank : Fin 4,
        ∃ row : BitVec 18, (fld (s.chReg ch.val (R.DTC_DIMM + 4 * (rank.val / 4))) 16 8 * 8) = 0 ∧
        ((((s.chan ch.val).heel.get (((rank.val * 8 + lr.val) * 8 + bg.val) * 4 + bank.val)).length < 8 ∨ ((tracked ((s.chan ch.val).heel.get (((rank.val * 8 + lr.val) * 8 + bg.val) * 4 + bank.val)) row.toNat).getD 0) ≠ 0)) ∧ ((tracked ((s.chan ch.val).heel.get (((rank.val * 8 + lr.val) * 8 + bg.val) * 4 + bank.val)) row.toNat).getD 0) + 1 < (max 1 (s.chF ch.val R.DTC_HEELCFG 0 16))) ∧
    (∃ s : State, ∃ ch : Reg, ∃ rank : Fin 8, Quiet s ∧ s.failed (chSlice ch.val) = false ∧ ∃ lr : Fin 8, ∃ bg : Fin 8, ∃ bank : Fin 4,
        ∃ row : BitVec 18, (fld (s.chReg ch.val (R.DTC_DIMM + 4 * (rank.val / 4))) 16 8 * 8) = 0 ∧
        0 < ((tracked ((s.chan ch.val).heel.get (((rank.val * 8 + lr.val) * 8 + bg.val) * 4 + bank.val)) row.toNat).getD 0) ∧ ((tracked ((s.chan ch.val).heel.get (((rank.val * 8 + lr.val) * 8 + bg.val) * 4 + bank.val)) row.toNat).getD 0) + 1 = (max 1 (s.chF ch.val R.DTC_HEELCFG 0 16)) ∧ ReportOnly s (72 + (chSlice ch.val).val)) ∧
    (∃ s : State, ∃ ch : Reg, Quiet s ∧ s.failed (chSlice ch.val) = false) ∧
    (∃ s : State, ∃ ch : Reg, Quiet s ∧ s.failed (chSlice ch.val) = false ∧ (s.chan ch.val).heel.wf = true) :=
  ⟨⟨(up {}).setRegB knl4 R.KNL_BOOT 13 true, 5, by decide +kernel, by decide +kernel⟩,
   ⟨pick vals12 0, 5, 0, by decide +kernel, by decide +kernel, by decide +kernel, true, by decide +kernel⟩,
   ⟨pick vals12 1, 5, 5, by decide +kernel, by decide +kernel, by decide +kernel, false, by decide +kernel, by decide +kernel⟩,
   ⟨pick vals12 0, 5, 0, by and_intros <;> decide +kernel⟩,
   ⟨pick vals12 0, 5, 0, by decide +kernel, by decide +kernel, 0, 0, 0, 7, by and_intros <;> decide +kernel⟩,
   ⟨pick vals12 2, 5, 5, by decide +kernel, by decide +kernel, 5, 5, 2, 7, by and_intros <;> first | decide +kernel | (constructor <;> decide +kernel)⟩,
   ⟨pick vals12 0, 5, by decide +kernel, by decide +kernel⟩,
   ⟨pick vals12 0, 5, by and_intros <;> decide +kernel⟩⟩
/-- Hypotheses of `RowsAreRefreshedRepairedAndMoved`, `RowsAreRepairedAndRanksRest` that can be met. -/
theorem test_witness_RowsAreRepairedAndRanksRest :
    (∃ s : State, ∃ ch : Reg, ∃ loc : DeepLoc, ∃ unc : Bool, Quiet s ∧ 2 ≤ s.sleep (chSlice ch.val) ∧
        s.failed (chSlice ch.val) = false ∧ (s.chan ch.val).candidates = [(loc, unc)] ∧
        (s.bpm (chSlice ch.val)).pageOwner.get loc.page.toNat = 0) ∧
    (∃ s : State, ∃ ch : Reg, ∃ k : Nat, ∃ block : BitVec 33, Reached s (chInst ch.val) ∧ s.taskActs (chSlice ch.val) 17 = true ∧
        ch.val ∈ s.members (chSlice ch.val) ∧
        k = block.toNat * (s.members (chSlice ch.val)).length + (s.members (chSlice ch.val)).idxOf ch.val ∧
        s.chF ch.val R.DTC_ECCCFG 16 1 = 1 ∧ s.chF ch.val R.DTC_CSTAT 0 3 = 3 ∧
        (s.bpm (chSlice ch.val)).pageOwner.get (k / 256) ≠ 0 ∧
        s.rankPwr ch.val (s.rankNo ch.val (s.pageRank ch.val (k / 256))) ≤ 1 ∧ (s.bpm (chSlice ch.val)).hkWrite = none ∧
        (s.setHkRead (chSlice ch.val) none).deepServes (chSlice ch.val) 2 (k * 256) 256 = false) ∧
    (∃ s : State, ∃ ch : Reg, ∃ w : HkWrite, Reached s (chInst ch.val) ∧ s.taskActs (chSlice ch.val) 17 = true ∧
        ch.val ∉ s.members (chSlice ch.val) ∧ (s.bpm (chSlice ch.val)).hkWrite = some w ∧
        s.writeStands (chSlice ch.val) w = true ∧ s.deepServes (chSlice ch.val) 2 w.addr w.bytes = true) ∧
    (∃ s : State, ∃ ch : Reg, ∃ w : HkWrite, Reached s (chInst ch.val) ∧ s.taskActs (chSlice ch.val) 17 = true ∧
        ch.val ∉ s.members (chSlice ch.val) ∧ (s.bpm (chSlice ch.val)).hkWrite = some w ∧
        s.writeStands (chSlice ch.val) w = true ∧ s.deepServes (chSlice ch.val) 2 w.addr w.bytes = false) ∧
    (∃ s : State, ∃ ch : Reg, ∃ k : Nat, ∃ block : BitVec 33, Reached s (chInst ch.val) ∧ s.taskActs (chSlice ch.val) 17 = true ∧
        ch.val ∈ s.members (chSlice ch.val) ∧
        k = block.toNat * (s.members (chSlice ch.val)).length + (s.members (chSlice ch.val)).idxOf ch.val ∧
        s.chF ch.val R.DTC_ECCCFG 16 1 = 1 ∧ s.chF ch.val R.DTC_CSTAT 0 3 = 3 ∧
        (s.bpm (chSlice ch.val)).pageOwner.get (k / 256) ≠ 0 ∧
        s.rankPwr ch.val (s.rankNo ch.val (s.pageRank ch.val (k / 256))) ≤ 1 ∧
        (s.bpm (chSlice ch.val)).hkWrite = none ∧
        (s.setHkRead (chSlice ch.val) none).deepServes (chSlice ch.val) 2 (k * 256) 256 = true ∧ ReportOnly s (64 + (chSlice ch.val).val)) ∧
    (∃ s : State, ∃ ch : Reg, Reached s (chInst ch.val) ∧ ∃ v : Word, v.getLsbD 5 = true ∧
        (s.chan ch.val).repairing = false ∧ (s.chF ch.val R.DTC_CSTAT 0 3) = 2) ∧
    (∃ s : State, ∃ ch : Reg, Reached s (chInst ch.val) ∧ ∃ v : Word, v.getLsbD 5 = true ∧
        (s.chan ch.val).repairing = false ∧ ((s.chF ch.val R.DTC_CSTAT 0 3) = 0 ∨ (s.chF ch.val R.DTC_CSTAT 0 3) = 4)) ∧
    (∃ s : State, ∃ ch : Reg, Reached s (chInst ch.val) ∧ (s.chan ch.val).repairing = true) ∧
    (∃ s : State, ∃ ch : Reg, Reached s (chInst ch.val) ∧ ∃ loc : DeepLoc, ∃ unc : Bool,
        (s.chan ch.val).candidates = [(loc, unc)] ∧ (s.bpm (chSlice ch.val)).pageOwner.get loc.page.toNat = 0 ∧
        loc.page.toNat ∉ (s.bpm (chSlice ch.val)).retired) ∧
    (∃ s : State, ∃ ch : Reg, Reached s (chInst ch.val) ∧ ∃ loc : DeepLoc, ∃ unc : Bool, ∃ spare : Bool,
        (s.chan ch.val).candidates = [(loc, unc)] ∧ (s.bpm (chSlice ch.val)).pageOwner.get loc.page.toNat = 0 ∧
        loc.page.toNat ∉ (s.bpm (chSlice ch.val)).retired ∧ spare = true) ∧
    (∃ s : State, ∃ ch : Reg, Reached s (chInst ch.val) ∧ ∃ loc : DeepLoc, ∃ unc : Bool, ∃ spare : Bool,
        (s.chan ch.val).candidates = [(loc, unc)] ∧ (s.bpm (chSlice ch.val)).pageOwner.get loc.page.toNat = 0 ∧
        loc.page.toNat ∉ (s.bpm (chSlice ch.val)).retired ∧ spare = false) ∧
    (∃ s : State, ∃ ch : Reg, ∃ rank : Fin 8, Reached s (chInst ch.val) ∧ s.rankPwr ch.val rank.val = 0 ∧
        (s.chF ch.val R.DTC_CSTAT 0 3) ≠ 1 ∧ s.chF ch.val R.DTC_PWRCFG 0 10 ≠ 0) ∧
    (∃ s : State, ∃ ch : Reg, ∃ rank : Fin 8, Reached s (chInst ch.val) ∧ s.rankPwr ch.val rank.val ≤ 1 ∧
        2 ≤ (s.chF ch.val R.DTC_CSTAT 0 3) ∧ s.chF ch.val R.DTC_PWRCFG 10 1 = 1 ∧ s.rankEmpty ch.val rank.val = true ∧
        (s.chan ch.val).prewoken = []) ∧
    (∃ s : State, ∃ ch : Reg, ∃ rank : Fin 8, Reached s (chInst ch.val) ∧ (s.chF ch.val R.DTC_CSTAT 0 3) = 3 ∧
        s.rankPwr ch.val rank.val = 2 ∧ s.rankEmpty ch.val rank.val = false) ∧
    (∃ s : State, ∃ ch : Reg, ∃ rank : Fin 8, Reached s (chInst ch.val) ∧ s.rankPwr ch.val rank.val = 2 ∧
        s.rankEmpty ch.val rank.val = true) :=
  ⟨⟨(ch (fun x => {x with candidates := [(loc, false)]}) (up {})).setRegF (slInst .egv 1) R.EGV_SSTAT 8 2 2, 5, loc, false,
      by and_intros <;> decide +kernel⟩,
   ⟨short 2 scrubS, 5, 77 * 256 + 5, 77 * 64 + 1, by constructor <;> decide +kernel, by and_intros <;> decide +kernel⟩,
   ⟨waits scrubS, 6, ⟨77 * 65536 + 512, 256, none⟩, by constructor <;> decide +kernel, by and_intros <;> decide +kernel⟩,
   ⟨waits (short 2 scrubS), 6, ⟨77 * 65536 + 512, 256, none⟩, by constructor <;> decide +kernel,
       by and_intros <;> decide +kernel⟩,
   ⟨scrubS, 5, 77 * 256 + 5, 77 * 64 + 1, by and_intros <;> first | decide +kernel | (constructor <;> decide +kernel)⟩,
   ⟨c5 (up {}) 2, 5, by constructor <;> decide +kernel, 0x20, by and_intros <;> decide +kernel⟩,
   ⟨c5 (up {}) 0, 5, by constructor <;> decide +kernel, 0x20, by and_intros <;> decide +kernel⟩,
   ⟨ch (fun x => {x with repairing := true}) (up {}), 5, by constructor <;> decide +kernel, by decide +kernel⟩,
   ⟨ch (fun x => {x with candidates := [(loc, false)]}) (up {}), 5, by constructor <;> decide +kernel, loc, false,
       by and_intros <;> decide +kernel⟩,
   ⟨ch (fun x => {x with candidates := [(loc, false)]}) (up {}), 5, by constructor <;> decide +kernel, loc, false, true,
       by and_intros <;> decide +kernel⟩,
   ⟨ch (fun x => {x with candidates := [(loc, false)]}) (up {}), 5, by constructor <;> decide +kernel, loc, false, false,
       by and_intros <;> decide +kernel⟩,
   ⟨on (up {}), 5, 0, by constructor <;> decide +kernel, by and_intros <;> decide +kernel⟩,
   ⟨((c5 (up {}) 3).setChF 5 R.DTC_PWRCFG 0 11 0x7FF).setRankPwr 5 5 0, 5, 5, by constructor <;> decide +kernel,
       by and_intros <;> decide +kernel⟩,
   ⟨scrubS.setRankPwr 5 0 2, 5, 0, by constructor <;> decide +kernel, by and_intros <;> decide +kernel⟩,
   ⟨(up {}).setRankPwr 5 5 2, 5, 5, by constructor <;> decide +kernel, by and_intros <;> decide +kernel⟩⟩
def moved : Copy := { cid := 5, fid := 3, deep := some (60 * 65536 + 512), port := 73 }
/-- The hypotheses of `CompactionMovesABuffer` that its clauses share, of one copy. -/
structure Moves (s : State) (q : Nat) : Prop where
  quiet : Quiet s ∧ s.taskActs 1 18 = true ∧ s.inBlockReset (slInst .dtc 1) = false
  slice : s.members 1 = [4] ∧ s.chF 4 R.DTC_PWRCFG 11 1 = 1 ∧ s.bpmServes 1 = true
  top : s.topSingle 1 = some (60 * 65536 + 512) ∧ (s.bpm 1).pageOwner.get 60 = 1
  free : (s.bpm 1).freeBuffer 0 = some (10 * 65536 + 512)
  queues : (s.tmg 1).queues = ({} : Tbl (List Copy)).set q [moved]
  lower : s.lowerRank 1 (10 * 65536 + 512) (60 * 65536 + 512) = true
  still : (s.swc 1).spilling = [] ∧ (s.swc 1).draining = [] ∧ (s.bpm 1).hkWrite = none
/-- Hypotheses of `RowsAreRefreshedRepairedAndMoved`, `CompactionMovesABuffer` that can be met. -/
theorem test_witness_CompactionMovesABuffer :
    (∃ s, Moves s 17 ∧ (s.setHkRead 1 none).deepServes 1 2 (60 * 65536 + 512) moved.deepBytes = false) ∧
    (∃ s, Moves s 17 ∧ (s.setHkRead 1 none).deepServes 1 2 (60 * 65536 + 512) moved.deepBytes = true ∧
      let v := ((s.setHkRead 1 none).serveDeep 1 2 (60 * 65536 + 512) moved.deepBytes).startMove 1 0 (60 * 65536 + 512)
        (10 * 65536 + 512) moved.deepBytes 17 5
      v.writeStands 1 ⟨10 * 65536 + 512, moved.deepBytes, some (60 * 65536 + 512, 17, 5)⟩ = true ∧
      v.deepServes 1 2 (10 * 65536 + 512) moved.deepBytes = true) ∧
    (∃ s, Moves s 17 ∧ (s.setHkRead 1 none).deepServes 1 2 (60 * 65536 + 512) moved.deepBytes = true ∧
      let v := ((s.setHkRead 1 none).serveDeep 1 2 (60 * 65536 + 512) moved.deepBytes).startMove 1 0 (60 * 65536 + 512)
        (10 * 65536 + 512) moved.deepBytes 17 5
      v.writeStands 1 ⟨10 * 65536 + 512, moved.deepBytes, some (60 * 65536 + 512, 17, 5)⟩ = true ∧
      v.deepServes 1 2 (10 * 65536 + 512) moved.deepBytes = false) :=
  ⟨⟨runs 18 (short 2 cpS), by constructor <;> decide +kernel, by decide +kernel⟩,
   ⟨runs 18 cpS, by constructor <;> decide +kernel, by and_intros <;> decide +kernel⟩,
   ⟨runs 18 (cpS.updChan 4 fun x => { x with short := x.short.set 2 (cpS.portCap 4 2) }), by constructor <;> decide +kernel,
       by and_intros <;> decide +kernel⟩⟩

end Deep

namespace Traffic

def i2 := tmgI 2
def cp : Copy := { cid := 5, fid := 3, port := 131, eslice := 2, len := 100, eclass := 0 }
def base : State := ((up {}).setEntry i2 0 3 0 [0x80000002, 1000, 0x01000800, 2000,
    0x900]).setEntry i2 1 3 0 [0x80000003, 100, 500, 2000, 0x900]
def lev (s : State) : State := {s with
        time := 1000, tmgs := s.tmgs.upd 2 fun t => {t with
            nodeC := (t.nodeC.set 3 5000000).set 1 44, nodeP := t.nodeP.set 3 5000000, nodeT := t.nodeT.set 3 10, svcC
            := t.svcC.set 3 5000000, svcP := t.svcP.set 3 5000000, mtrC := t.mtrC.set 3 777, mtrE := t.mtrE.set 3 888,
            portB := t.portB.set 3 999}}
def prt (s : State) (en n cyc : Nat) (b : Nat) : State := s.setEntry i2 2 3 0 [0x7FFFFFF, 2000,
    BitVec.ofNat 32 (en + 2 * n), BitVec.ofNat 32 cyc, BitVec.ofNat 32 b, 0, 0]
def gl (s : State) (l : List (Nat × Nat)) : State := forAll l.zipIdx (fun ((g, n),
    k) t => t.setEntry i2 4 (3 * 256 + k) 0 [BitVec.ofNat 32 g, BitVec.ofNat 32 n]) s
def run (s : State) (g : GateSt) : State := s.updTmg 2 fun t => { t with gates := t.gates.set 3 g }
def at_ (s : State) (sec ns : Nat) : State := { s with tsu := { s.tsu with sec := BitVec.ofNat _ sec, ns := ns } }
def gls : List (List (Nat × Nat)) := [[(1, 300), (2, 0), (6, 400)], [(255, 1200)], [(1, 100), (0, 100), (5, 100)], [(7,
    500), (3, 500), (2, 100)], [(0, 2000)], [(254, 999), (1, 1), (1, 7)]]
def runS (s : State) (now : Nat) : State :=
  let g : GateSt := ({ running := true, base := 5 } : GateSt).at (s.gateCycle 2 3) 1000 now
  run s g
def vals10 : List State := [(up {}), prt (up {}) 1 2 1000 5, prt (up {}) 0 2 1000 5, prt (up {}) 0 2 100 5, lev (prt (up {}) 0 2 1000 5)]
   ++ gls.map (fun l => gl (prt (up {}) 0 2 1000 5) l) ++ gls.map (fun l => at_ (gl (prt (up {}) 0 2 1000 5) l) 1 77)
   ++ gls.flatMap (fun l => [4, 5, 405, 700, 1905].map fun n => runS (gl (prt (up {}) 1 2 1000 5) l) n)
def upl (s : State) : State := (s.setLane 131 R.PRT_PSTAT 0 4 7).updFrame 3 fun f =>
    { f with inport := 131, final := true, bytes := List.replicate 100 0 }
def sh (s : State) (a b c d : Word) : State := (s.setEntry i2 0 3 0 [0x80000003, a, 0x800, b,
    0x900]).setEntry i2 1 3 0 [0x80000003, c, 500, d, 0x900]
def cps : List Copy := [cp, {cp with eclass := 1}, {cp with eclass := 2}, {cp with eclass := 3},
    {cp with eclass := 1, len := 16000, ovhd := 1}]
def vals12 : List Copy := cps
def bk (b : Int) (s : State) : State := s.updEgv 2 fun e => { e with bucket := b }
def vals13 : List State := cps.flatMap fun c => [0, 10^9,
    20000000].flatMap fun b => [(1,0,1,0),(0,1,1,7),(5,9,0,0x7FFFFFF),(0x7FFFFFF, 0,1,1)].flatMap fun (a1,b1,c1,d1) =>
  let s := (bk b (sh (upl (up {})) a1 b1 c1 d1)).setQueue 2 25 [c]
  [s, s.setRegB i2 R.TMG_ESTAT 0 true, (s.setReg egv4 R.EGV_DCTRL 4).setRegF (slInst .egv 2) R.EGV_TOKRATE 0 24 1000,
      (s.setRegB i2 R.TMG_ESTAT 0 true).updTmg 2 fun x => {x with e1Refused := true}]
def cq (s : State) (l : List CountReq) : State := s.updTmg 2 fun x => { x with countQ := l }
def part (s : State) (t b n : Nat) : State := s.setEntry i2 7 t 0 [BitVec.ofNat 32 b, BitVec.ofNat 32 n]
def rq : List CountReq := [⟨7, 9, 100, none⟩, ⟨7, 9, 0, some 3⟩, ⟨70, 9, 64, none⟩]
def vals14 : List CountReq := rq
def fr (s : State) (b : Bool) : State := s.updFrame 3 fun f =>
    { f with inport := 131, final := b, bytes := List.replicate 100 0 }
def smp (s : State) (h t : Nat) : State := (at_ (((s.setReg i2 R.TMG_SRCFG 0x640106).setRegF i2 R.TMG_SRHEAD 0 20 h).setReg i2 R.TMG_SRTAIL (BitVec.ofNat 32 t)) 70 80).setReg i2 R.TMG_SRBASE_LO 0x12345660
def vals18 : List State := [(up {})] ++
    rq.flatMap (fun r => [true,false].flatMap fun b => [cq (part (fr (up {}) b) 9 100 60) [r],
        cq (part (fr (up {}) b) 9 1048570 6) (r :: rq),
         cq ((part (fr (up {}) b) 9 100 60).setEntry i2 6 107 0 [0xFFFFFFFF, 5, 0xFFFFFFF0, 0xFFFFFFFF]) [r]])
  ++ [smp base 5 9, smp base 5 6, smp (base.updTmg 2 fun x =>
      { x with srPhase := true, sampled := x.sampled.set 24 999 }) 63 1]
/-- Hypotheses of `HierarchyWrites` that can be met. -/
theorem test_witness_HierarchyWrites :
    (∃ s : State, ∃ sl : Slice, ∃ w : List Word, Reached s (tmgI sl) ∧ w.length = 5 ∧ (s.tmg sl).queues.wf = true ∧
        ∃ n : Fin 65536, (fld ((newWord (tmgI sl) 0 n.val w) 0) 0 12 ≠ fld ((s.ent (tmgI sl) 0 n.val) 0) 0 12 ∧
        (bit ((s.ent (tmgI sl) 0 n.val) 0) 31 = true ∨ ∃ tc : Fin 8, s.queue sl (8 * n.val + tc.val) ≠ []))) ∧
    (∃ s : State, ∃ sl : Slice, ∃ w : List Word, Reached s (tmgI sl) ∧ w.length = 5 ∧ (s.tmg sl).queues.wf = true ∧
        ∃ n : Fin 65536, (fld ((newWord (tmgI sl) 0 n.val w) 0) 0 12 = fld ((s.ent (tmgI sl) 0 n.val) 0) 0 12 ∨ ¬ (bit ((s.ent (tmgI sl) 0 n.val) 0) 31 = true ∨ ∃ tc : Fin 8, s.queue sl (8 * n.val + tc.val) ≠ []))) ∧
    (∃ s : State, ∃ sl : Slice, ∃ w : List Word, Reached s (tmgI sl) ∧ w.length = 5 ∧ (s.tmg sl).queues.wf = true ∧
        ∃ v : Fin 4096, (fld ((newWord (tmgI sl) 1 v.val w) 0) 0 6 ≠ fld ((s.ent (tmgI sl) 1 v.val) 0) 0 6 ∧
        (bit ((s.ent (tmgI sl) 1 v.val) 0) 31 = true ∨ Under s sl v.val))) ∧
    (∃ s : State, ∃ sl : Slice, ∃ w : List Word, Reached s (tmgI sl) ∧ w.length = 5 ∧ (s.tmg sl).queues.wf = true ∧
        ∃ v : Fin 4096, (fld ((newWord (tmgI sl) 1 v.val w) 0) 0 6 = fld ((s.ent (tmgI sl) 1 v.val) 0) 0 6 ∨ ¬ (bit ((s.ent (tmgI sl) 1 v.val) 0) 31 = true ∨ Under s sl v.val))) ∧
    (∃ s : State, ∃ sl : Slice, ∃ w : List Word, Reached s (tmgI sl) ∧ w.length = 5 ∧ (s.tmg sl).queues.wf = true ∧
        ∃ m : Fin 131072, ((decide (fld ((s.ent (tmgI sl) 5 m.val) 0) 0 2 ≠ fld ((newWord (tmgI sl) 5 m.val w) 0) 0 2) || decide (bit ((s.ent (tmgI sl) 5 m.val) 0) 9 ≠ bit ((newWord (tmgI sl) 5 m.val w) 0) 9)) || (differ (s.ent (tmgI sl) 5 m.val) (newWord (tmgI sl) 5 m.val w) [3] && decide (fld ((newWord (tmgI sl) 5 m.val w) 0) 0 2 ≠ 0)) || differ (s.ent (tmgI sl) 5 m.val) (newWord (tmgI sl) 5 m.val w) [4]) = true) :=
  ⟨⟨base, 2, [0x80000005, 1000, 0x01000800, 2000, 0x900], by constructor <;> decide +kernel, by decide +kernel,
      by decide +kernel, 3, by decide +kernel⟩,
   ⟨(up {}), 2, [0x80000002, 1000, 0x01000800, 2000, 0x900], by constructor <;> decide +kernel, by decide +kernel,
       by decide +kernel, 3, by decide +kernel⟩,
   ⟨base, 2, [0x80000002, 1000, 0x01000800, 2000, 0x900], by constructor <;> decide +kernel, by decide +kernel,
       by decide +kernel, 3,
    by decide +kernel, .inl (by decide +kernel)⟩,
   ⟨(up {}), 2, [0x80000002, 1000, 0x01000800, 2000, 0x900], by constructor <;> decide +kernel, by decide +kernel,
       by decide +kernel, 3,
    .inr fun h => h.elim (by decide +kernel) fun ⟨_, h, _⟩ => h rfl⟩,
   ⟨(up {}), 2, [0x80000002, 1000, 0x01000800, 2000, 0x900], by constructor <;> decide +kernel, by decide +kernel,
       by decide +kernel, 3, by decide +kernel⟩⟩
/-- Hypotheses of `GatesFollowTheirList` that can be met. -/
theorem test_witness_GatesFollowTheirList :
    (∃ s : State, ∃ sl : Slice, ∃ lp : Fin 64, Reached s (tmgI sl) ∧ ∃ w : List Word, w.length = 2 ∧
        bit ((s.ent (tmgI sl) 2 lp.val) 2) 0 = true) ∧
    (∃ s : State, ∃ sl : Slice, ∃ lp : Fin 64, Reached s (tmgI sl) ∧ ∃ w : List Word, w.length = 2 ∧
        bit ((s.ent (tmgI sl) 2 lp.val) 2) 0 = false) ∧
    (∃ s : State, ∃ sl : Slice, ∃ lp : Fin 64, Reached s (tmgI sl) ∧ ∃ w : List Word, w.length = 7 ∧
        (((bit ((s.ent (tmgI sl) 2 lp.val) 2) 0 = true ∧
        (fld ((newWord (tmgI sl) 2 lp.val w) 2) 1 31 ≠ fld ((s.ent (tmgI sl) 2 lp.val) 2) 1 31 ∨ differ (s.ent (tmgI sl) 2 lp.val) (newWord (tmgI sl) 2 lp.val w) [3, 4, 5, 6] = true)) ∨ (bit ((newWord (tmgI sl) 2 lp.val w) 2) 0 = true ∧ ((fld ((newWord (tmgI sl) 2 lp.val w) 3) 0 30) < 1000 ∨ 1000000000 < (fld ((newWord (tmgI sl) 2 lp.val w) 3) 0 30)))))) ∧
    (∃ s : State, ∃ sl : Slice, ∃ lp : Fin 64, Reached s (tmgI sl) ∧ ∃ w : List Word, w.length = 7 ∧
        (¬ ((bit ((s.ent (tmgI sl) 2 lp.val) 2) 0 = true ∧
        (fld ((newWord (tmgI sl) 2 lp.val w) 2) 1 31 ≠ fld ((s.ent (tmgI sl) 2 lp.val) 2) 1 31 ∨ differ (s.ent (tmgI sl) 2 lp.val) (newWord (tmgI sl) 2 lp.val w) [3, 4, 5, 6] = true)) ∨ (bit ((newWord (tmgI sl) 2 lp.val w) 2) 0 = true ∧ ((fld ((newWord (tmgI sl) 2 lp.val w) 3) 0 30) < 1000 ∨ 1000000000 < (fld ((newWord (tmgI sl) 2 lp.val w) 3) 0 30))))) ∧ bit ((s.ent (tmgI sl) 2 lp.val) 2) 0 = true ∧ bit ((newWord (tmgI sl) 2 lp.val w) 2) 0 = false) ∧
    (∃ s : State, ∃ sl : Slice, ∃ lp : Fin 64, Reached s (tmgI sl) ∧ ∃ w : List Word, w.length = 7 ∧
        (¬ ((bit ((s.ent (tmgI sl) 2 lp.val) 2) 0 = true ∧
        (fld ((newWord (tmgI sl) 2 lp.val w) 2) 1 31 ≠ fld ((s.ent (tmgI sl) 2 lp.val) 2) 1 31 ∨ differ (s.ent (tmgI sl) 2 lp.val) (newWord (tmgI sl) 2 lp.val w) [3, 4, 5, 6] = true)) ∨ (bit ((newWord (tmgI sl) 2 lp.val w) 2) 0 = true ∧ ((fld ((newWord (tmgI sl) 2 lp.val w) 3) 0 30) < 1000 ∨ 1000000000 < (fld ((newWord (tmgI sl) 2 lp.val w) 3) 0 30))))) ∧ bit ((s.ent (tmgI sl) 2 lp.val) 2) 0 = bit ((newWord (tmgI sl) 2 lp.val w) 2) 0) ∧
    (∃ s : State, ∃ sl : Slice, ∃ lp : Fin 64, Reached s (tmgI sl) ∧ ∃ w2 : Word, bit w2 0 = true ∧
        bit ((s.ent (tmgI sl) 2 lp.val) 2) 0 = false ∧
        ((fld ((s.ent (tmgI sl) 2 lp.val) 3) 0 30) < 1000 ∨ 1000000000 < (fld ((s.ent (tmgI sl) 2 lp.val) 3) 0 30))) ∧
    (∃ s : State, ∃ sl : Slice, ∃ lp : Fin 64, Reached s (tmgI sl) ∧ ∃ w2 : Word, bit w2 0 = true ∧
        bit ((s.ent (tmgI sl) 2 lp.val) 2) 0 = false ∧ 1000 ≤ (fld ((s.ent (tmgI sl) 2 lp.val) 3) 0 30) ∧
        (fld ((s.ent (tmgI sl) 2 lp.val) 3) 0 30) ≤ 1000000000 ∧ ((∀ k,
        k < 7 → (s.ent (tmgI sl) 2 lp.val) k &&& winMaskAt (tmgI sl) 2 lp.val k = (s.ent (tmgI sl) 2 lp.val) k))) :=
  ⟨⟨pick vals10 1, 2, 3, by constructor <;> decide +kernel, [5, 700], by decide +kernel, by decide +kernel⟩,
   ⟨pick vals10 0, 2, 3, by constructor <;> decide +kernel, [5, 700], by decide +kernel, by decide +kernel⟩,
   ⟨pick vals10 0, 2, 3, by constructor <;> decide +kernel, [0x7FFFFFF, 2000, 5, 100, 5, 0, 0], by decide +kernel,
       by decide +kernel⟩,
   ⟨pick vals10 1, 2, 3, by constructor <;> decide +kernel, [0x7FFFFFF, 2000, 4, 1000, 5, 0, 0], by and_intros <;> decide +kernel⟩,
   ⟨pick vals10 0, 2, 3, by constructor <;> decide +kernel, [0x7FFFFFF, 2000, 4, 1000, 5, 0, 0], by and_intros <;> decide +kernel⟩,
   ⟨pick vals10 3, 2, 3, by constructor <;> decide +kernel, 5, by and_intros <;> decide +kernel⟩,
   ⟨pick vals10 0, 2, 3, by constructor <;> decide +kernel, 5, by and_intros <;> decide +kernel⟩⟩
/-- Hypotheses of `CopiesAreScheduledAndPriced`, `LoneCopyIsPriced` that can be met. -/
theorem test_witness_LoneCopyIsPriced :
    (∃ s : State, ∃ p : Port, ∃ q : Fin 524288, ∃ c : Copy, LoneCopy s p q.val c ∧ c.wasDeep = false ∧
        c.cutThrough = false ∧ (s.countedLen (portSlice p.val) c.len c.ovhd) ≤ 16446 ∧
        (0 < (rates s (portSlice p.val) q.val).1 ∨ 0 < (rates s (portSlice p.val) q.val).2.1) ∧
        (0 < (rates s (portSlice p.val) q.val).2.2.1 ∨ 0 < (rates s (portSlice p.val) q.val).2.2.2) ∧
        ((c.eclass ≤ 1 ∨ (c.eclass ≤ 3 ∧ s.regB (tmgI (portSlice p.val)) R.TMG_ESTAT 0 = false ∧
        (s.tmg (portSlice p.val)).allot = none))) ∧
        ((c.eclass = 0 ∨ (reserves s (portSlice p.val) c.eclass : Int) ≤ ((s.egv (portSlice p.val)).bucket) - price s (portSlice p.val) c))) ∧
    (∃ s : State, ∃ p : Port, ∃ q : Fin 524288, ∃ c : Copy, LoneCopy s p q.val c ∧ c.wasDeep = false ∧
        c.cutThrough = false ∧ (s.countedLen (portSlice p.val) c.len c.ovhd) ≤ 16446 ∧
        (0 < (rates s (portSlice p.val) q.val).1 ∨ 0 < (rates s (portSlice p.val) q.val).2.1) ∧
        (0 < (rates s (portSlice p.val) q.val).2.2.1 ∨ 0 < (rates s (portSlice p.val) q.val).2.2.2) ∧
        ((c.eclass ≤ 1 ∨ (c.eclass ≤ 3 ∧ s.regB (tmgI (portSlice p.val)) R.TMG_ESTAT 0 = false ∧
        (s.tmg (portSlice p.val)).allot = none))) ∧
        (¬ (c.eclass = 0 ∨ (reserves s (portSlice p.val) c.eclass : Int) ≤ ((s.egv (portSlice p.val)).bucket) - price s (portSlice p.val) c)) ∧ ((c.eclass = 1 → s.regB (tmgI (portSlice p.val)) R.TMG_ESTAT 0 = true))) :=
  ⟨⟨pick vals13 0, 131, 25, pick vals12 0, by constructor <;> decide +kernel, by and_intros <;> decide +kernel⟩,
   ⟨pick vals13 49, 131, 25, pick vals12 1, by constructor <;> decide +kernel, by and_intros <;> decide +kernel⟩⟩
/-- Copies of 300 and 500 bytes wait in the queues `q` and `r` of port 131, below the nodes and service nodes of these rates (CIR,
PIR) and the profile of these weights. -/
def duel (q r svq svr : Nat) (node node' svc svc' : Nat × Nat) (profile : List Word) : State :=
  let rate := fun (n : Nat) (w : Word) (x : Nat × Nat) (win : Nat) (s : State) =>
    s.setEntry i2 win n 0 [w, BitVec.ofNat 32 x.1, 0x800, BitVec.ofNat 32 x.2, 0x900]
  let s := (upl (up {})).updFrame 4 fun f => { f with inport := 140, final := true, bytes := List.replicate 500 0 }
  let s := rate (r / 8) (BitVec.ofNat 32 (0x80002000 + svr)) node' 0 (rate (q / 8) (BitVec.ofNat 32 (0x80002000 + svq)) node 0 s)
  let s := (rate svr 0x80000003 svc' 1 (rate svq 0x80000003 svc 1 s)).setEntry i2 3 2 0 profile
  (s.setQueue 2 q [{ cp with len := 300, queue := q }]).setQueue 2 r [{ cp with cid := 6, fid := 4, len := 500, queue := r }]
/-- The state of a duel meets the premises of `CopiesAreChosen`. -/
def Duels (s : State) (q r : Nat) : Prop := TwoCopies s 131 q r { cp with len := 300, queue := q } { cp with cid := 6, fid := 4, len := 500, queue := r }
/-- Hypotheses of `CopiesAreScheduledAndPriced`, `CopiesAreChosen` that can be met: strict priority, a quantum that holds the first
copy, one that does not, and the two orders of eligibility. -/
theorem test_witness_CopiesAreChosen :
    (∃ s, Duels s 24 31 ∧ 0 < (rates s 2 24).2.1 ∧ 0 < (rates s 2 24).2.2.1 ∧
      8 ≤ 31 % 8 + fld (s.ent i2 3 (fld (s.ent i2 0 3 0) 12 4) 0) 0 3) ∧
    (∃ s, Duels s 24 25 ∧ 0 < (rates s 2 24).1 ∧ 0 < (rates s 2 24).2.2.1 ∧
      1 + fld (s.ent i2 3 (fld (s.ent i2 0 3 0) 12 4) 0) 0 3 < 8 ∧
      s.countedLen 2 300 0 ≤ 256 * fld (s.ent i2 3 (fld (s.ent i2 0 3 0) 12 4) 1) 0 8) ∧
    (∃ s, Duels s 24 25 ∧ 0 < (rates s 2 24).1 ∧ 0 < (rates s 2 24).2.2.2 ∧
      1 + fld (s.ent i2 3 (fld (s.ent i2 0 3 0) 12 4) 0) 0 3 < 8 ∧
      0 < fld (s.ent i2 3 (fld (s.ent i2 0 3 0) 12 4) 1) 0 8 ∧
      256 * fld (s.ent i2 3 (fld (s.ent i2 0 3 0) 12 4) 1) 0 8 < s.countedLen 2 300 0 ∧
      s.countedLen 2 500 0 ≤ 256 * fld (s.ent i2 3 (fld (s.ent i2 0 3 0) 12 4) 1) 8 8) ∧
    (∃ s, Duels s 24 35 ∧ s.service 2 3 = s.service 2 4 ∧ 0 < (rates s 2 24).2.2.1 ∧
      ((rates s 2 24).1 = 0 ∧ 0 < (rates s 2 24).2.1) ∧ 0 < (rates s 2 35).1) ∧
    (∃ s, Duels s 24 35 ∧ s.service 2 3 ≠ s.service 2 4 ∧ 0 < (rates s 2 24).1 ∧ 0 < (rates s 2 35).1 ∧
      ((rates s 2 24).2.2.1 = 0 ∧ 0 < (rates s 2 24).2.2.2) ∧ 0 < (rates s 2 35).2.2.1) := by
  refine ⟨⟨duel 24 31 3 3 (0, 7) (0, 7) (5, 0) (5, 0) [1, 0, 0], ?_, ?_⟩,
    ⟨duel 24 25 3 3 (5, 0) (5, 0) (5, 0) (5, 0) [0, 0x0202, 0], ?_, ?_⟩,
    ⟨duel 24 25 3 3 (5, 0) (5, 0) (0, 7) (0, 7) [0, 0x0301, 0], ?_, ?_⟩,
    ⟨duel 24 35 3 3 (0, 7) (5, 0) (5, 0) (5, 0) [0, 0x0202, 0], ?_, ?_⟩,
    ⟨duel 24 35 3 9 (5, 0) (5, 0) (0, 7) (5, 0) [0, 0x0202, 0], ?_, ?_⟩⟩
  all_goals first | decide +kernel | (unfold Duels; constructor <;> decide +kernel)
/-- Hypotheses of `CountersAndQueueRecords` that can be met by a queue whose port is not in UP, without DOWNFLUSH and with it. -/
theorem test_witness_QueuesAreFlushed :
    ∀ w ∈ ([0, 0x200] : List Word), ∃ s : State, ∃ p : Port, ∃ q : Fin 524288, ∃ c : Copy, Reached s i2 ∧ s.bad = {} ∧
      portSlice p.val = 2 ∧ s.portUp p.val = false ∧ (s.tmg 2).queues = ({} : Tbl (List Copy)).set q.val [c] ∧
      c.port = p.val ∧ c.gone = false ∧ c.deep = none ∧ c.eslice = 2 ∧ (s.ent i2 2 (p.val % 64) 2).getLsbD 9 = w.getLsbD 9 := by
  intro w h
  fin_cases h
  · exact ⟨((up {}).setEntry i2 2 3 0 [0, 0, 0, 0, 0, 0, 0]).setQueue 2 25 [cp], 131, 25, cp,
      by constructor <;> decide +kernel, by and_intros <;> decide +kernel⟩
  · exact ⟨((up {}).setEntry i2 2 3 0 [0, 0, 0x200, 0, 0, 0, 0]).setQueue 2 25 [cp], 131, 25, cp,
      by constructor <;> decide +kernel, by and_intros <;> decide +kernel⟩
/-- Hypotheses of `CountersAndQueueRecords` that can be met. -/
theorem test_witness_CountersAndQueueRecords :
    (∃ s : State, ∃ sl : Slice, Reached s (tmgI sl) ∧ s.bad = {} ∧ (s.tmg sl).countQ = []) ∧
    (∃ s : State, ∃ sl : Slice, Reached s (tmgI sl) ∧ s.bad = {} ∧ ∃ r, ∃ rest, (s.tmg sl).countQ = r :: rest ∧
        r.tid < 4096 ∧ r.index < fld (s.ent (tmgI sl) 7 r.tid 1) 0 21 ∧
        ((fld (s.ent (tmgI sl) 7 r.tid 0) 0 20) + r.index) < 1048576 ∧ ∃ n, ((r.fid = none ∧ n = r.len) ∨ (∃ f,
        r.fid = some f ∧ (s.frame f).final = true ∧ n = (s.frame f).bytes.length))) ∧
    (∃ s : State, ∃ sl : Slice, Reached s (tmgI sl) ∧ s.bad = {} ∧ ∃ r, ∃ rest, (s.tmg sl).countQ = r :: rest ∧
        r.tid < 4096 ∧ r.index < fld (s.ent (tmgI sl) 7 r.tid 1) 0 21 ∧
        ((fld (s.ent (tmgI sl) 7 r.tid 0) 0 20) + r.index) < 1048576 ∧ ∃ f, r.fid = some f ∧ (s.frame f).final = false) ∧
    (∃ s : State, ∃ sl : Slice, Reached s (tmgI sl) ∧ s.bad = {} ∧ ∃ r, ∃ rest, (s.tmg sl).countQ = r :: rest ∧
        r.tid < 4096 ∧ (fld (s.ent (tmgI sl) 7 r.tid 1) 0 21 ≤ r.index ∨ 1048576 ≤ ((fld (s.ent (tmgI sl) 7 r.tid 0) 0 20) + r.index))) ∧
    (∃ s : State, ∃ sl : Slice, Reached s (tmgI sl) ∧ s.bad = {} ∧ ∃ v : Word, v.getLsbD 8 = true) ∧
    (∃ s : State, ∃ sl : Slice, Reached s (tmgI sl) ∧ s.bad = {} ∧ (s.regB (tmgI sl) R.TMG_SRCFG 8 = false ∨ 1 ≤ s.stage)) ∧
    (∃ s : State, ∃ sl : Slice, Reached s (tmgI sl) ∧ s.bad = {} ∧ ∃ q, s.monitored sl = [q] ∧ s.queue sl q = [] ∧
        s.regB (tmgI sl) R.TMG_SRCFG 8 = true ∧ s.stage = 0 ∧
        ((fld (s.reg (tmgI sl) R.TMG_SRHEAD) 0 20) + 1) % (2 ^ (min 20 (max 6 (fld (s.reg (tmgI sl) R.TMG_SRCFG) 0 5)))) ≠ (fld (s.reg (tmgI sl) R.TMG_SRTAIL) 0 20)) ∧
    (∃ s : State, ∃ sl : Slice, Reached s (tmgI sl) ∧ s.bad = {} ∧ ∃ q, s.monitored sl = [q] ∧ s.queue sl q = [] ∧
        s.regB (tmgI sl) R.TMG_SRCFG 8 = true ∧ s.stage = 0 ∧
        ((fld (s.reg (tmgI sl) R.TMG_SRHEAD) 0 20) + 1) % (2 ^ (min 20 (max 6 (fld (s.reg (tmgI sl) R.TMG_SRCFG) 0 5)))) = (fld (s.reg (tmgI sl) R.TMG_SRTAIL) 0 20)) :=
  ⟨⟨pick vals18 0, 2, by constructor <;> decide +kernel, by decide +kernel, by decide +kernel⟩,
   ⟨pick vals18 1, 2, by constructor <;> decide +kernel, by decide +kernel, pick vals14 0, [], by decide +kernel,
       by decide +kernel, by decide +kernel, by decide +kernel, 100, by decide +kernel⟩,
   ⟨pick vals18 10, 2, by constructor <;> decide +kernel, by decide +kernel, pick vals14 1, [], by decide +kernel,
       by decide +kernel, by decide +kernel, by decide +kernel, 3, by decide +kernel, by decide +kernel⟩,
   ⟨pick vals18 2, 2, by constructor <;> decide +kernel, by decide +kernel, pick vals14 0, rq, by and_intros <;> decide +kernel⟩,
   ⟨pick vals18 0, 2, by constructor <;> decide +kernel, by decide +kernel, 0x7F0110, by decide +kernel⟩,
   ⟨pick vals18 0, 2, by constructor <;> decide +kernel, by decide +kernel, by decide +kernel⟩,
   ⟨pick vals18 19, 2, by constructor <;> decide +kernel, by decide +kernel, 24, by and_intros <;> decide +kernel⟩,
   ⟨pick vals18 20, 2, by constructor <;> decide +kernel, by decide +kernel, 24, by and_intros <;> decide +kernel⟩⟩

end Traffic

namespace Gates

def i2 := tmgI 2
def base : State := ((up {}).setEntry i2 0 3 0 [0x80000002, 1000, 0x01000800, 2000,
    0x900]).setEntry i2 1 3 0 [0x80000003, 100, 500, 2000, 0x900]
def lev (s : State) : State := {s with
        time := 1000, tmgs := s.tmgs.upd 2 fun t => {t with
            nodeC := (t.nodeC.set 3 5000000).set 1 44, nodeP := t.nodeP.set 3 5000000, nodeT := t.nodeT.set 3 10, svcC
            := t.svcC.set 3 5000000, svcP := t.svcP.set 3 5000000, mtrC := t.mtrC.set 3 777, mtrE := t.mtrE.set 3 888,
            portB := t.portB.set 3 999}}
def prt (s : State) (en n cyc : Nat) (b : Nat) : State := s.setEntry i2 2 3 0 [0x7FFFFFF, 2000,
    BitVec.ofNat 32 (en + 2 * n), BitVec.ofNat 32 cyc, BitVec.ofNat 32 b, 0, 0]
def gl (s : State) (l : List (Nat × Nat)) : State := forAll l.zipIdx (fun ((g, n),
    k) t => t.setEntry i2 4 (3 * 256 + k) 0 [BitVec.ofNat 32 g, BitVec.ofNat 32 n]) s
def run (s : State) (g : GateSt) : State := s.updTmg 2 fun t => { t with gates := t.gates.set 3 g }
def at_ (s : State) (sec ns : Nat) : State := { s with tsu := { s.tsu with sec := BitVec.ofNat _ sec, ns := ns } }
def gls : List (List (Nat × Nat)) := [[(1, 300), (2, 0), (6, 400)], [(255, 1200)], [(1, 100), (0, 100), (5, 100)], [(7,
    500), (3, 500), (2, 100)], [(0, 2000)], [(254, 999), (1, 1), (1, 7)]]
def runS (s : State) (now : Nat) : State :=
  let g : GateSt := ({ running := true, base := 5 } : GateSt).at (s.gateCycle 2 3) 1000 now
  run s g
def vals8 : List State := [(up {}), prt (up {}) 1 2 1000 5, prt (up {}) 0 2 1000 5, prt (up {}) 0 2 100 5, lev (prt (up {}) 0 2 1000 5)]
   ++ gls.map (fun l => gl (prt (up {}) 0 2 1000 5) l) ++ gls.map (fun l => at_ (gl (prt (up {}) 0 2 1000 5) l) 1 77)
   ++ gls.flatMap (fun l => [4, 5, 405, 700, 1905].map fun n => runS (gl (prt (up {}) 1 2 1000 5) l) n)
/-- A copy of 100 bytes at the head of a queue of class 3 for port 131, which is in UP. -/
def waits : Copy := { cid := 5, fid := 3, eslice := 2, port := 131, queue := 4099, len := 100, a := 1 }
def waiting (s : State) : State :=
  { (((s.setLane 131 R.PRT_PSTAT 0 4 7).updPort 131 fun p => { p with cfg := 0x3DB }).updTmg 2 fun t => { t with
    queues := ({} : Tbl (List Copy)).set 4099 [waits] }) with
    frames := ({} : Tbl Frame).set 3 { bytes := List.replicate 100 1, final := true, inport := 131 } }
/-- The hypotheses under which `GatesFollowTheirList` says what becomes of that copy when GATE_EN is written 1. -/
structure Enables (s : State) : Prop where
  reached : Reached s i2
  off : bit (s.ent i2 2 3 2) 0 = false ∧ 1000 ≤ fld (s.ent i2 2 3 3) 0 30 ∧ fld (s.ent i2 2 3 3) 0 30 ≤ 1000000000
  words : ∀ k, k < 7 → s.ent i2 2 3 k &&& winMaskAt i2 2 3 k = s.ent i2 2 3 k
  queues : s.bad = {} ∧ (s.tmg 2).queues = ({} : Tbl (List Copy)).set 4099 [waits]
  head : (s.frame 3).final = true ∧ s.portState 131 = 7
/-- The longest window of class 3 after GATE_EN has been written 1 with a list of three entries. -/
def windowOf (s : State) : Option (Option Nat) := (((next (execGateEnable 2 3 5 s)).tmg 2).gates.get 3).longest[3]?
/-- Hypotheses of `GatesFollowTheirList` that can be met. -/
theorem test_witness_GatesFollowTheirList :
    (∃ s : State, Reached s i2 ∧ s.portQueues 131 = [] ∧ bit (s.ent i2 2 3 2) 0 = false) ∧
    (∃ s, Enables s ∧ windowOf s = some (some 0)) ∧ (∃ s, Enables s ∧ windowOf s = some (some 999)) ∧
    (∃ s : State, ∃ sl : Slice, ∃ lp : Fin 64, Reached s (tmgI sl) ∧ ∃ p : Port, portSlice p.val = sl ∧
        p.val % 64 = lp.val ∧ 0 < fld ((s.ent (tmgI sl) 2 lp.val) 3) 0 30 ∧ ((s.tmg sl).gates.get lp.val).running = false) ∧
    (∃ s : State, ∃ sl : Slice, ∃ lp : Fin 64, Reached s (tmgI sl) ∧ ∃ p : Port, portSlice p.val = sl ∧
        p.val % 64 = lp.val ∧ 0 < fld ((s.ent (tmgI sl) 2 lp.val) 3) 0 30 ∧
        ((s.tmg sl).gates.get lp.val).running = true ∧ ((s.tmg sl).gates.get lp.val).entry = none ∧
        ((s.tmg sl).gates.get lp.val).ends = ((s.tmg sl).gates.get lp.val).base) ∧
    (∃ s : State, ∃ sl : Slice, ∃ lp : Fin 64, Reached s (tmgI sl) ∧ ∃ p : Port, portSlice p.val = sl ∧
        p.val % 64 = lp.val ∧ 0 < fld ((s.ent (tmgI sl) 2 lp.val) 3) 0 30 ∧
        ((s.tmg sl).gates.get lp.val).running = true ∧ ∃ k, k < 257 ∧ InStep s sl lp.val k) :=
  ⟨⟨pick vals8 2, by constructor <;> decide +kernel, by decide +kernel, by decide +kernel⟩,
   ⟨waiting (pick vals8 5), by constructor <;> first | decide +kernel | (constructor <;> decide +kernel), by decide +kernel⟩,
   ⟨waiting (pick vals8 10), by constructor <;> first | decide +kernel | (constructor <;> decide +kernel), by decide +kernel⟩,
   ⟨pick vals8 0, 2, 3, by constructor <;> decide +kernel, 131, by and_intros <;> decide +kernel⟩,
   ⟨pick vals8 17, 2, 3, by constructor <;> decide +kernel, 131, by and_intros <;> decide +kernel⟩,
   ⟨pick vals8 18, 2, 3, by constructor <;> decide +kernel, 131, by decide +kernel, by decide +kernel, by decide +kernel,
       by decide +kernel, 0, by decide +kernel, by constructor <;> decide +kernel⟩⟩

end Gates

namespace Governor

def ro (n : Nat) (s : State) : State := s.setEnt flt4 4 n 0 1
def e2 := slInst .egv 2
def eg (f : EgvSt → EgvSt) (s : State) : State := s.updEgv 2 f
def alive : State := let s := ({ boot := { ({} : State).boot with inReset := false, avs := true, vkeep := true } } :
    State); s.setReg egv4 R.EGV_DCTRL 5
def q (s : State) : State := ro 84 (ro 87 (ro 88 s))
def lev (l : Nat) (s : State) : State := (s.setRegF e2 R.EGV_SSTAT 0 3 l)
def LL : List State := [0, 2, 5].flatMap fun l => [0, 5, 9].flatMap fun f => [0,
    1].map fun ft => eg (fun e => {e with want := l, falls := f, fallTo := ft}) (lev l alive)
def vals7 : List State := LL ++ LL.map (fun s => s.setRegF e2 R.EGV_SCTRL 16 4 11) ++
    LL.map (fun s => (s.setRegF e2 R.EGV_SCTRL 0 3 2).setRegF e2 R.EGV_SCTRL 4 3 4) ++
  LL.map (eg fun e => {e with changing := some 5, want := 5}) ++ LL.map (eg fun e => {e with changing := some e.want}) ++
      (LL.map (eg fun e => {e with changing := some 5, want := 5})).map (ro 85) ++
  [999000, 1000001, 5000000, 20000000].flatMap (fun n => LL.map (fun s =>
      { eg (fun e => {e with droop := true, droopSince := 7}) s with time := 7 + n})) ++
  [999000, 1000001, 5000000, 20000000].flatMap (fun n => LL.map (fun s =>
      { eg (fun e => {e with droop := true, droopSince := 7, droopCap := some 1}) s with time := 7 + n}))
/-- What `TemperaturesAreLimited` assumes of every sample, and that the sensor neither has failed nor fails. -/
def Samples (s : State) (temp : BitVec 16) : Prop :=
  Calm s ∧ s.boot.vaon = true ∧ (Config.variantS = false ∨ 0 ≤ temp.toInt) ∧
    (s.regB e2 R.EGV_SENSOR 16 || decide (temp.toInt < -440 ∨ 1200 < temp.toInt)) = false
def cooling : State := ({ { alive with boot := { alive.boot with inReset := true } } with flt := { alive.flt with t115 := true } }).setRegB
  egv4 R.EGV_DSTAT 31 true
/-- Hypotheses of `TemperaturesAndPowerAreLimited`, `TemperaturesAreLimited` that can be met, by a sample that fails too. -/
theorem test_witness_TemperaturesAreLimited :
    (∃ s, ∃ temp : BitVec 16, Samples s temp ∧ s.boot.inReset = false ∧ ReportOnly s 84 ∧ ReportOnly s 87 ∧
      (∀ n : Slice, avsFailed s n = false) ∧ temp.toInt < 920 ∧ ∀ v ∈ allReadings s, v < 920) ∧
    (∃ s, Calm s ∧ s.boot.vaon = true ∧ decide ((1300 : BitVec 16).toInt < -440 ∨ 1200 < (1300 : BitVec 16).toInt) = true ∧
      s.regB e2 R.EGV_SENSOR 16 = false ∧ ReportOnly s 84 ∧ ReportOnly s 87 ∧ ∀ v ∈ allReadings s, v < 920) ∧
    (∃ s, ∃ temp : BitVec 16, Samples s temp ∧ s.boot.inReset = true ∧ temp.toInt < 1000 ∧ s.flt.t115 = true ∧
      (∀ v ∈ allReadings s, v < 1000) ∧ s.regB egv4 R.EGV_DSTAT 31 = true) ∧
    (∃ s, ∃ temp : BitVec 16, Samples s temp ∧ s.boot.inReset = false ∧ 920 ≤ temp.toInt ∧ temp.toInt < 1000 ∧
      (∀ v ∈ allReadings s, v < 1000) ∧ s.flt.t115 = false ∧ ReportOnly s 87 ∧ faultClass s 88 = 3 ∧ NoSnapshot s 88) ∧
    (∃ s, ∃ temp : BitVec 16, Samples s temp ∧ 1000 ≤ temp.toInt ∧ faultClass s 89 = 4) := by
  refine ⟨⟨q alive, 300, ⟨by decide +kernel, by decide +kernel, .inr (by decide), by decide +kernel⟩, by decide +kernel,
      by constructor <;> decide +kernel, by constructor <;> decide +kernel, by and_intros <;> decide +kernel⟩,
    ⟨q alive, by decide +kernel, by decide +kernel, by decide, by decide +kernel, by constructor <;> decide +kernel,
      by constructor <;> decide +kernel, by decide +kernel⟩,
    ⟨cooling, 300, ⟨by decide +kernel, by decide +kernel, .inr (by decide), by decide +kernel⟩, by and_intros <;> decide +kernel⟩,
    ⟨((q alive).setReg flt4 R.FLT_CTRL 0).setEnt flt4 4 88 0 3, 960,
      ⟨by decide +kernel, by decide +kernel, .inr (by decide), by decide +kernel⟩, by decide +kernel, by decide, by decide,
      by decide +kernel, by decide +kernel, by constructor <;> decide +kernel, by and_intros <;> decide +kernel⟩,
    ⟨cooling, 1000, ⟨by decide +kernel, by decide +kernel, .inr (by decide), by decide +kernel⟩, by and_intros <;> decide +kernel⟩⟩
/-- Hypotheses of `LevelsFollowDemandAndCap` that can be met. -/
theorem test_witness_LevelsFollowDemandAndCap :
    (∃ s : State, ∃ sl : Slice, Steady s sl ∧ s.regB (slInst .egv sl) R.EGV_SCTRL 19 = true) ∧
    (∃ s : State, ∃ sl : Slice, Steady s sl ∧ ∃ d0, d0 < 6 ∧
        s.regB (slInst .egv sl) R.EGV_SCTRL 19 = false ∧
        (min 5 (s.regF (slInst .egv sl) R.EGV_SCTRL 0 3)) ≤ (min 5 (s.regF (slInst .egv sl) R.EGV_SCTRL 4 3)) ∧ ((∀ l,
        l < d0 → ¬ (serves (s.regF (slInst .egv sl) R.EGV_SCTRL 12 4)
          (s.actOf sl 12) (s.actOf sl 13) (s.actOf sl 14)) l)) ∧
        (((serves (s.regF (slInst .egv sl) R.EGV_SCTRL 12 4)
          (s.actOf sl 12) (s.actOf sl 13) (s.actOf sl 14)) d0 ∨ d0 = 5)) ∧
        ((s.egv sl).want) < (min (max d0 (min 5 (s.regF (slInst .egv sl) R.EGV_SCTRL 0 3))) (min 5 (s.regF (slInst .egv sl) R.EGV_SCTRL 4 3)))) ∧
    (∃ s : State, ∃ sl : Slice, Steady s sl ∧ ∃ d0, d0 < 6 ∧
        s.regB (slInst .egv sl) R.EGV_SCTRL 19 = false ∧
        (min 5 (s.regF (slInst .egv sl) R.EGV_SCTRL 0 3)) ≤ (min 5 (s.regF (slInst .egv sl) R.EGV_SCTRL 4 3)) ∧ ((∀ l,
        l < d0 → ¬ (serves (s.regF (slInst .egv sl) R.EGV_SCTRL 12 4)
          (s.actOf sl 12) (s.actOf sl 13) (s.actOf sl 14)) l)) ∧
        (((serves (s.regF (slInst .egv sl) R.EGV_SCTRL 12 4)
          (s.actOf sl 12) (s.actOf sl 13) (s.actOf sl 14)) d0 ∨ d0 = 5)) ∧
        (min (max d0 (min 5 (s.regF (slInst .egv sl) R.EGV_SCTRL 0 3))) (min 5 (s.regF (slInst .egv sl) R.EGV_SCTRL 4 3))) = ((s.egv sl).want)) ∧
    (∃ s : State, ∃ sl : Slice, Steady s sl ∧ ∃ d0, d0 < 6 ∧
        s.regB (slInst .egv sl) R.EGV_SCTRL 19 = false ∧
        (min 5 (s.regF (slInst .egv sl) R.EGV_SCTRL 0 3)) ≤ (min 5 (s.regF (slInst .egv sl) R.EGV_SCTRL 4 3)) ∧ ((∀ l,
        l < d0 → ¬ (serves (s.regF (slInst .egv sl) R.EGV_SCTRL 12 4)
          (s.actOf sl 12) (s.actOf sl 13) (s.actOf sl 14)) l)) ∧
        (((serves (s.regF (slInst .egv sl) R.EGV_SCTRL 12 4)
          (s.actOf sl 12) (s.actOf sl 13) (s.actOf sl 14)) d0 ∨ d0 = 5)) ∧
        (min (max d0 (min 5 (s.regF (slInst .egv sl) R.EGV_SCTRL 0 3))) (min 5 (s.regF (slInst .egv sl) R.EGV_SCTRL 4 3))) < ((s.egv sl).want) ∧ ((s.egv sl).falls) < 9) ∧
    (∃ s : State, ∃ sl : Slice, Steady s sl ∧ ∃ d0, d0 < 6 ∧
        s.regB (slInst .egv sl) R.EGV_SCTRL 19 = false ∧
        (min 5 (s.regF (slInst .egv sl) R.EGV_SCTRL 0 3)) ≤ (min 5 (s.regF (slInst .egv sl) R.EGV_SCTRL 4 3)) ∧ ((∀ l,
        l < d0 → ¬ (serves (s.regF (slInst .egv sl) R.EGV_SCTRL 12 4)
          (s.actOf sl 12) (s.actOf sl 13) (s.actOf sl 14)) l)) ∧
        (((serves (s.regF (slInst .egv sl) R.EGV_SCTRL 12 4)
          (s.actOf sl 12) (s.actOf sl 13) (s.actOf sl 14)) d0 ∨ d0 = 5)) ∧
        (min (max d0 (min 5 (s.regF (slInst .egv sl) R.EGV_SCTRL 0 3))) (min 5 (s.regF (slInst .egv sl) R.EGV_SCTRL 4 3))) < ((s.egv sl).want) ∧ 9 ≤ ((s.egv sl).falls) ∧ (s.egv sl).fallTo < ((s.egv sl).want)) ∧
    (∃ s : State, ∃ sl : Slice, Quiet s ∧ s.inBlockReset (slInst .egv sl) = false ∧ ∃ l, l < 6 ∧ (s.egv sl).changing = some l ∧
        l = min ((s.egv sl).want) (capField s sl)) ∧
    (∃ s : State, ∃ sl : Slice, Quiet s ∧ s.inBlockReset (slInst .egv sl) = false ∧ (s.egv sl).changing.isSome = true ∧
        ReportOnly s 85) ∧
    (∃ s : State, ∃ sl : Slice, Quiet s ∧ s.inBlockReset (slInst .egv sl) = false ∧ (s.egv sl).changing = none ∧ s.boot.avs = true ∧
        ReportOnly s 85) ∧
    (∃ s : State, ∃ sl : Slice, Quiet s ∧ (s.egv sl).changing = none) ∧
    (∃ s : State, ∃ sl : Slice, Quiet s ∧ s.failed sl = false) ∧ (∃ s : State, ∃ sl : Slice, Quiet s ∧ s.failed sl = true) ∧
    (∃ s : State, ∃ sl : Slice, Quiet s ∧ s.failed sl = false ∧ (s.egv sl).droop = true ∧ (s.egv sl).droops = [] ∧
        (s.egv sl).droopSince ≤ s.time ∧ ((s.time - (s.egv sl).droopSince) ≤ 1000000 ∨ (s.egv sl).droopCap.isSome = true)) ∧
    (∃ s : State, ∃ sl : Slice, Quiet s ∧ s.failed sl = false ∧ (s.egv sl).droop = true ∧ (s.egv sl).droops = [] ∧
        (s.egv sl).droopSince ≤ s.time ∧ 1000000 < (s.time - (s.egv sl).droopSince) ∧
        (s.time - (s.egv sl).droopSince) ≤ 10000000 ∧ (s.egv sl).droopCap = none ∧ Steady s sl) ∧
    (∃ s : State, ∃ sl : Slice, Quiet s ∧ s.failed sl = false ∧ avsFailed s sl = false) :=
  ⟨⟨pick vals7 18, 2, by constructor <;> decide +kernel, by decide +kernel⟩,
   ⟨{ pick vals7 0 with acts := ({} : Tbl Nat).set 46 20000000 }, 2, by constructor <;> decide +kernel, 5, by and_intros <;> first | decide +kernel | (unfold serves; decide +kernel)⟩,
   ⟨pick vals7 0, 2, by constructor <;> decide +kernel, 0, by and_intros <;> first | decide +kernel | (unfold serves; decide +kernel)⟩,
   ⟨pick vals7 6, 2, by constructor <;> decide +kernel, 0, by and_intros <;> first | decide +kernel | (unfold serves; decide +kernel)⟩,
   ⟨pick vals7 10, 2, by constructor <;> decide +kernel, 0, by decide +kernel, by decide +kernel,
       by decide +kernel, by unfold serves; decide +kernel, by unfold serves; decide +kernel, by and_intros <;> decide +kernel⟩,
   ⟨pick vals7 54, 2, by decide +kernel, by decide +kernel, 5, by and_intros <;> decide +kernel⟩,
   ⟨pick vals7 54, 2, by decide +kernel, by decide +kernel, by decide +kernel, by constructor <;> decide +kernel⟩,
   ⟨pick vals7 0, 2, by decide +kernel, by decide +kernel, by decide +kernel, by decide +kernel, by constructor <;> decide +kernel⟩,
   ⟨pick vals7 0, 2, by decide +kernel, by decide +kernel⟩,
   ⟨pick vals7 0, 2, by and_intros <;> decide +kernel⟩,
   ⟨(pick vals7 0).setRegB knl4 R.KNL_BOOT 14 true, 2, by and_intros <;> decide +kernel⟩,
   ⟨pick vals7 108, 2, by and_intros <;> decide +kernel⟩,
   ⟨pick vals7 126, 2, by and_intros <;> first | decide +kernel | (constructor <;> decide +kernel)⟩,
   ⟨pick vals7 0, 2, by decide +kernel, by decide +kernel⟩⟩
/-- Hypotheses of `TemperaturesAndPowerAreLimited`, `GovernorKeepsThePowerCap` that can be met: a tick that starts the thermal
nodes at a reading, one that goes on with them, and one in which a sprint ends. -/
theorem test_witness_GovernorKeepsThePowerCap :
    (∃ s : State, (Quiet s ∧ s.boot.vaon = true) ∧ (∀ sl : Slice, 0 ≤ thermalFactor s sl) ∧
      ((∀ sl : Slice, levelField s sl ≤ 5) ∧ NodeValues s) ∧ s.gov.init = false ∧ -40 ∈ allReadings s ∧
      ∀ v ∈ allReadings s, -40 ≤ v) ∧
    (∃ s : State, (Quiet s ∧ s.boot.vaon = true) ∧ ((∀ sl : Slice, levelField s sl ≤ 5) ∧ NodeValues s) ∧
      (s.gov.init = true ∨ allReadings s = []) ∧ s.boot.vkeep = true) ∧
    (∃ s t : State, (Quiet s ∧ s.boot.vaon = true) ∧ exec .governorTick s = .next t ∧
      s.regB egv4 R.EGV_DSTAT 29 = true ∧ t.regB egv4 R.EGV_DSTAT 29 = false) := by
  refine ⟨⟨alive.setReg e2 R.EGV_SENSOR 0xFFD8, ?_⟩,
    ⟨{ alive with gov := { alive.gov with init := true } }, ?_⟩,
    ⟨(alive.setReg egv4 R.EGV_DCTRL 0).setRegB egv4 R.EGV_DSTAT 29 true, _, by decide +kernel, rfl, by decide +kernel,
      by decide +kernel⟩⟩
  all_goals unfold NodeValues; and_intros <;> decide +kernel

end Governor

namespace Sleep

def e2 := slInst .egv 2
def eg (f : EgvSt → EgvSt) (s : State) : State := s.updEgv 2 f
def alive : State := let s := ({ boot := { ({} : State).boot with inReset := false, avs := true, vkeep := true } } :
    State); (up s).setReg egv4 R.EGV_DCTRL 5
def sl_ (k : Nat) (w : Bool) (s : State) : State := (s.setRegF e2 R.EGV_SSTAT 8 2 k).setRegB e2 R.EGV_SSTAT 10 w
def dimm (s : State) : State := (forAll [8,9,10,11] (fun c t => (t.setReg (chInst c) (chOff c R.DTC_DIMM) 0x07).setReg (chInst c) (chOff c R.DTC_RANKPWR) 0x2) s)
def hk (s : State) : State := ((s.setReg (slInst .pup 2) R.PUP_CTRL 0xFF03).setEnt (slInst .pup 2) 3 245 0 0x4321).setEntry e2 1 5 0 [0xFFFF0000, 0x00010003]
def B : List State := [alive, dimm (alive.setReg e2 R.EGV_SCTRL 0x2750)]
def lev (s : State) : State := s.updTmg 2 fun t =>
    {t with nodeC := t.nodeC.set 4 5, svcP := t.svcP.set 4 5, queues := t.queues.set 7 [{}]}
def vals4 : List State := B ++ B.map (sl_ 1 false) ++ B.map (sl_ 2 false) ++ B.map (sl_ 2 true) ++
    B.map (fun s => lev (sl_ 3 true s)) ++ [eg (fun e => {e with bucket := -500, changing := none}) (sl_ 1 true
        alive)] ++ B.map (fun s => s.setLane 130 R.PRT_PSTAT 0 4 7) ++
        B.map (fun s => (s.setLane 130 R.PRT_PSTAT 0 4 7).setLane 130 R.PRT_PSTAT 8 2 3)
  ++ B.map (eg fun e => {e with changing := some 3}) ++ B.map (fun s => s.updMacro 17 fun m => {m with rates := [100, 800]})
  ++ B.map (fun s => s.setRegF egv4 R.EGV_PLANT 24 3 5)
  ++ [hk alive, eg (fun e => {e with bucket := 10^9}) (hk alive), (hk alive).setRegB (tmgI 2) R.TMG_ESTAT 0 true,
      (eg (fun e => {e with bucket := 10^9}) (hk alive)).setEntry e2 1 5 0 [0xFFFF0000, 3],
       (eg (fun e => {e with bucket := 10^9}) (hk alive)).setEntry e2 1 5 0 [0x0000, 3], sl_ 2 false (hk alive)]
def ths (s : State) : State := forAll (List.range 6) (fun k t => t.setReg egv4 (R.EGV_STH + 4 * k) (BitVec.ofNat 32 (0x80000000 + 0x20000 + 2000 - 300 * k))) s
def pl (code stage plant : Nat) (s : State) : State := let t := (s.setRegF egv4 R.EGV_PLANT 0 12 code).setRegF egv4 R.EGV_PLANT 24 3 stage
  { t with gov := { t.gov with plantStage := plant } }
def port (p w : Nat) (st : Nat) (s : State) : State := (s.setLane p R.PRT_PCFG 0 17 w).setLane p R.PRT_PSTAT 0 4 st
def ports (s : State) : State := port 130 0x1801 7 (port 7 0x1001 7 (port 8 1 7 (port 9 0x1001 3 s)))
def dq (s : State) : State := s.updTmg 2 fun t => {t with
        queues := t.queues.set 7 [{cid := 5, fid := 1, eslice := 2, port := 130, deep := some 4096},
        {cid := 6, fid := 1, port := 130, eslice := 2}]}
def g (f : GovSt → GovSt) (s : State) : State := { s with gov := f s.gov }
def S : List State := [ths alive, dq (ports (ths alive))]
def bl (l : List (Nat)) (s : State) : State := g (fun x =>
    {x with below := l.zipIdx.foldl (fun t (n, k) => t.set k n) x.below}) s
def vals10 : List State := S ++ S.map (bl [2,2,2]) ++ S.map (bl [15,2,3,2]) ++ S.map (bl [3,3,3,3,3]) ++
    S.map (pl 2000 2 2) ++ S.map (pl 2010 5 5) ++ S.map (fun s => (pl 4000 5 3 s).setRegF egv4 R.EGV_STAGECTL 0 3 3) ++
        S.map (fun s => pl 4000 1 0 (s.setRegB egv4 R.EGV_DSTAT 29 true)) ++
        S.map (fun s => s.setRegF egv4 R.EGV_STAGECTL 4 3 4) ++ S.map (fun s => s.setRegF egv4 R.EGV_STAGECTL 4 3 5)
  ++ S.map (pl 4000 6 0) ++ S.map (fun s => g (fun x => {x with s6Held := true}) (pl 4000 6 0 s)) ++
      S.map (fun s => g (fun x => {x with s6Held := true}) (pl 4000 4 0 s)) ++ S.map (g fun x => {x with drain5 := true})
  ++ S.map (fun s => g (fun x => {x with shed := [(7, 4), (9, 4)]}) (pl 4000 4 4 (port 7 0x1001 8 s)))
/-- Hypotheses of `SlicesSleepAndWork` that can be met. -/
theorem test_witness_SlicesSleepAndWork :
    (∃ s : State, ∃ sl : Slice, Quiet s ∧ (fun k => s.regB (slInst .egv sl) R.EGV_SCTRL k = true) 8 ∧
        Drowsy s sl 1) ∧
    (∃ s : State, ∃ sl : Slice, Quiet s ∧ ¬ ((fun k => s.regB (slInst .egv sl) R.EGV_SCTRL k = true) 8 ∧
        Drowsy s sl 1)) ∧
    (∃ s : State, ∃ sl : Slice, Quiet s ∧ (fun k => s.regB (slInst .egv sl) R.EGV_SCTRL k = true) 9 ∧
        Drowsy s sl 2 ∧ (s.egv sl).changing = none ∧ s.flt.resets = [] ∧
        (∀ m : Fin 8, ∀ r ∈ (s.macro (8 * sl.val + m.val)).rates,
          r * 1500 ≤ 1024 * min 2048 (s.regF (slInst .egv sl) R.EGV_NAPCFG 0 11)) ∧ FabricFits s sl) ∧
    (∃ s : State, ∃ sl : Slice, Quiet s ∧
        (¬ ((fun k => s.regB (slInst .egv sl) R.EGV_SCTRL k = true) 9 ∧
        Drowsy s sl 2) ∨ (s.egv sl).changing ≠ none ∨ ¬ FabricFits s sl)) ∧
    (∃ s : State, ∃ sl : Slice, Quiet s ∧
        ((fun k => s.regB (slInst .egv sl) R.EGV_SCTRL k = true) 10 ∨ 5 ≤ s.stage) ∧ Drowsy s sl 3 ∧
        (s.egv sl).changing = none ∧ s.flt.resets = [] ∧ PortsRest s sl) ∧
    (∃ s : State, ∃ sl : Slice, Quiet s ∧
        (¬ (((fun k => s.regB (slInst .egv sl) R.EGV_SCTRL k = true) 10 ∨ 5 ≤ s.stage) ∧
        Drowsy s sl 3) ∨ (s.egv sl).changing ≠ none ∨ ¬ PortsRest s sl)) ∧
    (∃ s : State, ∃ sl : Slice, Quiet s ∧ (s.sleep sl = 0 ∨ s.regB (slInst .egv sl) R.EGV_SSTAT 10 = false)) ∧
    (∃ s : State, ∃ sl : Slice, Quiet s ∧ s.sleep sl ≠ 0 ∧ s.regB (slInst .egv sl) R.EGV_SSTAT 10 = true ∧
        (s.failed sl = false ∧ (s.egv sl).changing = none ∧ s.flt.resets = [] ∧ s.flt.waiting = []) ∧ (s.fwd sl).queue = [] ∧ s.sleep sl = 3 ∧
        ∃ since, (s.egv sl).sleptAt = some since ∧ since ≤ s.time) ∧
    (∃ s : State, ∃ sl : Slice, Quiet s ∧ s.sleep sl ≠ 0 ∧ s.regB (slInst .egv sl) R.EGV_SSTAT 10 = true ∧
        (s.failed sl = false ∧ (s.egv sl).changing = none ∧ s.flt.resets = [] ∧ s.flt.waiting = []) ∧ (s.fwd sl).queue = [] ∧ s.sleep sl ≠ 3 ∧
        ∃ since, (s.egv sl).sleptAt = some since ∧ since ≤ s.time) ∧
    (∃ s : State, ∃ sl : Slice, Quiet s ∧ ∃ task : Fin 16,
        (((s.ent (slInst .egv sl) 1 task.val 1).getLsbD 16 = true ∧
        (1 ≤ s.stage ∨ s.regB (tmgI sl) R.TMG_ESTAT 0 = true)))) ∧
    (∃ s : State, ∃ sl : Slice, Quiet s ∧ ∃ task : Fin 16, ∃ forced : Bool,
        (¬ ((s.ent (slInst .egv sl) 1 task.val 1).getLsbD 16 = true ∧
        (1 ≤ s.stage ∨ s.regB (tmgI sl) R.TMG_ESTAT 0 = true))) ∧
        (s.regB (slInst .pup sl) R.PUP_CTRL (8 + task.val) = true ∧
        s.regB (slInst .pup sl) R.PUP_HKSTAT task.val = false ∧
        (s.ent (slInst .pup sl) (if s.regB (slInst .pup sl) R.PUP_CTRL 1 then 3 else 2) (240 + task.val) 0).getLsbD 14 = true ∧ s.running sl = [] ∧
        s.failed sl = false ∧ s.flt.resets = [] ∧ (s.pup sl).groupReset = [] ∧
        (s.egv sl).tasks = []) ∧ s.sleep sl = 0 ∧ (s.ctx (⟨sl, 384, 0⟩)).running = false ∧ ((forced = true ∧ fld (s.ent (slInst .egv sl) 1 task.val 0) 16 16 ≠ 0) ∨ ((reserves s sl 2 : Int) + (1024 * (fld (s.ent (slInst .egv sl) 1 task.val 1) 0 16 * 1000) : Nat) ≤ (s.egv sl).bucket))) ∧
    (∃ s : State, ∃ sl : Slice, Quiet s ∧ ∃ task : Fin 16, ∃ forced : Bool, ¬ (forced = true ∧
        fld (s.ent (slInst .egv sl) 1 task.val 0) 16 16 ≠ 0) ∧
        ¬ ((reserves s sl 2 : Int) + (1024 * (fld (s.ent (slInst .egv sl) 1 task.val 1) 0 16 * 1000) : Nat) ≤ (s.egv sl).bucket) ∧ s.sleep sl = 0) ∧
    (∃ s : State, ∃ sl : Slice, Quiet s ∧ ∃ task : Fin 16, ∃ forced : Bool,
        (¬ ((s.ent (slInst .egv sl) 1 task.val 1).getLsbD 16 = true ∧
        (1 ≤ s.stage ∨ s.regB (tmgI sl) R.TMG_ESTAT 0 = true))) ∧
        (s.regB (slInst .pup sl) R.PUP_CTRL (8 + task.val) = true ∧
        s.regB (slInst .pup sl) R.PUP_HKSTAT task.val = false ∧
        (s.ent (slInst .pup sl) (if s.regB (slInst .pup sl) R.PUP_CTRL 1 then 3 else 2) (240 + task.val) 0).getLsbD 14 = true ∧ s.running sl = [] ∧
        s.failed sl = false ∧ s.flt.resets = [] ∧ (s.pup sl).groupReset = [] ∧
        (s.egv sl).tasks = []) ∧ s.sleep sl ≠ 0 ∧ (forced = true ∧ fld (s.ent (slInst .egv sl) 1 task.val 0) 16 16 ≠ 0)) :=
  ⟨⟨pick vals4 0, 2, by decide +kernel, by unfold Drowsy; decide +kernel⟩,
   ⟨pick vals4 2, 2, by decide +kernel, by unfold Drowsy; decide +kernel⟩,
   ⟨pick vals4 1, 2, by and_intros <;> first | decide +kernel | (unfold Drowsy; decide +kernel) | (unfold FabricFits; decide +kernel)⟩,
   ⟨pick vals4 0, 2, by decide +kernel, by unfold Drowsy FabricFits; decide +kernel⟩,
   ⟨pick vals4 1, 2, by and_intros <;> first | decide +kernel | (unfold Drowsy; decide +kernel) | (unfold PortsRest; decide +kernel)⟩,
   ⟨pick vals4 0, 2, by decide +kernel, by unfold Drowsy PortsRest; decide +kernel⟩,
   ⟨pick vals4 0, 2, by decide +kernel, by decide +kernel⟩,
   ⟨eg (fun e => {e with sleptAt := some 0}) (pick vals4 8), 2, by decide +kernel, by decide +kernel, by decide +kernel,
       by decide +kernel, by decide +kernel, by decide +kernel, 0, by decide +kernel, by decide +kernel⟩,
   ⟨eg (fun e => {e with sleptAt := some 0}) (pick vals4 6), 2, by decide +kernel, by decide +kernel, by decide +kernel,
       by decide +kernel, by decide +kernel, by decide +kernel, 0, by decide +kernel, by decide +kernel⟩,
   ⟨pick vals4 19, 2, by decide +kernel, 5, by decide +kernel⟩,
   ⟨pick vals4 21, 2, by decide +kernel, 5, true, by and_intros <;> decide +kernel⟩,
   ⟨pick vals4 0, 2, by decide +kernel, 5, false, by and_intros <;> decide +kernel⟩,
   ⟨pick vals4 26, 2, by decide +kernel, 5, true, by and_intros <;> decide +kernel⟩⟩
def dark (s : State) : State := { s with boot := { s.boot with inReset := true } }
/-- Hypotheses of `SupplyStages` that can be met. -/
theorem test_witness_SupplyStages :
    (∃ s : State, Quiet s ∧ s.stage < 6 ∧ ∃ volts : List Int, volts.length = 16) ∧
    (∃ s : State, Quiet s ∧ Reached s egv4 ∧ ∃ v : Word, s.stage < 6 ∧ fld v 0 3 < 6 ∧
        max s.gov.plantStage s.gov.pmbStage < 6 ∧ v.getLsbD 8 = s.regB egv4 R.EGV_STAGECTL 8) ∧
    (∃ s : State, Quiet s ∧ Reached s egv4 ∧ ∃ v : Word, s.stage < 6 ∧ s.stage = 5 ∧ 6 ≤ fld v 0 3) ∧
    (∃ s : State, Quiet s ∧
        (s.stage = 0 ∨ ¬ (((s.gov.plantStage < s.stage ∨ (th s s.stage).getLsbD 31 = false ∨ fld (th s s.stage) 0 12 + fld (th s s.stage) 16 12 ≤ s.regF egv4 R.EGV_PLANT 0 12) ∧ s.gov.pmbStage < s.stage ∧ min 6 (s.regF egv4 R.EGV_STAGECTL 0 3) < s.stage) ∧ (s.gov.toShed = [] ∧ (s.stage = 5 → s.gov.drain5 = false) ∧ (s.stage = 6 → s.gov.s6Held = true))))) ∧
    (∃ s : State, Quiet s ∧ 0 < s.stage ∧
        (((s.gov.plantStage < s.stage ∨ (th s s.stage).getLsbD 31 = false ∨ fld (th s s.stage) 0 12 + fld (th s s.stage) 16 12 ≤ s.regF egv4 R.EGV_PLANT 0 12) ∧ s.gov.pmbStage < s.stage ∧ min 6 (s.regF egv4 R.EGV_STAGECTL 0 3) < s.stage)) ∧ ((s.gov.toShed = [] ∧ (s.stage = 5 → s.gov.drain5 = false) ∧ (s.stage = 6 → s.gov.s6Held = true))) ∧ ∃ x ∈ s.gov.shed, x.2 = s.stage ∧ x.1 < 256 ∧ s.portState x.1 = 8) ∧
    (∃ s : State, Quiet s ∧ Reached s egv4 ∧ ∃ k : Fin 6, ∃ v : Word, ((∀ a b : Fin 6,
        a < b → ((fun j => if j = k.val + 1 then v else th s j) (a.val + 1)).getLsbD 31 = true → ((fun j => if j = k.val + 1 then v else th s j) (b.val + 1)).getLsbD 31 = true → fld ((fun j => if j = k.val + 1 then v else th s j) (b.val + 1)) 0 12 ≤ fld ((fun j => if j = k.val + 1 then v else th s j) (a.val + 1)) 0 12))) ∧
    (∃ s : State, Quiet s ∧ Reached s egv4 ∧ ∃ k : Fin 6, ∃ v : Word, (¬ (∀ a b : Fin 6,
        a < b → ((fun j => if j = k.val + 1 then v else th s j) (a.val + 1)).getLsbD 31 = true → ((fun j => if j = k.val + 1 then v else th s j) (b.val + 1)).getLsbD 31 = true → fld ((fun j => if j = k.val + 1 then v else th s j) (b.val + 1)) 0 12 ≤ fld ((fun j => if j = k.val + 1 then v else th s j) (a.val + 1)) 0 12))) ∧
    (∃ s : State, Quiet s ∧ s.gov.drain5 = false) ∧
    (∃ s : State, Quiet s ∧ s.gov.drain5 = true ∧ (∀ sl, (s.tmg sl).queues.wf = true)) ∧
    (∃ s : State, Quiet s ∧ (s.stage ≠ 6 ∨ s.gov.s6Held = true)) ∧
    (∃ s : State, Quiet s ∧ s.stage = 6 ∧ s.gov.s6Held = false) ∧
    (∃ s : State, Quiet s ∧ s.gov.s6Held = true ∧ s.stage < 6) ∧
    (∃ s : State, Quiet s ∧ (s.gov.s6Held = false ∨ 6 ≤ s.stage)) ∧
    (∃ s : State, Calm s ∧ s.boot.inReset = true ∧ s.boot.vaon = true ∧ 0 < s.stage ∧
        (s.gov.plantStage < s.stage ∨ (th s s.stage).getLsbD 31 = false ∨
          fld (th s s.stage) 0 12 + fld (th s s.stage) 16 12 ≤ s.regF egv4 R.EGV_PLANT 0 12) ∧
        s.gov.pmbStage < s.stage ∧ min 6 (s.regF egv4 R.EGV_STAGECTL 0 3) < s.stage ∧
        s.gov.toShed = [] ∧ (s.stage = 5 → s.gov.drain5 = false) ∧ (s.stage = 6 → s.gov.s6Held = true)) ∧
    (∃ s : State, Calm s ∧ s.boot.inReset = true ∧ s.boot.vaon = true ∧ s.gov.s6Held = true ∧ s.stage < 6) :=
  ⟨⟨pick vals10 0, by decide +kernel, by decide +kernel, List.replicate 16 0, by decide +kernel⟩,
   ⟨pick vals10 0, by decide +kernel, by constructor <;> decide +kernel, 0, by and_intros <;> decide +kernel⟩,
   ⟨pick vals10 10, by decide +kernel, by constructor <;> decide +kernel, 6, by and_intros <;> decide +kernel⟩,
   ⟨pick vals10 0, by decide +kernel, by decide +kernel⟩,
   ⟨pick vals10 28, by decide +kernel, by decide +kernel, by decide +kernel, by decide +kernel, (7, 4),
       by and_intros <;> decide +kernel⟩,
   ⟨pick vals10 0, by decide +kernel, by constructor <;> decide +kernel, 0, 0, by decide +kernel⟩,
   ⟨pick vals10 0, by decide +kernel, by constructor <;> decide +kernel, 0, 0x80000100, by decide +kernel⟩,
   ⟨pick vals10 0, by decide +kernel, by decide +kernel⟩,
   ⟨pick vals10 26, by and_intros <;> decide +kernel⟩,
   ⟨pick vals10 0, by decide +kernel, by decide +kernel⟩,
   ⟨pick vals10 20, by and_intros <;> decide +kernel⟩,
   ⟨pick vals10 24, by and_intros <;> decide +kernel⟩,
   ⟨pick vals10 0, by decide +kernel, by decide +kernel⟩,
   ⟨dark (pick vals10 28), by and_intros <;> decide +kernel⟩,
   ⟨dark (pick vals10 24), by and_intros <;> decide +kernel⟩⟩

end Sleep

namespace Time

def mk (f op : Nat) : Cmd := {opcode := op, tag := 7, fn := f, seq := 5}
def t0 : State := {
        regs := {} , tsu := { sec := 5, ns := 400000, frac := 2^47, freq := -999, slew := 2^50+3 },
        boot := {({} : State).boot with vkeep := true}}
def b : State := ((((up t0).setReg tsu4 R.TSU_JUMPTH 16).setReg tsu4 R.TSU_FREQHI 0x80).setReg tsu4 R.TSU_STAT 9).setReg tsu4 R.TSU_STEPSLO 3
def out (cfg slo ns per wid : Word) (s : State) : State := (List.range 8).foldl (fun s n => ((((s.setReg tsu4 (R.TSU_TOUTCFG + 32 * n) cfg).setReg tsu4 (R.TSU_TOUTSLO + 32 * n) slo).setReg tsu4 (R.TSU_TOUTNS + 32 * n) ns).setReg tsu4 (R.TSU_TOUTPER + 32 * n) per).setReg tsu4 (R.TSU_TOUTWID + 32 * n) wid) s
def fnx (f : Nat) (c : Cmd) (s : State) : State :=
    { s with hif := { s.hif with fns := s.hif.fns.set f { accepted := [c, mk f 1] } } }
def mkm (s : State) (k : Nat) : State := {s with knl := {s.knl with store := (List.range 8).foldl (fun st j => st.set (0x1000 + 8 * k + j) (if j = 2 then 1 else 0)) s.knl.store}}
def S : List State := [b, b.setReg tsu4 R.TSU_STAT 5, b.setReg tsu4 R.TSU_STAT 2,
    (b.setReg tsu4 R.TSU_CTRL 1).setReg tsu4 R.TSU_STAT 8, {b with tsu := {b.tsu with ksetPending := true, slew := 0}},
        {b with tsu := {b.tsu with slew := -(2^60)}}, {b with boot := {b.boot with vkeep := false}},
        b.setReg knl4 R.KNL_BOOT 1, (b.setReg knl4 R.KNL_BOOT 1).setReg tsu4 R.TSU_STAT 9 ,
        {b with tsu := {b.tsu with slew := -2^40}}.setReg knl4 R.KNL_BOOT 1,
        {b with tsu := {b.tsu with slew := 5}}.setReg knl4 R.KNL_BOOT 1,
  mkm (fnx 0 (mk 0 0x50) b) 0, mkm (fnx 3 (mk 3 0x50) b) 3, (mkm (fnx 3 (mk 3 0x50) b) 3).setReg tsu4 R.TSU_STAT 8]
def vals4 : List State := S
def T : List State := [b, out 4 5 500000 1000 20 b, out 5 5 400099 0 0 b, out 4 5 400100 99 500 b, out 4 5 1 777 10 b,
    out 4 6 1 777 10 b].flatMap fun s => [s,
        {s with
                tsu := {s.tsu with
                    tout := (List.range 8).foldl (fun t n => t.set n
                    {mode := 1 + n % 2, start := 1, period := 100, width := 50, next := 300 + n, pin := n = 2}) {},
                    latches := (List.range 5).foldl (fun t n => t.set n {valid := n % 2 = 1, sec := 6, ns := 9}) {}}}].flatMap
            fun s => [s,
        (List.range 4).foldl (fun s n => s.setReg tsu4 (R.TSU_TINCFG + 16 * n) 3) (s.setReg tsu4 R.TSU_PPSIN 1),
        (s.setReg tsu4 R.TSU_PPSOCFG 1)]
def snap (s : State) : List State := [s, (s.setReg tsu4 R.TSU_SNAPSLO 5).setReg tsu4 R.TSU_SNAPNS 400099,
    (s.setReg tsu4 R.TSU_SNAPSLO 5).setReg tsu4 R.TSU_SNAPNS 400101,
        {s with tsu := {s.tsu with snapTime := 77}}.setReg tsu4 R.TSU_SNAPCFG 1,
        {s with tsu := {s.tsu with snapTime := 77000000000}}.setReg tsu4 R.TSU_SNAPCFG 1,
 ({s with tsu := {s.tsu with snapTime := 77}}.setReg tsu4 R.TSU_SNAPCFG 1).setReg flt4 R.FLT_SNAPSTAT 0xFF]
def rc (s : State) : State := (s.setReg tsu4 R.TSU_RCLK 0x0303E802).setReg tsu4 (R.TSU_RCLK + 4) 0x0303E802
def pt (st : Nat) (s : State) : State := (((s.setLane 2 R.PRT_PSTAT 0 4 st).setLane 2 R.PRT_PCFG 0 17 0x11))
def vals6 : List State := T ++ snap b ++ [rc b, rc (pt 7 b), (rc (pt 7 b)).setLane 2 R.PRT_PSTAT 8 1 1, rc (pt 3 b)]
/-- An input without an earlier edge is stable. -/
theorem calm {o : Option Nat} {n : Nat} (h : o = none) : ∀ b, o = some b → b + 8 ≤ n := by intro b e; simp [h] at e
/-- Hypotheses of `TimeIsDisciplined` that can be met. -/
theorem test_witness_TimeIsDisciplined :
    (∃ s : State, Reached s tsu4 ∧ ∃ v : Word,
        (s.tsu.slew + v.toInt * 2 ^ 44).natAbs ≤ (max 1 (min 1000000 (fld (s.reg tsu4 R.TSU_JUMPTH) 0 20))) * 2 ^ 48) ∧
    (∃ s : State, Reached s tsu4 ∧ ∃ v : Word,
        (max 1 (min 1000000 (fld (s.reg tsu4 R.TSU_JUMPTH) 0 20))) * 2 ^ 48 < (s.tsu.slew + v.toInt * 2 ^ 44).natAbs) ∧
    (∃ s : State, Reached s tsu4 ∧ s.tsu.slew = 0) ∧
    (∃ s : State, Reached s tsu4 ∧ s.tsu.slew ≠ 0) ∧
    (∃ s : State, Reached s tsu4 ∧ ∃ v : Word, tsuStat s 0 2 = 1 ∧
        OnClock (clock s + (((BitVec.ofNat 48 (fld (s.reg tsu4 R.TSU_STEPSHI) 0 16 * 2 ^ 32 + (s.reg tsu4 R.TSU_STEPSLO).toNat)).toInt) * 1000000000 + fld v 0 30) * 2 ^ 48)) ∧
    (∃ s : State, Reached s tsu4 ∧ tsuStat s 0 2 ≠ 1) ∧
    (∃ s : State, Reached s tsu4 ∧ ∃ f : Fin 257, ∃ c : Cmd, Accepted s f.val c 0x050) ∧
    (∃ s : State, Reached s tsu4 ∧ tsuStat s 0 2 = 1) ∧
    (∃ s : State, Reached s tsu4 ∧ ∃ v : Word, v.getLsbD 0 = true) ∧
    (∃ s : State, Reached s tsu4 ∧ ∃ v : Word, v.getLsbD 0 = false) ∧
    (∃ s : State, Reached s tsu4 ∧ ((s.boot.vkeep = true ∧ (s.tsu.ksetPending = true ∨ (s.regB tsu4 R.TSU_CTRL 0 = true ∧
        tsuStat s 2 1 = 0))))) ∧
    (∃ s : State, Reached s tsu4 ∧ (¬ (s.boot.vkeep = true ∧
        (s.tsu.ksetPending = true ∨ (s.regB tsu4 R.TSU_CTRL 0 = true ∧ tsuStat s 2 1 = 0))))) ∧
    (∃ s : State, Reached s tsu4 ∧ s.pending = [] ∧ s.regB knl4 R.KNL_BOOT 0 = true ∧
        OnClock (clock s + 2 ^ 48 + s.tsu.freq + (if 0 ≤ s.tsu.slew then min s.tsu.slew (2 ^ 48 / 4000) else max s.tsu.slew (-(2 ^ 48 / 4000))))) :=
  ⟨⟨pick vals4 0, by constructor <;> decide +kernel, 0, by decide +kernel⟩,
   ⟨pick vals4 0, by constructor <;> decide +kernel, 0x80000000, by decide +kernel⟩,
   ⟨pick vals4 4, by constructor <;> decide +kernel, by decide +kernel⟩,
   ⟨pick vals4 0, by constructor <;> decide +kernel, by decide +kernel⟩,
   ⟨pick vals4 0, by constructor <;> decide +kernel, 0, by decide +kernel, by unfold OnClock; decide +kernel⟩,
   ⟨pick vals4 2, by constructor <;> decide +kernel, by decide +kernel⟩,
   ⟨pick vals4 11, by constructor <;> decide +kernel, 0, mk 0 0x50, by constructor <;> decide +kernel⟩,
   ⟨pick vals4 0, by constructor <;> decide +kernel, by decide +kernel⟩,
   ⟨pick vals4 0, by constructor <;> decide +kernel, 1, by decide +kernel⟩,
   ⟨pick vals4 0, by constructor <;> decide +kernel, 0, by decide +kernel⟩,
   ⟨pick vals4 0, by constructor <;> decide +kernel, by decide +kernel⟩,
   ⟨pick vals4 1, by constructor <;> decide +kernel, by decide +kernel⟩,
   ⟨pick vals4 7, by constructor <;> decide +kernel, by decide +kernel, by decide +kernel,
       by unfold OnClock; decide +kernel⟩⟩
/-- Hypotheses of `OutputsAndCaptures` that can be met. -/
theorem test_witness_OutputsAndCaptures :
    (∃ s : State, Reached s tsu4 ∧ ∃ n : Fin 8, ∃ v : Word, fld v 0 2 = 1 ∧ v.getLsbD 2 = true ∧
        startOf s n.val < ceilNs s + 100) ∧
    (∃ s : State, Reached s tsu4 ∧ ∃ n : Fin 8, ∃ v : Word, fld v 0 2 = 1 ∧ v.getLsbD 2 = true ∧
        ceilNs s + 100 ≤ startOf s n.val) ∧
    (∃ s : State, Reached s tsu4 ∧ ∃ v : Word, fld v 0 2 = 2 ∧ v.getLsbD 2 = true) ∧
    (∃ s : State, Reached s tsu4 ∧ ∃ n : Fin 8, ∃ v : Word, fld v 0 2 = 2 ∧ v.getLsbD 2 = true ∧
        startOf s n.val < ceilNs s + 100) ∧
    (∃ s : State, Reached s tsu4 ∧ ∃ v : Word, (fld v 0 2 = 0 ∨ fld v 0 2 = 3)) ∧
    (∃ s : State, Reached s tsu4 ∧ ∃ v : Word, (fld v 0 2 = 1 ∨ fld v 0 2 = 2) ∧ v.getLsbD 2 = false) ∧
    (∃ s : State, Reached s tsu4 ∧ ∃ n : Fin 8, (fun t : State => (outReg t n.val R.TSU_TOUTCFG).getLsbD 2) s = true ∧
        (s.tsu.tout.get n.val).next ≤ (nowNs s) ∧ 0 < (s.tsu.tout.get n.val).period) ∧
    (∃ s : State, Reached s tsu4 ∧ ∃ n : Fin 8,
        ((fun t : State => (outReg t n.val R.TSU_TOUTCFG).getLsbD 2) s = false ∨ (nowNs s) < (s.tsu.tout.get n.val).next)) ∧
    (∃ s : State, Reached s tsu4 ∧ ∃ n : Fin 5, ∃ rising : Bool,
        (if n.val = 4 then s.regB tsu4 R.TSU_PPSIN 0 && rising else (s.reg tsu4 (R.TSU_TINCFG + 16 * n.val)).getLsbD (if rising then 0 else 1)) = false) ∧
    (∃ s : State, Reached s tsu4 ∧ ∃ n : Fin 5, ¬ ∀ b, s.tsu.edgeAt.get n.val = some b → b + 8 ≤ s.time) ∧
    (∃ s : State, Reached s tsu4 ∧ ∃ n : Fin 5, ∃ rising : Bool,
        (if n.val = 4 then s.regB tsu4 R.TSU_PPSIN 0 && rising else (s.reg tsu4 (R.TSU_TINCFG + 16 * n.val)).getLsbD (if rising then 0 else 1)) = true ∧
        (∀ b, s.tsu.edgeAt.get n.val = some b → b + 8 ≤ s.time) ∧ (s.tsu.latches.get n.val).valid = false) ∧
    (∃ s : State, Reached s tsu4 ∧ ∃ n : Fin 5, ∃ rising : Bool,
        (if n.val = 4 then s.regB tsu4 R.TSU_PPSIN 0 && rising else (s.reg tsu4 (R.TSU_TINCFG + 16 * n.val)).getLsbD (if rising then 0 else 1)) = true ∧
        (∀ b, s.tsu.edgeAt.get n.val = some b → b + 8 ≤ s.time) ∧ (s.tsu.latches.get n.val).valid = true) ∧
    (∃ s : State, Reached s tsu4 ∧ ∃ v : Word, v.getLsbD 0 = true ∧ snapOf s < ceilNs s + 100) ∧
    (∃ s : State, Reached s tsu4 ∧ ∃ v : Word, v.getLsbD 0 = true ∧ ceilNs s + 100 ≤ snapOf s) ∧
    (∃ s : State, Reached s tsu4 ∧ (s.regB tsu4 R.TSU_SNAPCFG 0 = false ∨ (nowNs s) < s.tsu.snapTime)) ∧
    (∃ s : State, Reached s tsu4 ∧ s.regB tsu4 R.TSU_SNAPCFG 0 = true ∧ s.tsu.snapTime ≤ (nowNs s) ∧
        s.flt.lastTrigger = none ∧ s.flt.shadow = none ∧ (∃ b : Fin 4, s.regB flt4 R.FLT_SNAPSTAT b.val = false ∧
        s.regB flt4 R.FLT_SNAPSTAT (4 + b.val) = false)) ∧
    (∃ s : State, Reached s tsu4 ∧ ∃ c : Fin 2, ∃ p, (s.reg tsu4 (R.TSU_RCLK + 4 * c.val)).getLsbD 24 = true ∧
        (fun p : Nat => s.laneOwner (fld (s.reg tsu4 (R.TSU_RCLK + 4 * c.val)) 0 8) = some p ∧ s.portState p = 7 ∧
        (s.laneReg p R.PRT_PSTAT).getLsbD 8 = false) p ∧ s.muzzled 1 = false ∧ s.rclkFast c.val = false) ∧
    (∃ s : State, Reached s tsu4 ∧ ∃ c : Fin 2,
        ((s.reg tsu4 (R.TSU_RCLK + 4 * c.val)).getLsbD 24 = false ∨ s.laneOwner (fld (s.reg tsu4 (R.TSU_RCLK + 4 * c.val)) 0 8) = none ∨ s.muzzled 1 = true ∨ s.rclkFast c.val = true)) :=
  ⟨⟨pick vals6 0, by constructor <;> decide +kernel, 0, 5, by and_intros <;> decide +kernel⟩,
   ⟨pick vals6 6, by constructor <;> decide +kernel, 0, 5, by and_intros <;> decide +kernel⟩,
   ⟨pick vals6 0, by constructor <;> decide +kernel, 6, by decide +kernel, by decide +kernel⟩,
   ⟨pick vals6 0, by constructor <;> decide +kernel, 0, 6, by and_intros <;> decide +kernel⟩,
   ⟨pick vals6 0, by constructor <;> decide +kernel, 0, by decide +kernel⟩,
   ⟨pick vals6 0, by constructor <;> decide +kernel, 2, by decide +kernel, by decide +kernel⟩,
   ⟨pick vals6 9, by constructor <;> decide +kernel, 0, by and_intros <;> decide +kernel⟩,
   ⟨pick vals6 0, by constructor <;> decide +kernel, 0, by decide +kernel⟩,
   ⟨pick vals6 0, by constructor <;> decide +kernel, 0, true, by decide +kernel⟩,
   ⟨{ b with tsu := { b.tsu with edgeAt := b.tsu.edgeAt.set 3 (some 7) }, time := 14 }, by constructor <;> decide +kernel, 3,
       fun h => absurd (h 7 (by decide +kernel)) (by decide +kernel)⟩,
   ⟨pick vals6 1, by constructor <;> decide +kernel, 0, true, by decide +kernel, calm (by decide +kernel), by decide +kernel⟩,
   ⟨pick vals6 4, by constructor <;> decide +kernel, 3, true, by decide +kernel, calm (by decide +kernel), by decide +kernel⟩,
   ⟨pick vals6 0, by constructor <;> decide +kernel, 1, by decide +kernel, by decide +kernel⟩,
   ⟨pick vals6 38, by constructor <;> decide +kernel, 1, by decide +kernel, by decide +kernel⟩,
   ⟨pick vals6 0, by constructor <;> decide +kernel, by decide +kernel⟩,
   ⟨pick vals6 39, by constructor <;> decide +kernel, by and_intros <;> decide +kernel⟩,
   ⟨pick vals6 43, by constructor <;> decide +kernel, 0, 2, by and_intros <;> decide +kernel⟩,
   ⟨pick vals6 0, by constructor <;> decide +kernel, 0, by decide +kernel⟩⟩

end Time

namespace Keys

def le (n v : Nat) : List Byte := leBytes n v
def padTo (n : Nat) (l : List Byte) : List Byte := l ++ List.replicate (n - l.length) 0
def mk (f op : Nat) (p : List Byte := []) : Cmd :=
    {opcode := op, tag := 7, fn := f, seq := 5, payload := padTo 32 p, icv := List.replicate 16 9}
def fnx (f : Nat) (c : Cmd) (g : FnSt → FnSt := id) (s : State) : State := { s with hif := { s.hif with fns := s.hif.fns.set f (g { accepted := [c, mk f 1], tags := [(5,7)], cache := [⟨5, c.icv, none, 0⟩], lastSeq := 5, outstanding := 1 }) } }
def mkm (k : Nat) (s : State) : State := {s with knl := {s.knl with store := (List.range 8).foldl (fun st j => st.set (0x1000 + 8 * k + j) (if j = 2 then 0x10 else 0)) s.knl.store}}
def b : State := (((({ boot := {({} : State).boot with vkeep := true, avs := true, inReset := false} } : State).setReg
    kce4 R.KCE_STAT 1) |> mkm 0) |> mkm 3) |> mkm 300
def key16 : List Byte := (List.range 16).map (BitVec.ofNat 8 ·)
def sl (k alg role : Nat) (s : State) (g : KeySlot → KeySlot := id) : State := s.updSlot k fun x => g {x with loaded := true, alg := alg, role := role, key := if alg % 2 = 1 then key16 ++ key16 else key16, salt := [1,2,3,4]}
def withC (cs : List Cmd) (ss : List State) : List State := ss.flatMap fun s => cs.map fun c => fnx c.fn c id s
def blob (k alg role : Nat) (x : Byte := 0) : List Byte := le 2 k ++ le 1 alg ++ le 1 role ++ [0,0,x,0] ++
    List.replicate 48 5 ++ List.replicate 8 0
def C1 : List Cmd := [mk 0 0x40, mk 0 0x40 (List.replicate 8 0 ++ [1]), mk 3 0x40, mk 0 0x41 (le 2 300), mk 3 0x41 (le 2 3)]
def vals1 : List Cmd := C1
def L : List KeyLoad := [⟨none, false, mk 0 0x41⟩, ⟨some (2, 2, key16, [1,2,3,4]), true, mk 0 0x40⟩, ⟨some (2, 2, key16,
    [1,2,3,4]), false, mk 3 0x40⟩]
def S1 : List State := [b, b.setReg kce4 R.KCE_STAT 0, sl 300 0 2 b, sl 3 0 0 b fun x =>
    {x with counter := 9, exhausted := true}]
def vals7 : List State := withC C1 S1 ++
    (S1.flatMap fun s => L.flatMap fun l => [s.updSlot 300 fun x => {x with pendingLoad := some l},
        {s.updSlot 3 (fun x => {x with pendingLoad := some l}) with kce := {(s.updSlot 3 fun x => {x with pendingLoad := some l}).kce with normal := [{slot := 3}]}}])
def gen (k n : Nat) (u : Nat) : List Byte := le 2 k ++ le 1 u ++ [16] ++ le 4 n ++ le 8 0x9000 ++ le 8 0x7000
def C2 : List Cmd := [mk 0 0x42 (gen 300 20 0), mk 0 0x42 (gen 300 20 1), mk 0 0x42 (gen 300 600 1),
    mk 0 0x43 (gen 300 20 0), mk 0 0x43 (gen 260 20 1),  mk 0 0x42 (gen 260 20 1)]
def idl := sl 300 2 2 b
def rq (v : Bool) (n : Nat) : KceReq := {
        cmd := mk 0 0x42, slot := 300, verify := v, msg := key16, tagLen := n, counter := 3,
        trailer := le 8 3 ++ ((tagOf (idl.slot 300) (le 8 3) key16).take n), result := 0x7000}
def R1 : List KceReq := [rq false 16, rq true 16, {rq true 16 with trailer := key16 ++ key16},
    {rq true 4 with slot := 3, trailer := (tagOf ((sl 3 0 0 b).slot 3) [] key16).take 4}]
def vals14 : List KceReq := R1 ++ [{rq false 3 with cmd := mk 0 0x42}]
def S2 : List State := [b, idl, sl 300 0 2 b (fun x => {x with counter := 44}), sl 300 1 1 b, sl 300 3 3 b,
    sl 300 0 2 b (fun x => {x with exhausted := true}), sl 300 0 2 b (fun x => {x with counter := 2^64 - 1}), sl 260 1 1 b]
def kx (f : KceSt → KceSt) (s : State) : State := {s with kce := f s.kce}
def vals15 : List State := withC C2 S2 ++
    (R1.flatMap fun r => [kx (fun k => {k with cores := k.cores.set 0 (some r)}) (sl 3 0 0 idl),
        kx (fun k => {k with suspended := k.suspended.set 1 (some r)}) idl]) ++
   [idl.updSlot 300 fun x => {x with writing := some (2^20)},
       (idl.updSlot 300 fun x => {x with writing := some (2^20)}) |>
       kx (fun k => {k with waiting := [{rq false 3 with cmd := mk 0 0x42}]}),
       ((idl.updSlot 300 fun x => {x with writing := some (2^20)}) |>
       kx (fun k => {k with waiting := [{rq false 3 with cmd := mk 0 0x42}]})).setEnt flt4 4 94 0 1,
    (idl.updSlot 3 fun x => {x with writing := some (2^20)}) |>
        fnx 3 {mk 3 0 with seq := 2^40} (fun x => {x with accepted := [{mk 3 0 with seq := 2^40}]})]
def vals16 : List Cmd := C2 ++ [{mk 3 0 with seq := 2^40}]
/-- Hypotheses of `KeysAreLoaded` that can be met. -/
theorem test_witness_KeysAreLoaded :
    (∃ s : State, ∃ f : Fin 257, ∃ c : Cmd, Accepted s f.val c 0x040 ∧ s.inBlockReset kce4 = false ∧ s.loadsOf f.val = false ∧ c.bare = false) ∧
    (∃ s : State, ∃ f : Fin 257, ∃ c : Cmd, ∃ b : List Byte, Accepted s f.val c 0x040 ∧ s.inBlockReset kce4 = false ∧ s.loadsOf f.val = false ∧
        c.bare = false ∧ (s.slot (ofLe (slice b 0 2))).pendingLoad = none ∧ (s.regB kce4 R.KCE_STAT 0) = false) ∧
    (∃ s : State, ∃ f : Fin 257, ∃ c : Cmd, ∃ b : List Byte, Accepted s f.val c 0x040 ∧ s.inBlockReset kce4 = false ∧ s.loadsOf f.val = false ∧
        c.bare = false ∧ (s.slot (ofLe (slice b 0 2))).pendingLoad = none ∧ (s.regB kce4 R.KCE_STAT 0) = true ∧
        ¬ (slotFits (ofLe (slice b 0 2)) (ofLe (slice b 2 1)) (ofLe (slice b 3 1)) ∧ (slice b 4 4 = [0, 0, 0, 0] ∧
        slice b 56 8 = List.replicate 8 0))) ∧
    (∃ s : State, ∃ f : Fin 257, ∃ c : Cmd, ∃ b : List Byte, Accepted s f.val c 0x040 ∧ s.inBlockReset kce4 = false ∧ s.loadsOf f.val = false ∧
        c.bare = false ∧ (s.slot (ofLe (slice b 0 2))).pendingLoad = none ∧ (s.regB kce4 R.KCE_STAT 0) = true ∧
        slotFits (ofLe (slice b 0 2)) (ofLe (slice b 2 1)) (ofLe (slice b 3 1)) ∧ (slice b 4 4 = [0, 0, 0, 0] ∧
        slice b 56 8 = List.replicate 8 0)) ∧
    (∃ s : State, ∃ f : Fin 257, ∃ c : Cmd, ∃ clean : Bool, ∃ b : List Byte, Quiet s ∧ s.inBlockReset kce4 = false ∧
        s.loadsOf f.val = false ∧ (s.fn f.val).unproved = some (c, clean) ∧ (s.fn f.val).accepted = [] ∧ s.regB kce4 R.KCE_STAT 0 = true ∧
        ofLe (slice b 0 2) ≠ 0 ∧ (s.slot (ofLe (slice b 0 2))).pendingLoad = none) ∧
    (∃ s : State, ∃ f : Fin 257, ∃ c : Cmd, Accepted s f.val c 0x041 ∧ s.inBlockReset kce4 = false ∧ s.loadsOf f.val = false ∧
        (s.slot (pay c 0 2)).pendingLoad = none) ∧
    (∃ s : State, ∃ k : Fin 512, Quiet s ∧ (s.slot k.val).pendingLoad = none) ∧
    (∃ s : State, ∃ k : Fin 512, Quiet s ∧ ∃ l, (s.slot k.val).pendingLoad = some l ∧ s.slotBusy k.val = true) ∧
    (∃ s : State, ∃ k : Fin 512, Quiet s ∧ ∃ l, (s.slot k.val).pendingLoad = some l ∧
        s.slotBusy k.val = false ∧ Simple s l.cmd ∧ l.key = none ∧ l.reset = false) ∧
    (∃ s : State, ∃ k : Fin 512, Quiet s ∧ ∃ l, (s.slot k.val).pendingLoad = some l ∧
        s.slotBusy k.val = false ∧ Simple s l.cmd ∧ ∃ alg, ∃ role, ∃ key, ∃ salt, l.key = some (alg, role, key, salt) ∧
        s.boot.vkeep = true) :=
  ⟨⟨pick vals7 0, 0, pick vals1 0, by constructor <;> decide +kernel, by and_intros <;> decide +kernel⟩,
   ⟨pick vals7 5, 0, pick vals1 0, blob 300 2 2, by constructor <;> decide +kernel, by and_intros <;> decide +kernel⟩,
   ⟨pick vals7 0, 0, pick vals1 0, blob 3 2 0, by and_intros <;> first | decide +kernel | (constructor <;> decide +kernel) | (unfold slotFits; decide +kernel)⟩,
   ⟨pick vals7 0, 0, pick vals1 0, blob 300 2 2, by and_intros <;> first | decide +kernel | (constructor <;> decide +kernel) | (unfold slotFits; decide +kernel)⟩,
   ⟨b.updFn 0 fun x => { x with unproved := some (mk 0 0x40, true) }, 0, _, _, blob 3 0 0, by decide +kernel, by decide +kernel,
       by decide +kernel, rfl, by and_intros <;> decide +kernel⟩,
   ⟨pick vals7 3, 0, pick vals1 3, by constructor <;> decide +kernel, by and_intros <;> decide +kernel⟩,
   ⟨pick vals7 0, 300, by decide +kernel, by decide +kernel⟩,
   ⟨pick vals7 21, 3, by decide +kernel, _, rfl, by decide +kernel⟩,
   ⟨pick vals7 20, 300, by decide +kernel, _, rfl, by and_intros <;> first | decide +kernel | (unfold Simple; decide +kernel)⟩,
   ⟨pick vals7 22, 300, by decide +kernel, _, rfl, by decide +kernel, by unfold Simple; decide +kernel, 2, 2, _, [0x01#8,
       0x02#8, 0x03#8, 0x04#8], rfl, by decide +kernel⟩⟩
/-- Hypotheses of `TagsAreMadeAndChecked` that can be met. -/
theorem test_witness_TagsAreMadeAndChecked :
    (∃ s : State, ∃ f : Fin 257, ∃ c : Cmd, Accepted s f.val c 0x042 ∧ EngineIdle s ∧ s.loadsOf f.val = false ∧
        (s.slot (pay c 0 2)).pendingLoad = none ∧ (s.slot (pay c 0 2)).loaded = false) ∧
    (∃ s : State, ∃ f : Fin 257, ∃ c : Cmd, Accepted s f.val c 0x042 ∧ EngineIdle s ∧ s.loadsOf f.val = false ∧
        (s.slot (pay c 0 2)).pendingLoad = none ∧ (s.slot (pay c 0 2)).loaded = true ∧
        ((s.slot (pay c 0 2)).role < 2 ∨ (((pay c 2 1).testBit 0) = true ∧ (s.slot (pay c 0 2)).role ≠ 2))) ∧
    (∃ s : State, ∃ f : Fin 257, ∃ c : Cmd, Accepted s f.val c 0x042 ∧ EngineIdle s ∧ s.loadsOf f.val = false ∧
        (s.slot (pay c 0 2)).pendingLoad = none ∧ (s.slot (pay c 0 2)).loaded = true ∧ (s.slot (pay c 0 2)).role = 2 ∧
        ((pay c 2 1).testBit 0) = true ∧ 512 < (pay c 4 4)) ∧
    (∃ s : State, ∃ f : Fin 257, ∃ c : Cmd, Accepted s f.val c 0x042 ∧ EngineIdle s ∧ s.loadsOf f.val = false ∧
        (s.slot (pay c 0 2)).pendingLoad = none ∧ (s.slot (pay c 0 2)).loaded = true ∧ (s.slot (pay c 0 2)).role = 2 ∧
        (pay c 4 4) ≤ 512 ∧ s.counterLost (pay c 0 2) = false ∧
        ((s.slot (pay c 0 2)).exhausted = true ∨ (s.slot (pay c 0 2)).counter = 2 ^ 64 - 1)) ∧
    (∃ s : State, ∃ f : Fin 257, ∃ c : Cmd, ∃ msg : List Byte, Accepted s f.val c 0x042 ∧ EngineIdle s ∧ s.loadsOf f.val = false ∧
        (s.slot (pay c 0 2)).pendingLoad = none ∧ (s.slot (pay c 0 2)).loaded = true ∧ (s.slot (pay c 0 2)).role = 2 ∧
        (pay c 4 4) ≤ 512 ∧ s.counterLost (pay c 0 2) = false ∧ (s.slot (pay c 0 2)).exhausted = false ∧
        (s.slot (pay c 0 2)).counter < 2 ^ 64 - 1 ∧ (pay c 4 4) ≤ msg.length ∧
        (s.slot (pay c 0 2)).counter + 2 ^ 19 + 1 < s.mark (pay c 0 2)) ∧
    (∃ s : State, ∃ f : Fin 257, ∃ c : Cmd, Accepted s f.val c 0x043 ∧ EngineIdle s ∧ s.loadsOf f.val = false ∧
        (s.slot (pay c 0 2)).pendingLoad = none ∧ (s.slot (pay c 0 2)).loaded = false) ∧
    (∃ s : State, ∃ f : Fin 257, ∃ c : Cmd, ∃ msg : List Byte, Accepted s f.val c 0x043 ∧ EngineIdle s ∧ s.loadsOf f.val = false ∧
        (s.slot (pay c 0 2)).pendingLoad = none ∧ (s.slot (pay c 0 2)).loaded = true ∧ (s.slot (pay c 0 2)).role = 2 ∧
        (pay c 4 4) ≤ 512 ∧ (pay c 4 4) + (pay c 3 1) + (if 2 ≤ (s.slot (pay c 0 2)).alg then 8 else 0) ≤ msg.length) ∧
    (∃ s : State, ∃ n : Fin 2, Quiet s ∧ s.kce.urgent = [] ∧ s.kce.checks = [] ∧ s.kce.normal = [] ∧ s.core n.val = none) ∧
    (∃ s : State, ∃ n : Fin 2, ∃ r : KceReq, Quiet s ∧ s.kce.urgent = [] ∧ s.kce.checks = [] ∧
        s.kce.normal = [] ∧ s.core n.val = some r ∧ r.use = .mac ∧ (s.slot r.slot).loaded = true ∧ Simple s r.cmd ∧ r.verify = true ∧
        ((tagOf (s.slot r.slot) (r.trailer.take (if 2 ≤ (s.slot r.slot).alg then 8 else 0)) r.msg).take r.tagLen = (r.trailer.drop (if 2 ≤ (s.slot r.slot).alg then 8 else 0)).take r.tagLen)) ∧
    (∃ s : State, ∃ n : Fin 2, ∃ r : KceReq, Quiet s ∧ s.kce.urgent = [] ∧ s.kce.checks = [] ∧
        s.kce.normal = [] ∧ s.core n.val = some r ∧ r.use = .mac ∧ (s.slot r.slot).loaded = true ∧ Simple s r.cmd ∧ r.verify = true ∧
        ¬ ((tagOf (s.slot r.slot) (r.trailer.take (if 2 ≤ (s.slot r.slot).alg then 8 else 0)) r.msg).take r.tagLen = (r.trailer.drop (if 2 ≤ (s.slot r.slot).alg then 8 else 0)).take r.tagLen)) ∧
    (∃ s : State, ∃ n : Fin 2, ∃ r : KceReq, Quiet s ∧ s.kce.urgent = [] ∧ s.kce.checks = [] ∧
        s.kce.normal = [] ∧ s.core n.val = some r ∧ r.use = .mac ∧ (s.slot r.slot).loaded = true ∧ Simple s r.cmd ∧ r.verify = false) ∧
    (∃ s : State, ∃ n : Fin 2, ∃ r : KceReq, Quiet s ∧ s.kce.urgent = [] ∧ s.kce.checks = [] ∧
        s.kce.normal = [] ∧ s.core n.val = some r ∧ r.use = .mac ∧ Simple s r.cmd ∧ ReportOnly s 93) ∧
    (∃ s : State, ∃ n : Fin 2, ∃ r : KceReq, Quiet s ∧ s.kce.urgent = [] ∧ s.kce.checks = [] ∧ s.kce.normal = [] ∧
        s.core n.val = none ∧ s.inBlockReset kce4 = false ∧ s.parked n.val = some r) ∧
    (∃ s : State, ∃ n : Fin 2, Quiet s ∧ s.kce.urgent = [] ∧ s.kce.checks = [] ∧ s.kce.normal = [] ∧
        (s.core n.val ≠ none ∨ s.parked n.val = none)) ∧
    (∃ s : State, ∃ k : Fin 512, Quiet s ∧ (s.slot k.val).writing = none) ∧
    (∃ s : State, ∃ k : Fin 512, Quiet s ∧ ∃ h, (s.slot k.val).writing = some h ∧ h < 2 ^ 64 ∧
        s.boot.vkeep = true ∧ s.kce.waiting = []) ∧
    (∃ s : State, ∃ k : Fin 512, Quiet s ∧ ∃ r, ReportOnly s 94 ∧ (s.slot k.val).writing.isSome = true ∧
        s.kce.waiting = [r] ∧ r.slot = k.val ∧ 256 ≤ k.val ∧ Simple s r.cmd) ∧
    (∃ s : State, ∃ k : Fin 512, Quiet s ∧ ∃ c, (s.slot k.val).writing.isSome = true ∧ s.kce.waiting = [] ∧
        k.val < 256 ∧ (s.fn k.val).accepted = [c] ∧ c.fn = k.val ∧ s.mark k.val ≤ c.seq ∧ Simple s c) :=
  ⟨⟨pick vals15 0, 0, pick vals16 0, by constructor <;> decide +kernel, by constructor <;> decide +kernel,
      by and_intros <;> decide +kernel⟩,
   ⟨pick vals15 18, 0, pick vals16 0, by constructor <;> decide +kernel, by constructor <;> decide +kernel,
       by and_intros <;> decide +kernel⟩,
   ⟨pick vals15 8, 0, pick vals16 2, by constructor <;> decide +kernel, by constructor <;> decide +kernel,
       by and_intros <;> decide +kernel⟩,
   ⟨pick vals15 30, 0, pick vals16 0, by constructor <;> decide +kernel, by constructor <;> decide +kernel,
       by and_intros <;> decide +kernel⟩,
   ⟨pick vals15 6, 0, pick vals16 0, List.replicate 44 3, by constructor <;> decide +kernel,
       by constructor <;> decide +kernel, by and_intros <;> decide +kernel⟩,
   ⟨pick vals15 3, 0, pick vals16 3, by constructor <;> decide +kernel, by constructor <;> decide +kernel,
       by and_intros <;> decide +kernel⟩,
   ⟨pick vals15 9, 0, pick vals16 3, List.replicate 44 3, by constructor <;> decide +kernel,
       by constructor <;> decide +kernel, by and_intros <;> decide +kernel⟩,
   ⟨pick vals15 0, 0, by and_intros <;> decide +kernel⟩,
   ⟨pick vals15 50, 0, pick vals14 1, by and_intros <;> first | decide +kernel | (unfold Simple; decide +kernel)⟩,
   ⟨pick vals15 52, 0, pick vals14 2, by and_intros <;> first | decide +kernel | (unfold Simple; decide +kernel)⟩,
   ⟨pick vals15 48, 0, pick vals14 0, by and_intros <;> first | decide +kernel | (unfold Simple; decide +kernel)⟩,
   ⟨(pick vals15 48).setEnt flt4 4 93 0 1, 0, pick vals14 0, by and_intros <;> first | decide +kernel | (constructor <;> decide +kernel) | (unfold Simple; decide +kernel)⟩,
   ⟨pick vals15 49, 1, pick vals14 0, by and_intros <;> decide +kernel⟩,
   ⟨pick vals15 0, 0, by and_intros <;> decide +kernel⟩,
   ⟨pick vals15 0, 300, by decide +kernel, by decide +kernel⟩,
   ⟨pick vals15 56, 300, by decide +kernel, 1048576, by and_intros <;> decide +kernel⟩,
   ⟨pick vals15 57, 300, by decide +kernel, pick vals14 4, by and_intros <;> first | decide +kernel | (constructor <;> decide +kernel) | (unfold Simple; decide +kernel)⟩,
   ⟨pick vals15 59, 3, by decide +kernel, pick vals16 6, by and_intros <;> first | decide +kernel | (unfold Simple; decide +kernel)⟩⟩

end Keys

namespace Commands

def le (n v : Nat) : List Byte := leBytes n v
def padTo (n : Nat) (l : List Byte) : List Byte := l ++ List.replicate (n - l.length) 0
def mk (f op : Nat) (p : List Byte := []) : Cmd :=
    {opcode := op, tag := 7, fn := f, seq := 5, payload := padTo 32 p, icv := List.replicate 16 9}
def fnx (f : Nat) (c : Cmd) (g : FnSt → FnSt := id) (s : State) : State := { s with hif := { s.hif with fns := s.hif.fns.set f (g { accepted := [c, mk f 1], tags := [(5,7)], cache := [⟨5, c.icv, none, 0⟩], lastSeq := 5, outstanding := 1 }) } }
def mkm (k : Nat) (s : State) : State := {s with knl := {s.knl with store := (List.range 8).foldl (fun st j => st.set (0x1000 + 8 * k + j) (if j = 2 then 0x10 else 0)) s.knl.store}}
def b : State := (((({ boot := {({} : State).boot with vkeep := true, avs := true, inReset := false} } : State).setReg
    kce4 R.KCE_STAT 1) |> mkm 0) |> mkm 3) |> mkm 300
def key16 : List Byte := (List.range 16).map (BitVec.ofNat 8 ·)
def sl (k alg role : Nat) (s : State) (g : KeySlot → KeySlot := id) : State := s.updSlot k fun x => g {x with loaded := true, alg := alg, role := role, key := if alg % 2 = 1 then key16 ++ key16 else key16, salt := [1,2,3,4]}
def withC (cs : List Cmd) (ss : List State) : List State := ss.flatMap fun s => cs.map fun c => fnx c.fn c id s
def ringOn (f : Nat) (s : State) : State := (((s.setEnt hif4 1 f 2 0x0004_0104).setEnt hif4 1 f 5 0x0000_0003).setEnt hif4 1 f 6 0x0000_0003).setEnt hif4 1 f 3 0x4000
def bts (f op seq : Nat) (k : List Byte) (flags : Nat := 9) (p : List Byte := []) : List Byte :=
  let h := le 2 op ++ le 2 flags ++ le 2 f ++ le 2 f ++ le 8 seq ++ padTo 32 p
  h ++ cmac k h
def BS := [bts 0 0 6 key16, bts 3 0 6 key16, bts 3 0 6 key16 40000, bts 3 0 6 key16 9 [1], bts 3 0 4 key16,
    bts 3 0 6 key16 7, bts 3 0x99 6 key16, bts 3 0x50 6 key16, bts 0 0x040 6 key16, bts 3 0 6 (key16.drop 1 ++ [1]),
        bts 3 0x10 6 key16 9 [1,2,3]]
def C2 : List Cmd := [mk 3 0, {mk 3 0 with batch := true}, {mk 0 0 with batch := true}, mk 3 0x18, mk 0 0x18, mk 3 0x19,
    mk 3 0x1A]
def vals1 : List Cmd := C2
def d1 : Cpl := {tag := 9, status := 5, fn := 3, seq := 77, opcode := 0x10}
def vals6 : List ((List Byte)) := BS
def S2 : List State := [ringOn 3 (ringOn 0 (sl 3 0 0 (sl 0 0 0 b))), ringOn 3 b, ringOn 3 (sl 3 1 1 b), ringOn 256 b,
    ringOn 0 b]
def ff (f : Nat) (g : FnSt → FnSt) (s : State) : State := s.updFn f g
def bt : State → State := ff 3 (fun x => {x with batch := true, held := [(mk 3 0, []), (mk 3 0, [])]})
def cpls (l : List Cpl) (h : Nat) : State → State := fun s => (ff 3 (fun x => {x with done := l, outstanding := 4})
    s).setEnt hif4 1 3 6 (BitVec.ofNat 32 (h * 65536 + 3))
def turn (f : Nat) (s : State) : State := { s with hif := { s.hif with kccRr := f } }
/-- A command of function 3 whose ICV a core has computed. -/
def checked (bytes : List Byte) (clean : Bool) (s : State) : State :=
  s.setCore 0 (some { cmd := cmdOf bytes, slot := 3, use := .check (bytes.take 48) clean, no := 7 })
def vals7 : List State := withC C2 (S2.take 2) ++ withC C2 S2 ++ (withC C2 (S2.take 2)).map bt ++
    (S2.flatMap fun s => [s, cpls [d1] 4 s, cpls [d1, {d1 with status := 2}] 15 s, cpls [d1] 2 s])
/-- Hypotheses of `CommandsAreCheckedAndCompleted` that can be met. -/
theorem test_witness_CommandsAreCheckedAndCompleted :
    (∃ s : State, ∃ f : Fin 257, Quiet s ∧ s.fetchTurn ≠ some f.val) ∧
    (∃ s : State, ∃ f : Fin 257, Quiet s ∧ s.fetchTurn = some f.val ∧ EngineIdle s) ∧
    (∃ s : State, ∃ f : Fin 257, Quiet s ∧ ∃ b : List Byte, s.fetchTurn = some f.val ∧ EngineIdle s ∧ ∃ st,
        fetchRefusal s f.val b { cmdOf b with no := s.hif.fetchNo } = some st ∧ (st = 2 → (cmdOf b).opcode ≠ 0x040 ∨ f.val ≠ 0)) ∧
    (∃ s : State, ∃ f : Fin 257, Quiet s ∧ ∃ b : List Byte, s.fetchTurn = some f.val ∧ EngineIdle s ∧ f.val = 0 ∧
        fetchRefusal s 0 b { cmdOf b with no := s.hif.fetchNo } = some 2 ∧ (cmdOf b).opcode = 0x040) ∧
    (∃ s : State, ∃ f : Fin 257, Quiet s ∧ ∃ b : List Byte, s.fetchTurn = some f.val ∧ EngineIdle s ∧
        fetchRefusal s f.val b { cmdOf b with no := s.hif.fetchNo } = none) ∧
    (∃ s : State, ∃ f : Fin 257, Quiet s ∧ ∃ n : Fin 2, ∃ r : KceReq, ∃ b, ∃ clean, s.core n.val = some r ∧
        r.use = .check b clean ∧ r.slot = f.val ∧ r.cmd.fn = f.val ∧ s.olderCheck r = false ∧ s.kce.urgent = [] ∧
        s.kce.checks = [] ∧ s.kce.normal = [] ∧ ∃ st, checkRefusal s f.val b r.cmd = some st ∧
        (st = 17 → (s.fn f.val).cache.all (fun e => e.seq ≠ r.cmd.seq) = true)) ∧
    (∃ s : State, ∃ f : Fin 257, Quiet s ∧ ∃ n : Fin 2, ∃ r : KceReq, ∃ b, s.core n.val = some r ∧
        r.use = .check b true ∧ r.slot = f.val ∧ r.cmd.fn = f.val ∧ s.olderCheck r = false ∧ s.kce.urgent = [] ∧
        s.kce.checks = [] ∧ s.kce.normal = [] ∧ checkRefusal s f.val b r.cmd = none ∧ r.cmd.opcode = 0 ∧
        ∀ k, k < 32 → pay r.cmd k 1 = 0) ∧
    (∃ s : State, ∃ f : Fin 257, Quiet s ∧ ∃ n : Fin 2, ∃ r : KceReq, ∃ b, ∃ clean, s.core n.val = some r ∧
        r.use = .check b clean ∧ r.slot = f.val ∧ r.cmd.fn = f.val ∧ s.olderCheck r = false ∧ s.kce.urgent = [] ∧
        s.kce.checks = [] ∧ s.kce.normal = [] ∧ checkRefusal s f.val b r.cmd = none ∧ usedBytes r.cmd.opcode = none ∧
        Simple s r.cmd) ∧
    (∃ s : State, ∃ f : Fin 257, Quiet s ∧
        (s.inBlockReset hif4 = true ∨ s.kccFree f.val = 0 ∨ (s.fn f.val).done = [])) ∧
    (∃ s : State, ∃ f : Fin 257, Quiet s ∧ ∃ c, ∃ l, s.inBlockReset hif4 = false ∧ s.kccFree f.val ≠ 0 ∧
        (s.fn f.val).done = c :: l) ∧
    (∃ s : State, ∃ f : Fin 257, Quiet s ∧ ∃ c, Accepted s f.val c 0 ∧ c.batch = false) ∧
    (∃ s : State, ∃ f : Fin 257, Quiet s ∧ ∃ c, Accepted s f.val c 0 ∧ c.batch = true ∧
        (s.fn f.val).batch = false) ∧
    (∃ s : State, ∃ f : Fin 257, Quiet s ∧ ∃ c, Accepted s f.val c 0 ∧ c.batch = true ∧
        (s.fn f.val).batch = true ∧ (s.fn f.val).held.length < 512) ∧
    (∃ s : State, ∃ f : Fin 257, Quiet s ∧ ∃ c, Accepted s f.val c 0x018 ∧ (s.fn f.val).batch = false) ∧
    (∃ s : State, ∃ f : Fin 257, Quiet s ∧ ∃ c, Accepted s f.val c 0x018 ∧ (s.fn f.val).batch = true) ∧
    (∃ s : State, ∃ f : Fin 257, Quiet s ∧ ∃ c, Accepted s f.val c 0x01A ∧ (s.fn f.val).batch = false) ∧
    (∃ s : State, ∃ f : Fin 257, Quiet s ∧ ∃ c, Accepted s f.val c 0x01A ∧ (s.fn f.val).batch = true) ∧
    (∃ s : State, ∃ f : Fin 257, Quiet s ∧ ∃ c, Accepted s f.val c 0x019 ∧
        (s.fn f.val).held.all (fun e => e.1.opcode = 0) = true ∧ (s.fn f.val).batch = false) ∧
    (∃ s : State, ∃ f : Fin 257, Quiet s ∧ ∃ c, Accepted s f.val c 0x019 ∧
        (s.fn f.val).held.all (fun e => e.1.opcode = 0) = true ∧ (s.fn f.val).batch = true) :=
  ⟨⟨pick vals7 0, 3, by decide +kernel, by decide +kernel⟩,
   ⟨turn 3 (pick vals7 0), 3, by decide +kernel, by decide +kernel, by constructor <;> decide +kernel⟩,
   ⟨pick vals7 0, 0, by decide +kernel, pick vals6 1, by decide +kernel, by constructor <;> decide +kernel, 20,
       by decide +kernel, by decide +kernel⟩,
   ⟨ringOn 0 b, 0, by decide +kernel, pick vals6 8, by decide +kernel, by constructor <;> decide +kernel, rfl,
       by decide +kernel, by decide +kernel⟩,
   ⟨turn 3 (pick vals7 0), 3, by decide +kernel, pick vals6 1, by decide +kernel, by constructor <;> decide +kernel,
       by decide +kernel⟩,
   ⟨checked (pick vals6 4) true (pick vals7 0), 3, by decide +kernel, 0, _, _, _, rfl, rfl, rfl, by decide +kernel, by decide +kernel,
       by decide +kernel, by decide +kernel, by decide +kernel, 17, by decide +kernel, by decide +kernel⟩,
   ⟨checked (pick vals6 1) true (pick vals7 0), 3, by decide +kernel, 0, _, _, rfl, rfl, rfl, by and_intros <;> decide +kernel⟩,
   ⟨checked (pick vals6 6) true (pick vals7 0), 3, by decide +kernel, 0, _, _, _, rfl, rfl, rfl, by and_intros <;> first | decide +kernel | (unfold Simple; decide +kernel)⟩,
   ⟨pick vals7 0, 0, by decide +kernel, by decide +kernel⟩,
   ⟨pick vals7 64, 3, by decide +kernel, d1, [], by and_intros <;> decide +kernel⟩,
   ⟨pick vals7 0, 3, by decide +kernel, pick vals1 0, by constructor <;> decide +kernel, by decide +kernel⟩,
   ⟨pick vals7 1, 3, by decide +kernel, pick vals1 1, by constructor <;> decide +kernel, by decide +kernel,
       by decide +kernel⟩,
   ⟨pick vals7 50, 3, by decide +kernel, pick vals1 1, by constructor <;> decide +kernel, by and_intros <;> decide +kernel⟩,
   ⟨pick vals7 3, 3, by decide +kernel, pick vals1 3, by constructor <;> decide +kernel, by decide +kernel⟩,
   ⟨pick vals7 52, 3, by decide +kernel, pick vals1 3, by constructor <;> decide +kernel, by decide +kernel⟩,
   ⟨pick vals7 6, 3, by decide +kernel, pick vals1 6, by constructor <;> decide +kernel, by decide +kernel⟩,
   ⟨pick vals7 55, 3, by decide +kernel, pick vals1 6, by constructor <;> decide +kernel, by decide +kernel⟩,
   ⟨pick vals7 5, 3, by decide +kernel, pick vals1 5, by constructor <;> decide +kernel, by decide +kernel,
       by decide +kernel⟩,
   ⟨pick vals7 54, 3, by decide +kernel, pick vals1 5, by constructor <;> decide +kernel, by decide +kernel,
       by decide +kernel⟩⟩

end Commands

namespace Moves

def le (n v : Nat) : List Byte := leBytes n v
def padTo (n : Nat) (l : List Byte) : List Byte := l ++ List.replicate (n - l.length) 0
def mk (f op : Nat) (p : List Byte := []) : Cmd :=
    {opcode := op, tag := 7, fn := f, seq := 5, payload := padTo 32 p, icv := List.replicate 16 9}
def fnx (f : Nat) (c : Cmd) (g : FnSt → FnSt := id) (s : State) : State := { s with hif := { s.hif with fns := s.hif.fns.set f (g { accepted := [c, mk f 1], tags := [(5,7)], cache := [⟨5, c.icv, none, 0⟩], lastSeq := 5, outstanding := 1 }) } }
def mkm (k : Nat) (s : State) : State := {s with knl := {s.knl with store := (List.range 8).foldl (fun st j => st.set (0x1000 + 8 * k + j) (if j = 2 then 0x10 else 0)) s.knl.store}}
def b : State := ((((up { boot := {({} : State).boot with vkeep := true, avs := true, inReset := false} }).setReg
    kce4 R.KCE_STAT 1) |> mkm 0) |> mkm 3) |> mkm 300
def withC (cs : List Cmd) (ss : List State) : List State := ss.flatMap fun s => cs.map fun c => fnx c.fn c id s
def ix (i : InstId) : Nat := ((List.range 8192).find? fun k => instOfIndex k = some i).getD 0
def tb (i : InstId) (w f n : Nat) : List Byte := le 2 (ix i) ++ le 1 w ++ [0] ++ le 4 f ++ le 2 n ++ le 6 0 ++ le 8 0x8000
def C1 : List Cmd := [mk 0 0x10 (tb (slInst .egv 2) 0 2 2), mk 0 0x10 (tb (slInst .rwr 2) 1 2 2),
    mk 0 0x10 (tb (slInst .rwr 2) 0 2 2), mk 0 0x10 (tb (slInst .rwr 2) 5 2 2), mk 0 0x11 (tb (slInst .egv 2) 0 2 2),
        mk 3 0x11 (tb (slInst .rwr 2) 0 2 1), mk 3 0x11 (tb (slInst .egv 2) 1 2 1)] ++
  (List.range 4).map (fun k => mk 0 0x12 (le 1 ([1,2,5,6].getD k 0) ++ [2,0,0] ++ le 4 ([0x0A000018, 0x0A000018,
      0x8111,0x8111].getD k 0) ++ le 4 7 ++ le 4 0x11 ++ le 4 0x5)) ++
  [mk 0 0x20, mk 0 0x60 ([1,0,0,0] ++ le 4 0 ++ le 4 3 ++ le 4 8 ++ le 8 0x8000),mk 0 0x60 ([2,0,0,0] ++ le 4 3 ++
      le 4 3 ++ le 4 8 ++ le 8 0x8000), mk 0 0x61 ([2,0,0,0] ++ le 4 3 ++ le 4 3 ++ le 4 8 ++ le 8 0x8000),
      mk 0 0x61 ([2,0,0,0] ++ le 4 9999999 ++ le 4 3 ++ le 4 8 ++ le 8 0x8000),
   mk 0 0x70 (le 4 3 ++ le 4 8 ++ le 8 0x8000), mk 0 0x71 (le 4 3 ++ le 4 8 ++ le 8 0x8000), mk 0 0x72 (le 4 0 ++
       le 4 65536)]
def vals5 : List Cmd := C1
def D8 : List Byte := [7,8,7,8,7,8,7,8]
def dimm (s : State) : State := (forAll (List.range 24) (fun c t => ((((t.setReg (chInst c) (chOff c R.DTC_DIMM) 0x07).setReg (chInst c) (chOff c R.DTC_RANKPWR) 0x2).setRegF (chInst c) (chOff c R.DTC_CSTAT) 0 3 3).setReg (chInst c) (chOff c R.DTC_SIZE) 100)) s)
def S1 : List State := [b, (b.setReg (slInst .pcl 1) R.PCL_VSTAT 1), dimm b,
    (b.setReg (slInst .pcl 0) R.PCL_VERSION 0x2000E),
        {dimm b with deepMem := ({} : Tbl (Option Byte)).set (((dimm b).deepKey 2 (3 * 65536 + 5)).getD 0) (some 8)},
        {b with hif := {b.hif with flashBusy := true}}]
def vals13 : List State := withC C1 S1 ++ [(b.setEnt hif4 0 7 17 8), b]
/-- Hypotheses of `CommandsMoveTables` that can be met. -/
theorem test_witness_CommandsMoveTables :
    (∃ s : State, ∃ f : Fin 257, Quiet s ∧ ∃ c : Cmd, ∃ i : InstId, Accepted s f.val c 0x010 ∧ f.val = 0 ∧
        c.batch = false ∧ c.tblInst = some i ∧ PlainWindow i (pay c 2 1) ∧ Reached s i) ∧
    (∃ s : State, ∃ f : Fin 257, Quiet s ∧ ∃ c : Cmd, ∃ i : InstId, ∃ l : List Word,
        Accepted s f.val c 0x010 ∧ f.val = 0 ∧ c.batch = false ∧ c.tblInst = some i ∧ PlainWindow i (pay c 2 1) ∧
        Reached s i ∧ ∃ size, ∃ m, winDim i (pay c 2 1) = some (size, m) ∧ (pay c 4 4) + (pay c 8 2) ≤ size ∧
        l.length = (pay c 8 2) * m ∧ ∃ k, k < (pay c 8 2) ∧ ∃ j, j < m) ∧
    (∃ s : State, ∃ f : Fin 257, Quiet s ∧ ∃ c : Cmd, ∃ i : InstId, ∃ l : List Word,
        Accepted s f.val c 0x010 ∧ f.val = 0 ∧ c.batch = false ∧ c.tblInst = some i ∧ PlainWindow i (pay c 2 1) ∧
        Reached s i ∧ ∃ size, ∃ m, winDim i (pay c 2 1) = some (size, m) ∧ (pay c 4 4) + (pay c 8 2) ≤ size ∧
        l.length = (pay c 8 2) * m ∧ ∃ e, ∃ j, e < size ∧ j < m ∧ ((e < (pay c 4 4) ∨ (pay c 4 4) + (pay c 8 2) ≤ e))) ∧
    (∃ s : State, ∃ f : Fin 257, Quiet s ∧ ∃ c : Cmd, ∃ i : InstId, Accepted s f.val c 0x011 ∧
        c.tblInst = some i ∧ PlainWindow i (pay c 2 1) ∧ Reached s i ∧ ∃ size, ∃ m, winDim i (pay c 2 1) = some (size,
        m) ∧ ∃ k, k < (pay c 8 2) ∧ ∃ j, j < m) ∧
    (∃ s : State, ∃ f : Fin 257, Quiet s ∧ ∃ c : Cmd, ∃ sl : Slice, Accepted s f.val c 0x012 ∧
        c.batch = false ∧ pay c 1 1 = sl.val ∧ s.fwdFree sl = true ∧ pay c 0 1 ∈ [1, 2, 5, 6] ∧ pay c 0 1 = 1) ∧
    (∃ s : State, ∃ f : Fin 257, Quiet s ∧ ∃ c : Cmd, ∃ sl : Slice, Accepted s f.val c 0x012 ∧
        c.batch = false ∧ pay c 1 1 = sl.val ∧ s.fwdFree sl = true ∧ pay c 0 1 ∈ [1, 2, 5, 6] ∧ pay c 0 1 = 2) ∧
    (∃ s : State, ∃ f : Fin 257, Quiet s ∧ ∃ c : Cmd, ∃ sl : Slice, Accepted s f.val c 0x012 ∧
        c.batch = false ∧ pay c 1 1 = sl.val ∧ s.fwdFree sl = true ∧ pay c 0 1 ∈ [1, 2, 5, 6] ∧ pay c 0 1 = 5) ∧
    (∃ s : State, ∃ f : Fin 257, Quiet s ∧ ∃ c : Cmd, ∃ sl : Slice, Accepted s f.val c 0x012 ∧
        c.batch = false ∧ pay c 1 1 = sl.val ∧ s.fwdFree sl = true ∧ pay c 0 1 ∈ [1, 2, 5, 6] ∧ pay c 0 1 = 6) ∧
    (∃ s : State, ∃ f : Fin 257, Quiet s ∧ ∃ c, Accepted s f.val c 0x020 ∧ s.retiring = true) ∧
    (∃ s : State, ∃ f : Fin 257, Quiet s ∧ ∃ c, Accepted s f.val c 0x020 ∧ s.retiring = false ∧ (∃ sl,
        s.regB (slInst .pcl sl) R.PCL_VSTAT 0 = true)) ∧
    (∃ s : State, ∃ f : Fin 257, Quiet s ∧ ∃ c, Accepted s f.val c 0x020 ∧ s.retiring = false ∧ (∀ sl,
        s.regB (slInst .pcl sl) R.PCL_VSTAT 0 = false)) ∧
    (∃ s : State, ∃ f : Fin 257, Quiet s ∧ ∃ c : Cmd, Accepted s f.val c 0x060 ∧ s.deepReady c = true ∧
        pay c 0 1 ≤ 3 ∧ s.deepReachable c = false) ∧
    (∃ s : State, ∃ f : Fin 257, Quiet s ∧ ∃ c : Cmd, Accepted s f.val c 0x060 ∧ s.deepReady c = true ∧
        pay c 0 1 ≤ 3 ∧ s.deepReachable c = true ∧ ∃ k, k < (pay c 12 4) ∧ ∃ p, ∃ b,
        s.deepKey (Fin.ofNat 4 (pay c 0 1)) (pay c 4 4 * 65536 + pay c 8 4 + k) = some p ∧ s.deepMem.get p = some b) ∧
    (∃ s : State, ∃ f : Fin 257, Quiet s ∧ ∃ c : Cmd, ∃ l : List Byte, Accepted s f.val c 0x061 ∧
        s.deepReady c = true ∧ pay c 0 1 ≤ 3 ∧ l.length = pay c 12 4 ∧
        (s.pageWritable (Fin.ofNat 4 (pay c 0 1)) (pay c 4 4)) = false) ∧
    (∃ s : State, ∃ f : Fin 257, Quiet s ∧ ∃ c : Cmd, ∃ l : List Byte, Accepted s f.val c 0x061 ∧
        s.deepReady c = true ∧ pay c 0 1 ≤ 3 ∧ l.length = pay c 12 4 ∧
        (s.pageWritable (Fin.ofNat 4 (pay c 0 1)) (pay c 4 4)) = true ∧ s.deepReachable c = true ∧
        pay c 8 4 + pay c 12 4 ≤ 65536 ∧ ∃ k, ∃ p, k < l.length ∧
        s.deepKey (Fin.ofNat 4 (pay c 0 1)) (pay c 4 4 * 65536 + pay c 8 4 + k) = some p ∧ s.placeLost p = false) ∧
    (∃ s : State, ∃ f : Fin 257, Quiet s ∧ ∃ c : Cmd, Accepted s f.val c 0x070 ∧ s.hif.flashBusy = true) ∧
    (∃ s : State, ∃ f : Fin 257, Quiet s ∧ ∃ c : Cmd, Accepted s f.val c 0x070 ∧ s.hif.flashBusy = false) ∧
    (∃ s : State, ∃ f : Fin 257, Quiet s ∧ ∃ c : Cmd, ∃ l : Option (List Byte), Accepted s f.val c 0x070 ∧
        s.hif.flashBusy = false ∧ ∃ d, l = some d ∧ d.length = pay c 4 4) ∧
    (∃ s : State, ∃ f : Fin 257, Quiet s ∧ ∃ c : Cmd, Accepted s f.val c 0x071 ∧ s.hif.flashBusy = false) ∧
    (∃ s : State, ∃ f : Fin 257, Quiet s ∧ ∃ c : Cmd, Accepted s f.val c 0x072 ∧ s.hif.flashBusy = false) ∧
    (∃ s : State, Quiet s ∧ ∃ tid : Fin 256, ∃ w : List Word, Reached s hif4 ∧ w.length = 21 ∧
        s.win.wfD winResetAt = true ∧ s.ringsClash = false ∧ (∃ other : Fin 256, other ≠ tid ∧ ∃ k : Fin 4, ∃ j : Fin 32,
        (fun k j => (w[17 + k]?.getD 0).getLsbD j) k.val j.val = true ∧
        (s.ent hif4 0 other.val (17 + k.val)).getLsbD j.val = true)) ∧
    (∃ s : State, Quiet s ∧ ∃ tid : Fin 256, ∃ w : List Word, Reached s hif4 ∧ w.length = 21 ∧
        s.win.wfD winResetAt = true ∧ s.ringsClash = false ∧ ¬ (∃ other : Fin 256, other ≠ tid ∧ ∃ k : Fin 4,
        ∃ j : Fin 32, (fun k j => (w[17 + k]?.getD 0).getLsbD j) k.val j.val = true ∧
        (s.ent hif4 0 other.val (17 + k.val)).getLsbD j.val = true) ∧ ∃ k, k < 21) :=
  ⟨⟨pick vals13 0, 0, by decide +kernel, pick vals5 0, slInst .egv 2, by and_intros <;> first | decide +kernel | (constructor <;> decide +kernel) | (unfold PlainWindow; decide +kernel)⟩,
   ⟨pick vals13 2, 0, by decide +kernel, pick vals5 2, slInst .rwr 2, List.replicate 34 5, by constructor <;> decide +kernel,
       by decide +kernel, by decide +kernel, by decide +kernel, by unfold PlainWindow; decide +kernel,
       by constructor <;> decide +kernel, 65536, 17, by decide +kernel, by decide +kernel, by decide +kernel,
       1, by decide +kernel, 3, by decide +kernel⟩,
   ⟨pick vals13 0, 0, by decide +kernel, pick vals5 0, slInst .egv 2, [5, 6], by constructor <;> decide +kernel,
       by decide +kernel, by decide +kernel, by decide +kernel, by unfold PlainWindow; decide +kernel,
       by constructor <;> decide +kernel, 256, 1, by decide +kernel, by decide +kernel, by decide +kernel,
       0, 0, by and_intros <;> decide +kernel⟩,
   ⟨pick vals13 4, 0, by decide +kernel, pick vals5 4, slInst .egv 2, by constructor <;> decide +kernel,
       by decide +kernel, by unfold PlainWindow; decide +kernel, by constructor <;> decide +kernel, 256, 1,
       by decide +kernel, 0, by decide +kernel, 0, by decide +kernel⟩,
   ⟨pick vals13 7, 0, by decide +kernel, pick vals5 7, 2, by constructor <;> decide +kernel, by and_intros <;> decide +kernel⟩,
   ⟨pick vals13 8, 0, by decide +kernel, pick vals5 8, 2, by constructor <;> decide +kernel, by and_intros <;> decide +kernel⟩,
   ⟨pick vals13 9, 0, by decide +kernel, pick vals5 9, 2, by constructor <;> decide +kernel, by and_intros <;> decide +kernel⟩,
   ⟨pick vals13 10, 0, by decide +kernel, pick vals5 10, 2, by constructor <;> decide +kernel, by and_intros <;> decide +kernel⟩,
   ⟨pick vals13 68, 0, by decide +kernel, pick vals5 11, by constructor <;> decide +kernel, by decide +kernel⟩,
   ⟨pick vals13 30, 0, by decide +kernel, pick vals5 11, by constructor <;> decide +kernel, by decide +kernel,
       by decide +kernel⟩,
   ⟨pick vals13 11, 0, by decide +kernel, pick vals5 11, by constructor <;> decide +kernel, by decide +kernel,
       by decide +kernel⟩,
   ⟨pick vals13 12, 0, by decide +kernel, pick vals5 12, by constructor <;> decide +kernel, by and_intros <;> decide +kernel⟩,
   ⟨pick vals13 89, 0, by decide +kernel, pick vals5 13, by constructor <;> decide +kernel, by decide +kernel,
       by decide +kernel, by decide +kernel, 2, by decide +kernel, ((dimm b).deepKey 2 (3 * 65536 + 5)).getD 0, 0x08#8,
       by decide +kernel, by decide +kernel⟩,
   ⟨pick vals13 14, 0, by decide +kernel, pick vals5 14, D8, by constructor <;> decide +kernel, by and_intros <;> decide +kernel⟩,
   ⟨forAll [8, 9, 10, 11] (fun c t => t.setRankPwr c 0 0) (pick vals13 52), 0, by decide +kernel, pick vals5 14, D8,
       by constructor <;> decide +kernel, by decide +kernel, by decide +kernel, by decide +kernel, by decide +kernel,
       by decide +kernel, by decide +kernel, 0, ((dimm b).deepKey 2 (3 * 65536 + 3)).getD 0, by and_intros <;> decide +kernel⟩,
   ⟨pick vals13 111, 0, by decide +kernel, pick vals5 16, by constructor <;> decide +kernel, by decide +kernel⟩,
   ⟨pick vals13 16, 0, by decide +kernel, pick vals5 16, by constructor <;> decide +kernel, by decide +kernel⟩,
   ⟨pick vals13 16, 0, by decide +kernel, pick vals5 16, some D8, by constructor <;> decide +kernel, by decide +kernel,
       [0x07#8, 0x08#8, 0x07#8, 0x08#8, 0x07#8, 0x08#8, 0x07#8, 0x08#8], by decide +kernel, by decide +kernel⟩,
   ⟨pick vals13 17, 0, by decide +kernel, pick vals5 17, by constructor <;> decide +kernel, by decide +kernel⟩,
   ⟨pick vals13 18, 0, by decide +kernel, pick vals5 18, by constructor <;> decide +kernel, by decide +kernel⟩,
   ⟨pick vals13 114, by decide +kernel, 4, List.replicate 17 0 ++ [8,0,0,0], by constructor <;> decide +kernel,
       by and_intros <;> decide +kernel⟩,
   ⟨pick vals13 0, by decide +kernel, 4, List.replicate 8 7 ++ List.replicate 13 0, by constructor <;> decide +kernel,
       by decide +kernel, by decide +kernel, by decide +kernel, by decide +kernel, 0, by decide +kernel⟩⟩

end Moves

namespace Images

def le (n v : Nat) : List Byte := leBytes n v
def padTo (n : Nat) (l : List Byte) : List Byte := l ++ List.replicate (n - l.length) 0
def mk (f op : Nat) (p : List Byte := []) : Cmd :=
    {opcode := op, tag := 7, fn := f, seq := 5, payload := padTo 32 p, icv := List.replicate 16 9}
def fnx (f : Nat) (c : Cmd) (g : FnSt → FnSt := id) (s : State) : State := { s with hif := { s.hif with fns := s.hif.fns.set f (g { accepted := [c, mk f 1], tags := [(5,7)], cache := [⟨5, c.icv, none, 0⟩], lastSeq := 5, outstanding := 1 }) } }
def mkm (k : Nat) (s : State) : State := {s with knl := {s.knl with store := (List.range 8).foldl (fun st j => st.set (0x1000 + 8 * k + j) (if j = 2 then 0x10 else 0)) s.knl.store}}
def b : State := ((((up { boot := {({} : State).boot with vkeep := true, avs := true, inReset := false} }).setReg
    kce4 R.KCE_STAT 1) |> mkm 0) |> mkm 3) |> mkm 300
def key16 : List Byte := (List.range 16).map (BitVec.ofNat 8 ·)
def sl (k alg role : Nat) (s : State) (g : KeySlot → KeySlot := id) : State := s.updSlot k fun x => g {x with loaded := true, alg := alg, role := role, key := if alg % 2 = 1 then key16 ++ key16 else key16, salt := [1,2,3,4]}
def withC (cs : List Cmd) (ss : List State) : List State := ss.flatMap fun s => cs.map fun c => fnx c.fn c id s
def allSlices (f : Slice → State → State) (s : State) : State := [0,1,2,3].foldl (fun t k => f k t) s
def img (flags : Nat) (_ slot : Nat) (bad : Byte) : List Byte :=
  let l := [0x5A, 0x58, 0x49, 0x31] ++ le 2 1 ++ le 2 flags ++ le 4 0x12345 ++ le 4 0 ++ le 2 5 ++ le 2 2 ++ le 2 1030 ++
      le 2 0 ++ le 2 0 ++ le 2 slot ++ le 4 0 ++ le 4 64 ++ le 4 0 ++ le 4 0 ++ le 4 (64+8+16) ++ List.replicate 16 0 ++
      le 4 0xAABB ++ le 4 0xCCDD
  l ++ (cmac key16 l).map (· ^^^ bad)
def c30 : Cmd := mk 0 0x30 (le 8 0x1000 ++ le 4 88 ++ [0])
def C1 : List Cmd := [c30]
def vals3 : List Cmd := C1
def L : List LoadSt := [⟨0, true, 0x12345, true, img 1 0 260 0, 260, c30⟩, ⟨0, true, 0x12345, true, img 1 0 260 1, 260,
    c30⟩, ⟨0, false, 0x345, false, img 1 0 260 0, 260, c30⟩]
def vals6 : List LoadSt := L
def S1 : List State := [b, sl 260 0 1 b, (sl 260 0 1 b).setReg (slInst .pup 2) R.PUP_CTRL 2,
    allSlices (fun x s => s.setReg (slInst .pup x) R.PUP_CTRL 2) (sl 260 0 1 b),
        allSlices (fun x s => s.setReg (slInst .pup x) R.PUP_STAT 0x10) (sl 260 0 1 b)]
def vals7 : List State := withC C1 S1 ++ S1.flatMap fun s => L.map fun l => {s with hif := {s.hif with load := some l}}
/-- A core checks the image. -/
def imaging (s : State) : State := s.setCore 0 (some { cmd := c30, use := .image })
/-- Hypotheses of `ImagesAreLoadedAndVerified` that can be met. -/
theorem test_witness_ImagesAreLoadedAndVerified :
    (∃ s : State, ∃ f : Fin 257, ∃ c, Accepted s f.val c 0x030 ∧ s.hif.load = none ∧ s.loadsOf f.val = false ∧ s.inBlockReset kce4 = false ∧
        s.pupsReady = true ∧ s.kceFull false = false ∧ (pay c 12 1).testBit 0 = false ∧ s.bankSplit = true) ∧
    (∃ s : State, ∃ f : Fin 257, ∃ c, Accepted s f.val c 0x030 ∧ s.hif.load = none ∧ s.loadsOf f.val = false ∧ s.inBlockReset kce4 = false ∧
        s.pupsReady = true ∧ s.kceFull false = false ∧ (pay c 12 1).testBit 0 = false ∧ s.bankSplit = false) ∧
    (∃ s : State, ∃ f : Fin 257, ∃ c, Accepted s f.val c 0x030 ∧ s.hif.load = none ∧ s.loadsOf f.val = false ∧ s.inBlockReset kce4 = false ∧
        s.pupsReady = true ∧ s.kceFull false = false ∧ (pay c 12 1).testBit 0 = false ∧ ∃ b : List Byte,
        s.bankSplit = false ∧ (s.slot (ofLe (slice b 26 2))).pendingLoad = none ∧ ∃ n, s.imgRefusal (slice b 0 (pay c 8 4)) (pay c 8 4) = some n) ∧
    (∃ s : State, ∃ f : Fin 257, ∃ c, Accepted s f.val c 0x030 ∧ s.hif.load = none ∧ s.loadsOf f.val = false ∧ s.inBlockReset kce4 = false ∧
        s.pupsReady = true ∧ s.kceFull false = false ∧ (pay c 12 1).testBit 0 = false ∧ ∃ b : List Byte,
        s.bankSplit = false ∧ (s.slot (ofLe (slice b 26 2))).pendingLoad = none ∧ slice (slice b 0 (pay c 8 4)) 0 4 ≠ [0x5A, 0x58, 0x49, 0x31]) ∧
    (∃ s : State, ∃ f : Fin 257, ∃ c, Accepted s f.val c 0x030 ∧ s.hif.load = none ∧ s.loadsOf f.val = false ∧ s.inBlockReset kce4 = false ∧
        s.pupsReady = true ∧ s.kceFull false = false ∧ (pay c 12 1).testBit 0 = false ∧ ∃ b : List Byte,
        s.bankSplit = false ∧ (s.slot (ofLe (slice b 26 2))).pendingLoad = none ∧ s.imgRefusal (slice b 0 (pay c 8 4)) (pay c 8 4) = none ∧ ∃ k,
        k < ofLe (slice (slice b 0 (pay c 8 4)) 18 2)) ∧
    (∃ s : State, Quiet s ∧ (s.hif.load = none ∨ s.imageCore = none)) ∧
    (∃ s : State, ∃ l, Quiet s ∧ s.hif.load = some l ∧ s.imageCore.isSome = true ∧ s.inBlockReset kce4 = false ∧ s.pupsReady = true ∧
        Simple s l.cmd ∧ (s.slot l.keySlot).loaded = true ∧
        (cmac (s.slot l.keySlot).key (l.image.take (l.image.length - 16)) = l.image.drop (l.image.length - 16)) ∧
        l.base = true) ∧
    (∃ s : State, ∃ l, Quiet s ∧ s.hif.load = some l ∧ s.imageCore.isSome = true ∧ s.inBlockReset kce4 = false ∧ s.pupsReady = true ∧
        Simple s l.cmd ∧ (s.slot l.keySlot).loaded = true ∧
        ¬ (cmac (s.slot l.keySlot).key (l.image.take (l.image.length - 16)) = l.image.drop (l.image.length - 16))) ∧
    (∃ s : State, ∃ l, Quiet s ∧ s.hif.load = some l ∧ s.imageCore.isSome = true ∧ s.inBlockReset kce4 = false ∧
        s.pupsReady = true ∧ Simple s l.cmd ∧ (s.slot l.keySlot).loaded = true ∧ ReportOnly s 93) :=
  ⟨⟨pick vals7 2, 0, pick vals3 0, by constructor <;> decide +kernel, by and_intros <;> decide +kernel⟩,
   ⟨pick vals7 0, 0, pick vals3 0, by constructor <;> decide +kernel, by and_intros <;> decide +kernel⟩,
   ⟨pick vals7 0, 0, pick vals3 0, by constructor <;> decide +kernel, by decide +kernel, by decide +kernel,
       by decide +kernel, by decide +kernel, by decide +kernel, by decide +kernel, img 1 0 260 0, by decide +kernel, by decide +kernel, 7, by decide +kernel⟩,
   ⟨pick vals7 0, 0, pick vals3 0, by constructor <;> decide +kernel, by decide +kernel, by decide +kernel,
       by decide +kernel, by decide +kernel, by decide +kernel, by decide +kernel, key16, by and_intros <;> decide +kernel⟩,
   ⟨pick vals7 1, 0, pick vals3 0, by constructor <;> decide +kernel, by decide +kernel, by decide +kernel,
       by decide +kernel, by decide +kernel, by decide +kernel, by decide +kernel, img 1 0 260 0, by decide +kernel, by decide +kernel, by decide +kernel, 0,
       by decide +kernel⟩,
   ⟨pick vals7 0, by decide +kernel, by decide +kernel⟩,
   ⟨imaging (pick vals7 8), pick vals6 0, by decide +kernel, by decide +kernel, by decide +kernel, by decide +kernel, by decide +kernel,
       by unfold Simple; decide +kernel, by and_intros <;> decide +kernel⟩,
   ⟨imaging (pick vals7 9), pick vals6 1, by and_intros <;> first | decide +kernel | (unfold Simple; decide +kernel)⟩,
   ⟨imaging (pick vals7 9), pick vals6 1, by and_intros <;> first | decide +kernel | (constructor <;> decide +kernel) | (unfold Simple; decide +kernel)⟩⟩

end Images

namespace HostInterface

def padTo (n : Nat) (l : List Byte) : List Byte := l ++ List.replicate (n - l.length) 0
def mk (f op : Nat) (p : List Byte := []) : Cmd :=
    {opcode := op, tag := 7, fn := f, seq := 5, payload := padTo 32 p, icv := List.replicate 16 9}
def mkm (k : Nat) (s : State) : State := {s with knl := {s.knl with store := (List.range 8).foldl (fun st j => st.set (0x1000 + 8 * k + j) (if j = 2 then 0x10 else 0)) s.knl.store}}
def cold : State := (((({ boot := {({} : State).boot with vkeep := true, avs := true, inReset := false} } : State).setReg
    kce4 R.KCE_STAT 1) |> mkm 0) |> mkm 3) |> mkm 300
def ringOn (f : Nat) (s : State) : State := (((s.setEnt hif4 1 f 2 0x0004_0104).setEnt hif4 1 f 5 0x0000_0003).setEnt hif4 1 f 6 0x0000_0003).setEnt hif4 1 f 3 0x4000
def linkUp (s : State) : State := s.setReg hif4 R.HIF_STAT 0x9C
def b : State := up cold
def ff (f : Nat) (g : FnSt → FnSt) (s : State) : State := s.updFn f g
def d1 : Cpl := {tag := 9, status := 5, fn := 3, seq := 77, opcode := 0x10, acc := true}
def bt : State → State := ff 3 (fun x => {x with
        batch := true, held := [(mk 3 0, []), (mk 3 0, [])], done := [d1], dups := [mk 3 0], accepted := [mk 3 0],
        cache := [⟨5, [], none, 0⟩]})
def bx (f : BootSt → BootSt) (s : State) : State := {s with boot := f s.boot}
def F0 : List State := [cold, ringOn 3 (ringOn 0 cold), bt (ringOn 3 (ringOn 0 cold))]
def F1 : List State := F0 ++ F0.map linkUp
def F2 : List State := F1 ++ F1.map (bx fun x => {x with perstLow := true}) ++
    F1.map (bx fun x => {x with vaon := false}) ++ F1.map (fun s => s.setReg knl4 R.KNL_BOOT 3) ++
        F1.map (fun s => {s with hif := {s.hif with training := true}}) ++
        F1.map (fun s => ({s with hif := {s.hif with training := true}}).setReg knl4 R.KNL_STRAP 8)
def vals4 : List State := F2
def w1 : FifoWord := ⟨7, true, false⟩
def w2 : FifoWord := ⟨8, false, true⟩
def fi (f : Fin 13) (ws : List FifoWord) (l : List (List Word)) (s : State) : State := s.updFifo f.val fun x => {x with words := ws, waiting := l, last := 99}
def G : List State := [b, linkUp b].flatMap fun s => ([0,5,12] : List (Fin 13)).flatMap fun f => [fi f [w1,w2] [[1,2],[3]] s,
    fi f [w1] [[1,2]] s, fi f [] [[3]] s, fi f (List.replicate 63 w1) [[1,2]] s]
def vals10 : List State := b :: G
def kf (f : KnlSt → KnlSt) (s : State) : State := {s with knl := f s.knl}
def K0 : List State := [b,
    kf (fun k => {k with
        sec := 77, ticks := 4, inten := 15, intstat := 3, ptr := 0x2008, setsec := 99,
        store := (k.store.set 6 7).set 7 1}) b,
    kf (fun k => {k with stopped := true, ptr := 0x2004, store := k.store.set 0 0}) b, b.setReg flt4 R.FLT_STAT0 7]
def vals18 : List State := K0 ++ K0.map (bx fun x => {x with vkeep := false}) ++ K0.map (bx fun x => {x with vaon := false})
/-- Hypotheses of `LinkAndEventFifos`, `LinkAndFunctions` that can be met. -/
theorem test_witness_LinkAndFunctions :
    (∃ s : State, Quiet s ∧ ∃ f : Fin 257, ∃ g : Fin 257, g ≠ f) ∧
    (∃ s : State, Quiet s ∧ ∃ f : Fin 257, (s.fn f.val).batch = true) ∧
    (∃ s : State, Quiet s ∧ (s.regB hif4 R.HIF_STAT 7) = false) ∧
    (∃ s : State, Quiet s ∧ (s.regB hif4 R.HIF_STAT 7) = true) ∧
    (∃ s : State, Quiet s ∧ (s.regB knl4 R.KNL_BOOT 0 = true ∧ s.boot.perstLow = false ∧
        (s.regB hif4 R.HIF_STAT 7) = false)) ∧
    (∃ s : State, Quiet s ∧ ¬ (s.regB knl4 R.KNL_BOOT 0 = true ∧ s.boot.perstLow = false ∧
        (s.regB hif4 R.HIF_STAT 7) = false)) ∧
    (∃ s : State, Quiet s ∧ ∃ speed : Fin 6, (s.hif.training = true ∧ s.boot.perstLow = false ∧
        speed.val ≤ speedLimit s)) ∧
    (∃ s : State, Quiet s ∧ ∃ speed : Fin 6, ¬ (s.hif.training = true ∧ s.boot.perstLow = false ∧
        speed.val ≤ speedLimit s)) ∧
    (∃ s : State, Calm s ∧ (s.boot.vaon = false ∨ s.flt.sealed = true)) ∧
    (∃ s : State, Calm s ∧ s.boot.inReset = false) ∧
    (∃ s : State, Quiet s ∧ (s.boot.vaon = true ∧ s.flt.sealed = false) ∧ (s.regB hif4 R.HIF_STAT 7) = true) ∧
    (∃ s : State, Quiet s ∧ s.regB hif4 R.HIF_STAT 7 = true ∧ s.regB knl4 R.KNL_BOOT 1 = false) ∧
    (∃ s : State, Quiet s ∧ s.regB hif4 R.HIF_STAT 7 = true ∧ s.regB knl4 R.KNL_BOOT 1 = true ∧ ∃ f : Fin 257, f.val = 0) :=
  ⟨⟨pick vals4 0, by decide +kernel, 0, 3, by decide +kernel⟩,
   ⟨pick vals4 2, by decide +kernel, 3, by decide +kernel⟩,
   ⟨pick vals4 0, by decide +kernel, by decide +kernel⟩,
   ⟨pick vals4 3, by decide +kernel, by decide +kernel⟩,
   ⟨pick vals4 18, by decide +kernel, by decide +kernel⟩,
   ⟨pick vals4 0, by decide +kernel, by decide +kernel⟩,
   ⟨pick vals4 24, by decide +kernel, 0, by decide +kernel⟩,
   ⟨pick vals4 0, by decide +kernel, 0, by decide +kernel⟩,
   ⟨pick vals4 12, by decide +kernel, by decide +kernel⟩,
   ⟨pick vals4 0, by decide +kernel, by decide +kernel⟩,
   ⟨pick vals4 3, by and_intros <;> decide +kernel⟩,
   ⟨pick vals4 3, by and_intros <;> decide +kernel⟩,
   ⟨pick vals4 21, by decide +kernel, by decide +kernel, by decide +kernel, 0, rfl⟩⟩
/-- Hypotheses of `LinkAndEventFifos`, `EventFifos` that can be met. -/
theorem test_witness_EventFifos :
    (∃ s : State, ∃ f : Fin 13, Quiet s ∧ (s.hif.fifos.get f.val).waiting = []) ∧
    (∃ s : State, ∃ f : Fin 13, ∃ item, ∃ rest, Quiet s ∧ (s.hif.fifos.get f.val).waiting = item :: rest ∧
        64 < (s.hif.fifos.get f.val).words.length + item.length) ∧
    (∃ s : State, ∃ f : Fin 13, ∃ item, ∃ rest, Quiet s ∧ (s.hif.fifos.get f.val).waiting = item :: rest ∧
        (s.hif.fifos.get f.val).words.length + item.length ≤ 64 ∧
        (s.hif.fifos.get f.val).words.all (fun w => !w.fin) = true) ∧
    (∃ s : State, ∃ f : Fin 13, ∃ w, ∃ rest, Reached s hif4 ∧ (s.hif.fifos.get f.val).words = w :: rest) ∧
    (∃ s : State, ∃ f : Fin 13, Reached s hif4 ∧ (s.hif.fifos.get f.val).words = []) :=
  ⟨⟨pick vals10 0, 0, by decide +kernel, by decide +kernel⟩,
   ⟨pick vals10 4, 0, [1,2], [], by and_intros <;> decide +kernel⟩,
   ⟨pick vals10 2, 0, [1,2], [], by and_intros <;> decide +kernel⟩,
   ⟨pick vals10 1, 0, w1, [w2], by constructor <;> decide +kernel, by decide +kernel⟩,
   ⟨pick vals10 0, 0, by constructor <;> decide +kernel, by decide +kernel⟩⟩
def held (s : State) : State := bx (fun x => {x with inReset := true}) s
/-- Hypotheses of `KennelKeeps` that can be met. -/
theorem test_witness_KennelKeeps :
    (∃ s : State, Calm s ∧ s.boot.vkeep = false) ∧
    (∃ s : State, Calm s ∧ ∃ p : Option (BitVec 16), ∃ n : Nat, s.boot.vkeep = true ∧
        ((p.getD s.knl.ptr).toNat) + n ≤ 0x2000) ∧
    (∃ s : State, Calm s ∧ ∃ p : Option (BitVec 16), ∃ n : Nat, s.boot.vkeep = true ∧
        ((p.getD s.knl.ptr).toNat) = 0x2008 ∧ n = 6) ∧
    (∃ s : State, Calm s ∧ ∃ p : Option (BitVec 16), ∃ n : Nat, s.boot.vkeep = true ∧
        ((p.getD s.knl.ptr).toNat) = 0x2004 ∧ n = 2) ∧
    (∃ s : State, Calm s ∧ ∃ p : BitVec 16, s.boot.vkeep = true ∧ (p.toNat < 0x2000 ∨ 0x2100 ≤ p.toNat)) ∧
    (∃ s : State, Calm s ∧ ∃ v : Byte, v = 0xA5 ∧ s.boot.vaon = false ∧ s.boot.vkeep = true) ∧
    (∃ s : State, Calm s ∧ ∃ v : Byte, (v ≠ 0xA5 ∨ s.boot.vaon = true ∨ s.boot.vkeep = false)) ∧
    (∃ s : State, Calm s ∧ ∃ v : Byte, v = 0x5A ∧ s.boot.vkeep = true) ∧
    (∃ s : State, Calm s ∧ ∃ v : Byte, (v ≠ 0x5A ∨ s.boot.vkeep = false)) ∧
    (∃ s : State, Reached s knl4 ∧ ∃ v : Word, v.getLsbD 0 = true ∧ s.boot.vkeep = true) ∧
    (∃ s : State, Reached s knl4 ∧ ∃ v : Word, (v.getLsbD 0 = false ∨ s.boot.vkeep = false)) ∧
    (∃ s : State, Calm s ∧ s.boot.vkeep = true ∧ s.knl.stopped = false) ∧
    (∃ s : State, Calm s ∧ (s.boot.vkeep = false ∨ s.knl.stopped = true)) ∧
    (∃ s : State, Calm s ∧ (s.boot.vkeep = true ∧ (List.range 4).map (fun j => s.knl.store.get j) = [0x4B,
        0x4E, 0x4C, 0x31])) ∧
    (∃ s : State, Calm s ∧ ¬ (s.boot.vkeep = true ∧ (List.range 4).map (fun j => s.knl.store.get j) = [0x4B,
        0x4E, 0x4C, 0x31])) ∧
    (∃ s : State, Calm s ∧ (s.boot.vkeep && s.boot.vaon) = true) ∧ (∃ s : State, s.boot.vaon = true ∧ Calm s) ∧
    (∃ s : State, Calm s ∧ s.boot.vkeep = true ∧ s.boot.vaon = false) ∧
    (∃ s : State, Calm s ∧ s.kce.slots.ents.all (fun e => e.2.writing.isNone) = true) :=
  ⟨⟨pick vals18 4, by decide +kernel, by decide +kernel⟩,
   ⟨pick vals18 0, by decide +kernel, none, 0, by decide +kernel, by decide +kernel⟩,
   ⟨pick vals18 0, by decide +kernel, some 0x2008, 6, by and_intros <;> decide +kernel⟩,
   ⟨pick vals18 0, by decide +kernel, some 0x2004, 2, by and_intros <;> decide +kernel⟩,
   ⟨pick vals18 0, by decide +kernel, 0, by decide +kernel, by decide +kernel⟩,
   ⟨held (pick vals18 8), by decide +kernel, 0xA5, by and_intros <;> decide +kernel⟩,
   ⟨pick vals18 0, by decide +kernel, 0, by decide +kernel⟩,
   ⟨pick vals18 0, by decide +kernel, 0x5A, by decide +kernel, by decide +kernel⟩,
   ⟨pick vals18 0, by decide +kernel, 0, by decide +kernel⟩,
   ⟨pick vals18 0, by constructor <;> decide +kernel, 1, by decide +kernel, by decide +kernel⟩,
   ⟨pick vals18 0, by constructor <;> decide +kernel, 0, by decide +kernel⟩,
   ⟨pick vals18 0, by and_intros <;> decide +kernel⟩,
   ⟨pick vals18 2, by decide +kernel, by decide +kernel⟩,
   ⟨pick vals18 0, by decide +kernel, by decide +kernel⟩,
   ⟨pick vals18 2, by decide +kernel, by decide +kernel⟩,
   ⟨pick vals18 0, by and_intros <;> decide +kernel⟩,
   ⟨pick vals18 0, by decide +kernel, by decide +kernel⟩,
   ⟨held (pick vals18 8), by and_intros <;> decide +kernel⟩,
   ⟨pick vals18 0, by and_intros <;> decide +kernel⟩⟩

end HostInterface

namespace Faults

def allInst : List InstId := ((List.range 8192).filterMap instOfIndex).filter (·.present)
def b : State := {
        boot := {({} : State).boot with inReset := false, avs := true, vkeep := true},
        tsu := {sec := 0x123456789A, ns := 77}}
def cf (n : Nat) (v : Word) (s : State) : State := s.setEnt flt4 4 n 0 v
def rep (s : State) : State := [0,1,2,3].foldl (fun s n => cf (12+n) 1 (cf (56+n) 1 s)) s
def fx (f : FltSt → FltSt) (s : State) : State := {s with flt := f s.flt}
def bx (f : BootSt → BootSt) (s : State) : State := {s with boot := f s.boot}
def srcs : List (Fin 96) := [0, 5, 9, 22, 26, 33, 45, 54, 58, 62, 66, 78, 82, 84, 85, 87, 88, 89, 91, 92, 93, 94, 95]
def all (v : Word) (s : State) : State := srcs.foldl (fun t n => cf n.val v t) s
def vals2 : List ((Fin 96)) := srcs
def vals5 : List InstId := allInst
def bc : State := b.setReg flt4 R.FLT_CTRL 0
def S1 : List State := [b, all 1 b, all 0x31 b, all 0x71 b, rep (all 0xB1 b), rep (all 2 bc),
    rep (all 2 (bc.setReg (slInst .egv 1) R.EGV_SSTAT 0)), all 3 bc, all 4 bc, all 0x101 b,
        fx (fun f => {f with sealed := true}) b, bx (fun f => {f with inReset := true}) (all 1 b),
        bx (fun f => {f with inReset := true}) (all 3 bc), bx (fun f => {f with inReset := true}) (all 4 bc),
  all 1 (b.setReg flt4 R.FLT_FIRST 5),
      all 0x31 (((b.setReg flt4 0 0xFFFFFFFF).setReg flt4 4 0xFFFFFFFF).setReg flt4 8 0xFFFFFFFF),
      all 1 (b.updFifo 12 fun x => {x with words := List.replicate 63 ⟨4, true, false⟩}),
      all 1 (fx (fun f => {f with missed := true, bark := true}) b),
      all 1 (fx (fun f => {f with t115 := true}) (b.setRegB egv4 R.EGV_DSTAT 31 true)),
      all 1 (b.setReg (chInst 9) (chOff 9 R.DTC_REFSTAT) 0x300)]
def vals6 : List State := S1
/-- MSI-X, its vector 0 and INT_N enabled. -/
def heard (s : State) : State :=
  { (s.setRegB flt4 R.FLT_CTRL 0 true) with hif := { s.hif with msixOn := s.hif.msixOn.set 0 true, msixOpen := s.hif.msixOpen.set 0 true } }
/-- Hypotheses of `FaultsAreDetected` that can be met. -/
theorem test_witness_FaultsAreDetected :
    (∃ s : State, ∃ src : Fin 96, Calm s ∧ s.boot.vaon = true ∧ ¬ Heard s src.val) ∧
    (∃ s : State, ∃ src : Fin 96, Calm s ∧ s.boot.vaon = true ∧ ReportOnly s src.val ∧ ∃ k : Fin 96, k ≠ src) ∧
    (∃ s : State, ∃ src : Fin 96, Calm s ∧ s.boot.vaon = true ∧ ReportOnly s src.val ∧ isLatched s src.val = true) ∧
    (∃ s : State, ∃ src : Fin 96, Calm s ∧ s.boot.vaon = true ∧ ReportOnly s src.val ∧ isLatched s src.val = false ∧
        (s.hif.fifos.get 12).words.length ≤ 62) ∧
    (∃ s : State, ∃ src : Fin 96, Calm s ∧ s.boot.vaon = true ∧ ReportOnly s src.val ∧ isLatched s src.val = false ∧
        62 < (s.hif.fifos.get 12).words.length) ∧
    (∃ s : State, ∃ src : Fin 96, Calm s ∧ s.boot.vaon = true ∧ ReportOnly s src.val ∧ (s.srcCfg src.val).getLsbD 4 = true ∧
        isLatched s src.val = false ∧ s.hif.msixOn.get 0 = true ∧ s.vectorOpen 0 0 = true) ∧
    (∃ s : State, ∃ src : Fin 96, Calm s ∧ s.boot.vaon = true ∧ ReportOnly s src.val ∧ (s.srcCfg src.val).getLsbD 4 = true ∧
        s.regB flt4 R.FLT_CTRL 0 = true) ∧
    (∃ s : State, ∃ src : Fin 96, Calm s ∧ s.boot.vaon = true ∧ ReportOnly s src.val ∧ (s.srcCfg src.val).getLsbD 5 = true ∧
        (isLatched s src.val = false ∨ s.regB flt4 R.FLT_NMI 0 = false) ∧ s.hif.msixOn.get 0 = true) ∧
    (∃ s : State, ∃ src : Fin 96, Calm s ∧ s.boot.vaon = true ∧ Heard s src.val ∧ faultClass s src.val ≤ 1 ∧
        (s.srcCfg src.val).getLsbD 8 = false ∧ (s.srcCfg src.val).getLsbD 6 = true) ∧
    (∃ s : State, ∃ src : Fin 96, Calm s ∧ s.boot.vaon = true ∧ Heard s src.val ∧ faultClass s src.val ≤ 1 ∧
        (s.srcCfg src.val).getLsbD 8 = false ∧ (s.srcCfg src.val).getLsbD 7 = true ∧ DiscardsAreReported s) ∧
    (∃ s : State, ∃ src : Fin 96, ∃ g : Fin 16, Calm s ∧ s.boot.vaon = true ∧ ∃ i, Heard s src.val ∧ faultClass s src.val = 2 ∧
        Unpinned s src.val ∧ DiscardsAreReported s ∧ s.boot.inReset = false ∧ resetTarget src.val = some i ∧
        Clocked s i ∧ Resettable s i (if src.val / 4 = 1 then g.val else 15)) ∧
    (∃ s : State, ∃ src : Fin 96, Calm s ∧ s.boot.vaon = true ∧ Heard s src.val ∧ faultClass s src.val = 3 ∧ NoSnapshot s src.val ∧
        (s.srcCfg src.val).getLsbD 7 = true) ∧
    (∃ s : State, ∃ src : Fin 96, Calm s ∧ s.boot.vaon = true ∧ src.val ∈ [89, 92, 95] ∧ Heard s src.val ∧ faultClass s src.val = 4 ∧
        fld (s.srcCfg src.val) 4 4 = 15 ∧ s.boot.vkeep = true ∧ NoSnapshot s src.val) ∧
    (∃ s : State, ∃ src : Fin 96, Calm s ∧ s.boot.vaon = true ∧ s.boot.inReset = true ∧ s.flt.sealed = true ∧
        src.val ∈ [89, 92, 95] ∧ Heard s src.val ∧ faultClass s src.val = 4 ∧ fld (s.srcCfg src.val) 4 4 = 15) ∧
    (∃ s : State, ∃ src : Fin 96, Calm s ∧ s.boot.vaon = true ∧ s.boot.inReset = false ∧ (((src.val = 88 ∧ s.flt.t115 = true) ∨ (src.val = 87 ∧
        s.hot = true) ∨ (src.val = 85 ∧ ∃ n : Slice, avsFailed s n = true) ∨ (src.val = 91 ∧
        s.links.ents.any (fun e => e.2.dead) = true) ∨ (src.val / 4 = 19 ∧ ∃ j : Fin 4,
        s.chF (src.val % 4 * 4 + j.val) R.DTC_REFSTAT 8 8 ≠ 0))) ∧ ReportOnly s src.val) ∧
    (∃ s : State, ∃ src : Fin 96, Calm s ∧ s.boot.vaon = true ∧ s.boot.inReset = false ∧ (¬ ((src.val = 88 ∧ s.flt.t115 = true) ∨ (src.val = 87 ∧
        s.hot = true) ∨ (src.val = 85 ∧ ∃ n : Slice, avsFailed s n = true) ∨ (src.val = 91 ∧
        s.links.ents.any (fun e => e.2.dead) = true) ∨ (src.val / 4 = 19 ∧ ∃ j : Fin 4,
        s.chF (src.val % 4 * 4 + j.val) R.DTC_REFSTAT 8 8 ≠ 0)))) ∧
    (∃ s : State, Calm s ∧ s.boot.inReset = false ∧ s.boot.vaon = true ∧ s.flt.bark = false) ∧
    (∃ s : State, Calm s ∧ s.boot.vaon = true ∧ s.flt.bark = true) :=
  ⟨⟨bx (fun f => {f with inReset := true}) b, pick vals2 0, by decide +kernel, by decide +kernel, by unfold Heard; decide +kernel⟩,
   ⟨pick vals6 0, pick vals2 0, by decide +kernel, by decide +kernel, by constructor <;> decide +kernel, pick vals2 1, by decide +kernel⟩,
   ⟨pick vals6 15, pick vals2 0, by and_intros <;> first | decide +kernel | (constructor <;> decide +kernel)⟩,
   ⟨pick vals6 0, pick vals2 0, by and_intros <;> first | decide +kernel | (constructor <;> decide +kernel)⟩,
   ⟨pick vals6 16, pick vals2 0, by and_intros <;> first | decide +kernel | (constructor <;> decide +kernel)⟩,
   ⟨heard (pick vals6 2), pick vals2 0, by decide +kernel, by decide +kernel, by constructor <;> decide +kernel, by and_intros <;> decide +kernel⟩,
   ⟨heard (pick vals6 2), pick vals2 0, by and_intros <;> first | decide +kernel | (constructor <;> decide +kernel)⟩,
   ⟨heard (pick vals6 2), pick vals2 0, by decide +kernel, by decide +kernel, by constructor <;> decide +kernel, by and_intros <;> decide +kernel⟩,
   ⟨pick vals6 3, pick vals2 0, by decide +kernel, by decide +kernel, by unfold Heard; decide +kernel, by and_intros <;> decide +kernel⟩,
   ⟨pick vals6 4, pick vals2 0, by decide +kernel, by decide +kernel, by unfold Heard; decide +kernel, by decide +kernel, by decide +kernel,
       by decide +kernel, by intro n; fin_cases n <;> constructor <;> constructor <;> decide +kernel⟩,
   ⟨pick vals6 5, pick vals2 0, 15, by decide +kernel, by decide +kernel, pick vals5 6, by unfold Heard; decide +kernel, by decide +kernel,
       by unfold Unpinned; decide +kernel, by intro n; fin_cases n <;> constructor <;> constructor <;> decide +kernel,
       by decide +kernel, by decide +kernel, by unfold Clocked; decide +kernel, by unfold Resettable; decide +kernel⟩,
   ⟨cf 0 0xB3 bc, pick vals2 0, by and_intros <;> first | decide +kernel | (unfold Heard; decide +kernel) | (unfold NoSnapshot; decide +kernel)⟩,
   ⟨bc, 92, by and_intros <;> first | decide +kernel | (unfold Heard; decide +kernel) | (unfold NoSnapshot; decide +kernel)⟩,
   ⟨fx (fun f => {f with sealed := true}) (bx (fun f => {f with inReset := true}) b), 89, by and_intros <;> first | decide +kernel | (unfold Heard; decide +kernel)⟩,
   ⟨pick vals6 18, pick vals2 16, by and_intros <;> first | decide +kernel | (constructor <;> decide +kernel)⟩,
   ⟨pick vals6 0, pick vals2 0, by and_intros <;> decide +kernel⟩,
   ⟨pick vals6 0, by and_intros <;> decide +kernel⟩,
   ⟨pick vals6 17, by and_intros <;> decide +kernel⟩⟩

/-- R565: in Shift-DR a rising edge of TCK takes TDI into the bypass register, and a falling edge drives TDO from it; TRST_N resets. -/
theorem test_tap_shifts :
    let u : TapSt := { trstN := true, state := .shiftDr }
    let v := u.drive true false true true false
    v.bypass = true ∧ v.state = .shiftDr ∧ (v.drive false false true true false).tdo = some true ∧
      (v.drive true false true false false).state = .testLogicReset := by decide
/-- R519, R537: a source of a slice that failed self-test is not latched. -/
theorem test_failed_slice_is_not_heard : (match exec (.faultDetect 9 15) (b.setRegB knl4 R.KNL_BOOT 13 true) with
    | .next t => isLatched t 9
    | _ => true) = false := by decide +kernel

end Faults

namespace Resets

def allInst : List InstId := ((List.range 8192).filterMap instOfIndex).filter (·.present)
def cold : State := {
        boot := {({} : State).boot with inReset := false, avs := true, vkeep := true},
        tsu := {sec := 0x123456789A, ns := 77}}
def b : State := up cold
def cf (n : Nat) (v : Word) (s : State) : State := s.setEnt flt4 4 n 0 v
def rep (s : State) : State := [0,1,2,3].foldl (fun s n => cf (12+n) 1 (cf (56+n) 1 s)) s
def fx (f : FltSt → FltSt) (s : State) : State := {s with flt := f s.flt}
def bx (f : BootSt → BootSt) (s : State) : State := {s with boot := f s.boot}
def pt (s : State) : State := s.setLane 130 R.PRT_PCFG 0 17 0x11
def S2 : List State := [b, pt b, b.setReg flt4 R.FLT_MUZZLE 0x81, b.setReg flt4 R.FLT_MUZZLE 0x11,
    fx (fun f => {f with frozen := some (2,4)}) ((b.setReg flt4 0 7).setReg flt4 8 9),
        cf 70 1 <| cf 40 1 <| cf 5 1 <| ((b.setReg flt4 0 0x20).setReg flt4 R.FLT_MUZZLE 1)]
def vals4 : List State := S2 ++ [cf 5 0x80 ((b.setReg flt4 0 0x20).setReg flt4 R.FLT_MUZZLE 1)]
def gos : List Word := allInst.flatMap fun i => [15, 3,
    13].flatMap fun g => [BitVec.ofNat 32 (instIndex i + 8192 * g + 2^20), BitVec.ofNat 32 (instIndex i + 8192 * g)]
def vals8 : List Word := gos ++ [0xC5, 0x1FFF + 2^20, 0x1C5]
def vals10 : List ((BitVec 13)) := allInst.map fun i => BitVec.ofNat 13 (instIndex i)
def rs (l : List InstId) (s : State) : State := fx (fun f => {f with resets := l.map fun i => ⟨instIndex i, 15, true⟩}) s
def S3 : List State := [rep b, rs [tsu4] b, rs [slInst .asa 1] b, rs [hif4] (rep b),
    rep (b.setReg (slInst .egv 1) R.EGV_SSTAT 0x200)]
def vals12 : List State := S3
def L0 : List (Nat × Word) := [(3,4)]
def S4 : List State := [b, b.setReg flt4 R.FLT_SNAPCFG 1,
    {b with time := 5000}.setReg flt4 R.FLT_SNAPCFG 1].flatMap fun s => [s,
        fx (fun f => {f with lastTrigger := some 4000}) s, fx (fun f => {f with lastTrigger := some 3999}) s,
        fx (fun f => {f with shadow := some (2, L0)}) s, fx (fun f =>
            {f with shadow := some (2, L0), chipPending := some 3}) s, s.setReg flt4 R.FLT_SNAPSTAT 0x21, (fx (fun f
            => {f with shadow := some (2, L0)}) s).setReg (slInst .egv 1) R.EGV_SSTAT 0x300, s.setReg flt4
            R.FLT_SNAPSTAT 0x0F]
def vals17 : List State := S4
def kn : State := {cold with
        knl := {cold.knl with
            sec := 99, ticks := 777, store := ((cold.knl.store.set 0x1002 1).set (0x1000 + 8 * 300 + 2) 9).set 8 0xFF}}
def bt (v : Word) (s : State) : State := s.setReg knl4 R.KNL_BOOT v
def S5 : List State := [cold, kn].flatMap fun s => [s, bt 1 s, bt 3 s, bt 0x23 s, (bt 1 s).setReg knl4 R.KNL_STRAP 3,
    (bt 3 s).setReg knl4 R.KNL_STRAP 1, bt 0x13 s].flatMap fun s => [s, bx (fun f =>
        {f with avs := false, fullStart := false}) s, bx (fun f => {f with porstLow := true}) s, bx (fun f =>
        {f with vaon := false}) s,
        fx (fun f => {f with sealed := true}) s, bx (fun f => {f with inReset := true}) s, cf 92 1 s,
        {s with gov := {s.gov with s6Held := true}}, s.updPort 130 fun p => {p with waitCal := true}]
def vals24 : List State := S5
/-- A flash whose one item has the training data's type and a CRC. -/
def flashWith (item crc : List Byte) : List Byte :=
  [0x4B, 0x53, 0x46, 0x31, 1, 0, 0, 0, 0, 0, 0, 0, 0, 0, 0, 0, 3, 0, 0, 0, 32, 0, 0, 0, 0, 0x15, 0, 0] ++ (crc ++ item)
def trainingItem : List Byte := List.replicate 5376 0
theorem slice_all (l : List Byte) : slice l 0 l.length = l := by
  refine List.ext_getElem (by simp [slice]) fun i h h' => ?_
  simp [slice, h']
/-- R492: the one item of such a flash, whatever four bytes stand as its CRC. -/
theorem flash_lists (p q r t : Byte) (item : List Byte) (h : item.length = 5376) (hc : fcsOf item = [p, q, r, t]) :
    ListsTraining (flashWith item [p, q, r, t]) 0 ∧ (flashItem (flashWith item [p, q, r, t]) 0).length = 5376 := by
  have e : flashItem (flashWith item [p, q, r, t]) 0 = item := by
    show slice (flashWith item [p, q, r, t]) 32 5376 = item
    rw [← h, show slice (flashWith item [p, q, r, t]) 32 item.length = slice item 0 item.length by
      simp [slice, flashWith, Nat.add_comm 32], slice_all]
  exact ⟨⟨rfl, by show 0 < 1; decide, rfl, by rw [e, hc]; rfl⟩, by rw [e, h]⟩
/-- Hypotheses of `StatusWordsFreeze` that can be met. -/
theorem test_witness_StatusWordsFreeze :
    (∃ s : State, Reached s flt4 ∧ ∃ a, ∃ b, s.flt.frozen = some (a, b)) ∧
    (∃ s : State, Reached s flt4 ∧ s.flt.frozen = none) ∧
    (∃ s : State, Reached s flt4 ∧ ∃ src : Fin 96, ReportOnly s src.val) :=
  ⟨⟨pick vals4 4, by constructor <;> decide +kernel, 0x00000002#32, 0x00000004#32, by decide +kernel⟩,
   ⟨pick vals4 0, by constructor <;> decide +kernel, by decide +kernel⟩,
   ⟨pick vals4 0, by constructor <;> decide +kernel, 40, by constructor <;> decide +kernel⟩⟩
/-- Hypotheses of `MuzzleAndSnapshots`, `MuzzleIsForcedAndReleased` that can be met. -/
theorem test_witness_MuzzleIsForcedAndReleased :
    (∃ s : State, Reached s flt4 ∧ ∃ v : Word, NothingMuzzled s ∧ v.getLsbD 3 = true ∧ v.getLsbD 5 = true) ∧
    (∃ s : State, Reached s flt4 ∧ ∃ v : Word, NothingMuzzled s ∧ v.getLsbD 1 = true ∧ v.getLsbD 3 = false ∧
        MuzzlerHolds s) ∧
    (∃ s : State, Reached s flt4 ∧ ∃ v : Word, NothingMuzzled s ∧ v.getLsbD 1 = true ∧ v.getLsbD 3 = false ∧
        ¬ MuzzlerHolds s) ∧
    (∃ s : State, Reached s flt4 ∧ DiscardsAreReported s ∧ ∃ v : Word, v.getLsbD 3 = true ∧ v.getLsbD 5 = true ∧
        v.getLsbD 6 = true ∧ ∃ p : Port, (s.laneReg p.val R.PRT_PCFG).getLsbD 11 = true ∧
          (s.laneReg p.val R.PRT_PSTAT).getLsbD 11 = false) ∧
    (∃ s : State, Reached s flt4 ∧ DiscardsAreReported s ∧ s.regB flt4 R.FLT_MUZZLE 0 = true ∧ s.regB flt4 R.FLT_MUZZLE 7 = true ∧
        ∃ v : Word, v.getLsbD 1 = false ∧ ∃ p : Port, (s.laneReg p.val R.PRT_PCFG).getLsbD 0 = true ∧
          (s.laneReg p.val R.PRT_PSTAT).getLsbD 11 = false) ∧
    (∃ s : State, Reached s flt4 ∧ DiscardsAreReported s ∧ ¬ MuzzlerHolds s ∧ ∃ v : Word, v.getLsbD 1 = true ∧
        v.getLsbD 3 = false ∧ ∃ p : Port, (s.laneReg p.val R.PRT_PSTAT).getLsbD 11 = true) :=
  ⟨⟨pick vals4 0, by constructor <;> decide +kernel, 0x28, by unfold NothingMuzzled; decide +kernel, by decide +kernel,
      by decide +kernel⟩,
   ⟨pick vals4 6, by constructor <;> decide +kernel, 2, by unfold NothingMuzzled; decide +kernel, by decide +kernel,
       by decide +kernel, by unfold MuzzlerHolds; decide +kernel⟩,
   ⟨pick vals4 0, by constructor <;> decide +kernel, 2, by unfold NothingMuzzled; decide +kernel, by decide +kernel,
       by decide +kernel, by unfold MuzzlerHolds; decide +kernel⟩,
   ⟨rep (b.setLane 130 R.PRT_PCFG 0 17 0x801), by constructor <;> decide +kernel,
       by intro n; fin_cases n <;> constructor <;> constructor <;> decide +kernel, 0x68, by decide +kernel,
       by decide +kernel, by decide +kernel, 130, by decide +kernel, by decide +kernel⟩,
   ⟨rep ((pt b).setReg flt4 R.FLT_MUZZLE 0x81), by constructor <;> decide +kernel,
       by intro n; fin_cases n <;> constructor <;> constructor <;> decide +kernel, by decide +kernel, by decide +kernel, 0,
       by decide +kernel, 130, by decide +kernel, by decide +kernel⟩,
   ⟨rep (b.setLane 130 R.PRT_PSTAT 11 1 1), by constructor <;> decide +kernel,
       by intro n; fin_cases n <;> constructor <;> constructor <;> decide +kernel, by unfold MuzzlerHolds; decide +kernel, 2,
       by decide +kernel, by decide +kernel, 130, by decide +kernel⟩⟩
/-- A pup store's entry is damaged while the PUP is in reset. -/
def badPup : State := { rs [slInst .pup 1] b with bad := ({} : Tbl Bool).set (winKey (slInst .pup 1) 0 7) true }
theorem neighbour_good (w e : Nat) : badPup.badEntry (slInst .pup 2) w e = false := by
  refine List.any_eq_false.2 fun k _ => ?_
  have h : winKey (slInst .pup 2) w (e * winWords (slInst .pup 2) w + k) ≠ winKey (slInst .pup 1) 0 7 := by
    have h1 : instIndex (slInst .pup 2) = instIndex (slInst .pup 1) + 1 := by decide +kernel
    simp only [winKey, h1]; omega
  simp only [State.badWord, show badPup.bad = ({} : Tbl Bool).set (winKey (slInst .pup 1) 0 7) true from rfl,
    Tbl.get_set_other _ _ _ _ h]
  exact Bool.false_ne_true
theorem quiet_b : Quiet b := by decide +kernel
/-- Hypotheses of `ResetsAreAskedFor` that can be met. -/
theorem test_witness_ResetsAreAskedFor :
    (∃ s : State, ∃ v : Word, Calm s ∧ s.boot.vaon = true ∧ s.flt.sealed = false ∧ s.ctlRuns = false ∧ fld v 0 8 = 0xC5) ∧
    (∃ s : State, Reached s flt4 ∧ ∃ v : Word, ∃ i : InstId, instOfIndex (fld v 0 13) = some i ∧ v.getLsbD 20 = false) ∧
    (∃ s : State, Reached s flt4 ∧ ∃ v : Word, ∃ i : InstId, instOfIndex (fld v 0 13) = some i ∧ v.getLsbD 20 = true ∧
        ¬ Resettable s i (fld v 13 4)) ∧
    (∃ s : State, Reached s flt4 ∧ ∃ v : Word, ∃ i : InstId, instOfIndex (fld v 0 13) = some i ∧ v.getLsbD 20 = true ∧
        Resettable s i (fld v 13 4) ∧ Clocked s i ∧ DiscardsAreReported s) ∧
    (∃ s : State, Reached s flt4 ∧ ∃ v : Word, ∃ i : InstId, instOfIndex (fld v 0 13) = some i ∧ v.getLsbD 20 = true ∧
        Resettable s i (fld v 13 4) ∧ ¬ Clocked s i) ∧
    (∃ s : State, Reached s flt4 ∧ ∃ v : Word, instOfIndex (fld v 0 13) = none ∧ v.getLsbD 20 = true) ∧
    (∃ s : State, Reached s flt4 ∧ ∃ n : BitVec 13, ∃ i : InstId, instOfIndex n.toNat = some i ∧
        s.flt.resets.all (fun r => r.target ≠ instIndex i) = true) ∧
    (∃ s : State, Reached s flt4 ∧ ∃ n : BitVec 13, ∃ i : InstId, instOfIndex n.toNat = some i ∧ ∃ asked,
        i.present = true ∧ i.block ∈ [.asa, .tsu, .kce, .hif, .rwr] ∧ s.held = [] ∧ s.flt.resets = [⟨instIndex i, 15,
        asked⟩]) ∧
    (∃ s : State, Reached s flt4 ∧ s.held = [] ∧ ∀ b ∈ [Block.prt, .bpm, .tmg, .swc, .fwd, .pcl, .dtc, .egv, .pup],
        b.sliced = true ∧ ∃ t : State, Reached t flt4 ∧ t.held = [] ∧ ∃ asked, t.flt.resets = [⟨instIndex (slInst b 1), 15, asked⟩] ∧
          (t.fwd 1).queue = [] ∧ t.retiring = false ∧ t.failed 1 = false) ∧
    (∃ s : State, Reached s flt4 ∧ s.held = [] ∧ ∃ asked, s.flt.resets = [⟨instIndex (slInst .pup 1), 3, asked⟩]) ∧
    (∃ s : State, Reached s flt4 ∧ s.held = [] ∧ s.bad.wf = true ∧ s.badEntry (slInst .pup 1) 0 7 = true ∧
        (∀ (w : Fin 2) (e : Nat), s.badEntry (slInst .pup 1) w.val e = true → s.badEntry (slInst .pup 2) w.val e = false) ∧
        ∃ asked, s.flt.resets = [⟨instIndex (slInst .pup 1), 15, asked⟩]) ∧
    (∃ s : State, Reached s flt4 ∧ s.held = [] ∧ ∃ asked, s.flt.resets = [⟨instIndex swc4, 15, asked⟩]) ∧
    (∃ s : State, Reached s flt4 ∧ ∃ v : Word, fld v 0 8 ≠ 0xC5) ∧
    (∃ s : State, Reached s flt4 ∧ ∃ v : Word, fld v 0 8 = 0xC5) :=
  ⟨⟨{}, 0xFC5, by and_intros <;> decide +kernel⟩,
   ⟨pick vals12 0, by constructor <;> decide +kernel, pick vals8 1, { block := Block.egv, inst := 0 }, by decide +kernel,
      by decide +kernel⟩,
   ⟨pick vals12 0, by constructor <;> decide +kernel, pick vals8 2, { block := Block.egv, inst := 0 }, by decide +kernel,
       by decide +kernel, by unfold Resettable; decide +kernel⟩,
   ⟨pick vals12 0, by constructor <;> decide +kernel, pick vals8 0, { block := Block.egv, inst := 0 }, by decide +kernel,
       by decide +kernel, by unfold Resettable; decide +kernel, by unfold Clocked; decide +kernel,
       by intro n; fin_cases n <;> constructor <;> constructor <;> decide +kernel⟩,
   ⟨pick vals12 4, by constructor <;> decide +kernel, pick vals8 6, { block := Block.egv, inst := 1 }, by decide +kernel,
       by decide +kernel, by unfold Resettable; decide +kernel, by unfold Clocked; decide +kernel⟩,
   ⟨pick vals12 0, by constructor <;> decide +kernel, pick vals8 307, by decide +kernel, by decide +kernel⟩,
   ⟨pick vals12 0, by constructor <;> decide +kernel, pick vals10 0, { block := Block.egv, inst := 0 },
       by decide +kernel, by decide +kernel⟩,
   ⟨pick vals12 1, by constructor <;> decide +kernel, pick vals10 47, { block := Block.tsu, inst := 4 },
       by decide +kernel, true, by and_intros <;> decide +kernel⟩,
   ⟨b, by constructor <;> decide +kernel, by decide +kernel, fun k hk => ⟨by revert k; decide +kernel, rs [slInst k 1] b,
       ⟨quiet_b, by revert k; decide +kernel, by revert k; decide +kernel⟩, rfl, true, rfl, rfl, by revert k; decide +kernel⟩⟩,
   ⟨fx (fun f => {f with resets := [⟨instIndex (slInst .pup 1), 3, true⟩]}) b, by constructor <;> decide +kernel,
       by decide +kernel, true, rfl⟩,
   ⟨badPup, by constructor <;> decide +kernel, by decide +kernel, by decide +kernel, by decide +kernel,
       fun w e _ => neighbour_good w.val e, true, rfl⟩,
   ⟨rs [swc4] b, by constructor <;> decide +kernel, by decide +kernel, true, rfl⟩,
   ⟨pick vals12 0, by constructor <;> decide +kernel, pick vals8 0, by decide +kernel⟩,
   ⟨pick vals12 0, by constructor <;> decide +kernel, pick vals8 306, by decide +kernel⟩⟩
/-- Hypotheses of `MuzzleAndSnapshots`, `SnapshotsAreTaken` that can be met. -/
theorem test_witness_SnapshotsAreTaken :
    (∃ s : State, Reached s flt4 ∧ ∃ v : Word, (v.getLsbD 0 = false ∨ ¬ Apart s)) ∧
    (∃ s : State, Reached s flt4 ∧ ∃ v : Word, v.getLsbD 0 = true ∧ Apart s ∧ s.flt.shadow.isSome = true) ∧
    (∃ s : State, Reached s flt4 ∧ ∃ v : Word, ∃ b : Fin 4, v.getLsbD 0 = true ∧ Apart s ∧ s.flt.shadow = none ∧
        LowestFree s b) ∧
    (∃ s : State, Reached s flt4 ∧ ∃ v : Word, v.getLsbD 0 = true ∧ Apart s ∧ s.flt.shadow = none ∧
        (∀ b : Fin 4, ¬ LowestFree s b) ∧ s.regB flt4 R.FLT_CTRL 2 = false) ∧
    (∃ s : State, Reached s flt4 ∧ ∃ v : Word, v.getLsbD 0 = true ∧ Apart s ∧ s.flt.shadow = none ∧
        (∀ b : Fin 4, ¬ LowestFree s b) ∧ s.regB flt4 R.FLT_CTRL 2 = true ∧ ∃ b : Fin 4, ∃ rest, s.flt.bankOrder = b.val :: rest) ∧
    (∃ s : State, Reached s flt4 ∧ ((s.regB flt4 R.FLT_SNAPCFG 0) = false ∨ ¬ Apart s)) ∧
    (∃ s : State, Reached s flt4 ∧ ∃ b : Fin 4, (s.regB flt4 R.FLT_SNAPCFG 0) = true ∧ Apart s ∧ s.flt.shadow = none ∧
        LowestFree s b) ∧
    (∃ s : State, Reached s flt4 ∧ (s.flt.shadow = none ∨ (∃ n : Slice, s.regF (slInst .egv n) R.EGV_SSTAT 8 2 = 3))) ∧
    (∃ s : State, Reached s flt4 ∧ ∃ b, ∃ l, s.flt.shadow = some (b, l) ∧ b < 4 ∧ (∀ n : Slice,
        s.regF (slInst .egv n) R.EGV_SSTAT 8 2 ≠ 3) ∧ ∃ cause, s.flt.chipPending = some cause) ∧
    (∃ s : State, Reached s flt4 ∧ ∃ v : Word, ∃ b : Fin 4, v.getLsbD (8 + b.val) = true ∧
        (s.regB flt4 R.FLT_SNAPSTAT (4 + b.val)) = false) ∧
    (∃ s : State, Reached s flt4 ∧ ∃ v : Word, ∃ b : Fin 4,
        (v.getLsbD (8 + b.val) = false ∨ (s.regB flt4 R.FLT_SNAPSTAT (4 + b.val)) = true)) :=
  ⟨⟨pick vals17 0, by constructor <;> decide +kernel, 0, by unfold Apart; decide +kernel⟩,
   ⟨pick vals17 3, by constructor <;> decide +kernel, 1, by decide +kernel, by unfold Apart; decide +kernel,
       by decide +kernel⟩,
   ⟨pick vals17 0, by constructor <;> decide +kernel, 1, 0, by decide +kernel, by unfold Apart; decide +kernel,
       by decide +kernel, by unfold LowestFree; decide +kernel⟩,
   ⟨(pick vals17 7).setReg flt4 R.FLT_CTRL 0, by constructor <;> decide +kernel, 1, by and_intros <;> first | decide +kernel | (unfold Apart; decide +kernel) | (unfold LowestFree; decide +kernel)⟩,
   ⟨fx (fun f => {f with bankOrder := [2, 3, 0, 1]}) ((pick vals17 7).setReg flt4 R.FLT_CTRL 4), by constructor <;> decide +kernel, 1,
       by decide +kernel, by unfold Apart; decide +kernel, by decide +kernel, by unfold LowestFree; decide +kernel,
       by decide +kernel, 2, [3, 0, 1], by decide +kernel⟩,
   ⟨pick vals17 1, by constructor <;> decide +kernel, by unfold Apart; decide +kernel⟩,
   ⟨pick vals17 0, by constructor <;> decide +kernel, 0, by decide +kernel, by unfold Apart; decide +kernel,
       by decide +kernel, by unfold LowestFree; decide +kernel⟩,
   ⟨pick vals17 0, by constructor <;> decide +kernel, by decide +kernel⟩,
   ⟨pick vals17 4, by constructor <;> decide +kernel, 2, [(3, 0x00000004#32)], by decide +kernel, by decide +kernel,
       by decide +kernel, 3, by decide +kernel⟩,
   ⟨pick vals17 0, by constructor <;> decide +kernel, 0x100, 0, by decide +kernel, by decide +kernel⟩,
   ⟨pick vals17 0, by constructor <;> decide +kernel, 0, 0, by decide +kernel⟩⟩
/-- Hypotheses of `DeviceStartsUp` that can be met. -/
theorem test_witness_DeviceStartsUp :
    (∃ s : State, Calm s ∧ s.boot.inReset = true ∧ ¬ PinsAct s) ∧
    (∃ s : State, Calm s ∧ s.boot.inReset = false ∧ ¬ PinsAct s) ∧
    (∃ s : State, Calm s ∧ PinsAct s ∧ ∃ k : Fin 512, ∃ x : KeySlot, ∃ h, s.kce.slots = ({} : Tbl KeySlot).set k.val x ∧
        x.writing = some h ∧ s.boot.vkeep = true) ∧
    (∃ s : State, Calm s ∧ PinsAct s ∧ s.boot.porstLow = true ∧ s.boot.vkeep = true) ∧
    (∃ s : State, Calm s ∧ (bootBit s 0 = true ∨ ¬ Released s)) ∧
    (∃ s : State, Calm s ∧ ∃ rootOk : Bool, bootBit s 0 = false ∧ Released s ∧ rootOk = false ∧ faultClass s 92 = 4 ∧
        s.boot.vkeep = true) ∧
    (∃ s : State, Calm s ∧ ∃ rootOk : Bool, bootBit s 0 = false ∧ Released s ∧ rootOk = true ∧ s.boot.fullStart = false) ∧
    (∃ s : State, Quiet s ∧ ¬ (bootBit s 0 = true ∧ s.regB knl4 R.KNL_STRAP 0 = true ∧ bootBit s 3 = false)) ∧
    (∃ s : State, Quiet s ∧ (bootBit s 0 = true ∧ s.regB knl4 R.KNL_STRAP 0 = true ∧ bootBit s 3 = false)) ∧
    (∃ s : State, Quiet s ∧ ∃ flash : List Byte, (bootBit s 0 = true ∧ s.regB knl4 R.KNL_STRAP 0 = true ∧ bootBit s 3 = false) ∧
        ((∀ k, ¬ ListsTraining flash k) ∨ s.regB knl4 R.KNL_STRAP 1 = false)) ∧
    (∃ s : State, Quiet s ∧ ∃ flash : List Byte, (bootBit s 0 = true ∧ s.regB knl4 R.KNL_STRAP 0 = true ∧ bootBit s 3 = false) ∧
        ∃ k, ListsTraining flash k ∧ (∀ j, j < k → ¬ ListsTraining flash j) ∧ s.regB knl4 R.KNL_STRAP 1 = true ∧
          (flashItem flash k).length = 5376) ∧
    (∃ s : State, Quiet s ∧ ¬ (bootBit s 0 = true ∧ bootBit s 1 = false)) ∧
    (∃ s : State, Quiet s ∧ (bootBit s 0 = true ∧ bootBit s 1 = false) ∧ bootBit s 4 = false ∧ ∃ a : Slice,
        ∃ b : Slice, a ≠ b) ∧
    (∃ s : State, Quiet s ∧ (bootBit s 1 = false ∨ bootBit s 5 = true)) ∧
    (∃ s : State, Quiet s ∧ bootBit s 1 = true ∧ bootBit s 5 = false ∧ ∃ p : Port,
        (s.port p.val).waitCal = true) ∧
    (∃ s : State, Quiet s ∧ (bootBit s 1 = false ∨ s.boot.avs = true)) ∧
    (∃ s : State, Quiet s ∧ bootBit s 1 = true ∧ s.boot.avs = false) :=
  ⟨⟨bx (fun f => {f with inReset := true}) (pick vals24 3), by decide +kernel, by decide +kernel, by unfold PinsAct; decide +kernel⟩,
   ⟨pick vals24 3, by decide +kernel, by decide +kernel, by unfold PinsAct; decide +kernel⟩,
   ⟨cold.updSlot 9 fun x => {x with writing := some (2^21)}, by decide +kernel, by unfold PinsAct; decide +kernel, 9,
       {({} : KeySlot) with writing := some (2^21)}, 2^21, by and_intros <;> decide +kernel⟩,
   ⟨pick vals24 2, by and_intros <;> first | decide +kernel | (unfold PinsAct; decide +kernel)⟩,
   ⟨pick vals24 2, by decide +kernel, by unfold Released PinsAct; decide +kernel⟩,
   ⟨pick vals24 5, by decide +kernel, false, by decide +kernel, by unfold Released PinsAct; decide +kernel, rfl, by decide +kernel,
       by decide +kernel⟩,
   ⟨pick vals24 1, by decide +kernel, true, by decide +kernel, by unfold Released PinsAct; decide +kernel, rfl,
       by decide +kernel⟩,
   ⟨pick vals24 0, by decide +kernel, by decide +kernel⟩,
   ⟨pick vals24 36, by decide +kernel, by decide +kernel⟩,
   ⟨pick vals24 36, by decide +kernel, [], by decide +kernel, .inl fun k h => by simp [ListsTraining, slice] at h⟩,
   ⟨pick vals24 36, by decide +kernel, _, by decide +kernel, 0, (flash_lists _ _ _ _ trainingItem List.length_replicate rfl).1,
       fun j h => absurd h (Nat.not_lt_zero j), by decide +kernel,
       (flash_lists _ _ _ _ trainingItem List.length_replicate rfl).2⟩,
   ⟨pick vals24 0, by decide +kernel, by decide +kernel⟩,
   ⟨pick vals24 9, by decide +kernel, by decide +kernel, by decide +kernel, 0, 1, by decide +kernel⟩,
   ⟨pick vals24 0, by decide +kernel, by decide +kernel⟩,
   ⟨pick vals24 26, by decide +kernel, by decide +kernel, by decide +kernel, 130, by decide +kernel⟩,
   ⟨pick vals24 0, by decide +kernel, by decide +kernel⟩,
   ⟨pick vals24 19, by and_intros <;> decide +kernel⟩⟩

end Resets

end Sys2Proof.Tests
end

section
/-! SUPPORT. Data accesses of the indirect windows (R36-R39, R580): when a command's access is performed at once, what a window
data command then comes to, and the access whose ADDR is beyond the window. -/

namespace Sys2Proof.Machine

open Sys2Proof.Spec

/-! ### Accesses that are performed at once (R31-R33) -/

/-- An access to an instance that can be reached waits for no held one. -/
theorem State.access_of_reached {s : State} {a : Access} (h : Reached s a.inst) (f : State → State) :
    s.access a f = f s := by
  have hfree : s.held.any a.waitsFor = false := by
    rw [List.any_eq_false]
    intro b hb
    obtain ⟨hinst, hbcast⟩ := h.first b hb
    simp [Access.waitsFor, hinst, hbcast]
  simp [State.access, h.here, hfree]

/-- A read of a register of an instance that can be reached. -/
theorem State.hostAccess_read_of_reached {s : State} {i : InstId} (h : Reached s i) (off : Nat) :
    s.hostAccess i off none = s.performRead i off :=
  State.access_of_reached (a := { inst := i, off := off }) h _

/-- A write of a register of an instance that can be reached. -/
theorem State.hostAccess_write_of_reached {s : State} {i : InstId} (h : Reached s i) (off : Nat) (v : Word) :
    s.hostAccess i off (some v) = s.performWrite i off v :=
  State.access_of_reached (a := { inst := i, off := off, value := some v }) h _

/-- A command on a quiet device whose effect leaves the collector, the queue and the time alone goes on to that effect. -/
theorem State.done_of_quiet_flt {s t : State} (hs : Quiet s) (hf : t.flt = s.flt) (hp : t.pending = s.pending)
    (ht : t.time = s.time) : s.done t = .next t := by
  obtain ⟨⟨hraise, hrated⟩, hrun⟩ := hs
  exact done_of_quiet s t hrated hrun (hf ▸ hraise) hp ht

/-! ### The data register of a window (R39) -/

@[simp] theorem isWinReg_wdata (i : InstId) : isWinReg i R.WDATA = i.hasWindow := by
  simp [isWinReg]

theorem State.performRead_wdata (s : State) {i : InstId} (hw : i.hasWindow = true) :
    s.performRead i R.WDATA = s.readWdata i := by
  simp [State.performRead, hw, R.WDATA, R.WSEL, R.WADDR]

theorem State.performWrite_wdata (s : State) {i : InstId} (hw : i.hasWindow = true) (v : Word) :
    s.performWrite i R.WDATA v = s.writeWdata i v := by
  simp [State.performWrite, hw, R.WDATA, R.WSEL, R.WADDR]

/-- A window read of one instance that can be reached is the read of BLK_WDATA. -/
theorem exec_wdataRead_of_reached {s : State} {i : InstId} (hw : i.hasWindow = true) (hi : i.inst ≠ 15) (h : Reached s i) :
    exec (.wdataRead i) s = s.done (s.readWdata i) := by
  have hone : i.inst.val ≠ 15 := fun e => hi (Fin.ext e)
  calc exec (.wdataRead i) s = execWdataRead i s := rfl
    _ = s.done (s.hostAccess i R.WDATA none) := by rw [execWdataRead, if_neg hone]
    _ = s.done (s.readWdata i) := by rw [State.hostAccess_read_of_reached h, s.performRead_wdata hw]

/-- A window write of one instance that can be reached is the write of BLK_WDATA. -/
theorem exec_wdataWrite_of_reached {s : State} {i : InstId} (hw : i.hasWindow = true) (hi : i.inst ≠ 15) (h : Reached s i)
    (v : Word) : exec (.wdataWrite i v) s = s.done (s.writeWdata i v) := by
  have hone : i.inst.val ≠ 15 := fun e => hi (Fin.ext e)
  calc exec (.wdataWrite i v) s = execWdataWrite i v s := rfl
    _ = s.done (s.hostAccess i R.WDATA (some v)) := by rw [execWdataWrite, State.hostWinWrite, if_neg hone]
    _ = s.done (s.writeWdata i v) := by rw [State.hostAccess_write_of_reached h, s.performWrite_wdata hw]

/-! ### ADDR beyond the window (R36, R580) -/

/-- A data access moves ADDR on as AINC says, and changes nothing else of the window state. -/
theorem WinState.advance_eq (x : WinState) : x.advance = { x with addr := nextAddr x } := by
  unfold WinState.advance nextAddr
  split <;> rfl

/-- ADDR names a word of no entry exactly where it is beyond the selected window, or no window is selected. -/
theorem State.winPlace_eq_none_iff (s : State) (i : InstId) : s.winPlace i = none ↔ Beyond s i := by
  simp only [State.winPlace, Beyond]
  split
  case _ hdim => simp [hdim]
  case _ n m hdim => simp [hdim]

theorem State.readWdata_of_beyond {s : State} {i : InstId} (h : Beyond s i) :
    s.readWdata i = (s.answer 0).setWs i { s.wsOf i with addr := nextAddr (s.wsOf i) } := by
  simp only [State.readWdata, (s.winPlace_eq_none_iff i).2 h, WinState.advance_eq]
  rfl

theorem State.writeWdata_of_beyond {s : State} {i : InstId} (h : Beyond s i) (v : Word) :
    s.writeWdata i v = s.setWs i { s.wsOf i with addr := nextAddr (s.wsOf i), capture := none } := by
  simp only [State.writeWdata, (s.winPlace_eq_none_iff i).2 h, WinState.advance_eq]
  rfl

end Sys2Proof.Machine

open Sys2Proof Sys2Proof.Machine Sys2Proof.Spec

/-- Settles O8: ADDR has no place in the window, so that of the access only the move of ADDR is left, with the answer 0 of a read
and the end of the capture of a write. -/
theorem windowAccessBeyondTheEnd : Obligations.WindowAccessBeyondTheEnd := by
  unfold Obligations.WindowAccessBeyondTheEnd
  intro s i v hw hi hreached hbeyond
  constructor
  · rw [exec_wdataRead_of_reached hw hi hreached, State.readWdata_of_beyond hbeyond]
    exact State.done_of_quiet_flt hreached.quiet rfl rfl rfl
  · rw [exec_wdataWrite_of_reached hw hi hreached, State.writeWdata_of_beyond hbeyond]
    exact State.done_of_quiet_flt hreached.quiet rfl rfl rfl

end

section
/-! SUPPORT. Host accesses by address (R27, R28), the status words of the fault collector (R504, R505) and the detection of a
source that is only reported (R508). -/

namespace Sys2Proof.Machine

open Sys2Proof.Spec

/-! ### Accesses by address (R27, R28) -/

/-- R268: an instance's index names it. -/
@[simp] theorem instOfIndex_instIndex (i : InstId) : instOfIndex (instIndex i) = some i := by
  obtain ⟨b, n⟩ := i
  cases b <;> revert n <;> decide

theorem instIndex_lt (i : InstId) : instIndex i < 8192 := by
  obtain ⟨b, n⟩ := i
  have hn := n.isLt
  cases b <;> simp only [instIndex, blockNo] <;> omega

/-- A register's address decodes to its instance and offset. -/
theorem decodeAddr_addrOf (i : InstId) {off : Nat} (h : off < 4096) : decodeAddr (addrOf i off) = some (i, off) := by
  have hi := instIndex_lt i
  have haddr : (addrOf i off).toNat = instIndex i * 4096 + off := by
    simp only [addrOf, BitVec.toNat_ofNat]; omega
  have hregion : instIndex i * 4096 + off < 33554432 := by omega
  have hindex : (instIndex i * 4096 + off) / 4096 = instIndex i := by omega
  have hoff : (instIndex i * 4096 + off) % 4096 = off := by omega
  simp [decodeAddr, haddr, hregion, hindex, hoff]

/-- A read by the PF of a register that can be reached is performed at once. -/
theorem exec_registerRead_of_reached {s : State} {i : InstId} {off : Nat} (hoff : off < 4096) (hdef : defined i off = true)
    (h : Reached s i) : exec (.registerRead 0 (addrOf i off)) s = s.done (s.performRead i off) := by
  have hat : s.hostReadAt 0 (addrOf i off) = s.hostAccess i off none := by
    simp [State.hostReadAt, decodeAddr_addrOf i hoff, hdef]
  calc exec (.registerRead 0 (addrOf i off)) s = s.done (s.hostReadAt 0 (addrOf i off)) := rfl
    _ = s.done (s.performRead i off) := by rw [hat, State.hostAccess_read_of_reached h]

/-- A write by the PF of a register of one instance that can be reached is performed at once. -/
theorem exec_registerWrite_of_reached {s : State} {i : InstId} {off : Nat} (hone : i.inst.val ≠ 15) (hoff : off < 4096)
    (hdef : defined i off = true) (h : Reached s i) (v : Word) :
    exec (.registerWrite 0 (addrOf i off) v) s = s.done (s.performWrite i off v) := by
  have hat : s.hostWriteAt 0 (addrOf i off) v = s.hostAccess i off (some v) := by
    simp [State.hostWriteAt, decodeAddr_addrOf i hoff, hdef, hone]
  calc exec (.registerWrite 0 (addrOf i off) v) s = s.done (s.hostWriteAt 0 (addrOf i off) v) := rfl
    _ = s.done (s.performWrite i off v) := by rw [hat, State.hostAccess_write_of_reached h]

/-! ### Reads of the status words (R505) -/

/-- The state after a read of a status word: the word it answers, and the frozen copy it leaves. -/
def State.statusRead (s : State) (v : Word) (frozen : Option (Word × Word)) : State :=
  { s with flt := { s.flt with frozen := frozen }, hif := { s.hif with readData := v } }

theorem State.readStat0_eq (s : State) :
    s.readStat0 = s.statusRead (s.reg flt4 R.FLT_STAT0) (some (s.reg flt4 R.FLT_STAT1, s.reg flt4 R.FLT_STAT2)) := rfl

theorem State.readStat1_eq (s : State) :
    s.readStat1 = s.statusRead ((s.flt.frozen.map Prod.fst).getD (s.reg flt4 R.FLT_STAT1)) s.flt.frozen := rfl

theorem State.readStat2_eq (s : State) :
    s.readStat2 = s.statusRead ((s.flt.frozen.map Prod.snd).getD (s.reg flt4 R.FLT_STAT2)) none := rfl

/-- A read of a status word is all that its command does. -/
theorem State.done_statusRead {s : State} (h : Quiet s) (v : Word) (frozen : Option (Word × Word)) :
    s.done (s.statusRead v frozen) = .next (s.statusRead v frozen) := by
  obtain ⟨⟨hraise, hrated⟩, hrun⟩ := h
  exact done_of_quiet s _ hrated hrun hraise rfl rfl

theorem exec_statusFreezeRead_of_reached {s : State} (h : Reached s flt4) : exec .statusFreezeRead s =
    .next (s.statusRead (s.reg flt4 R.FLT_STAT0) (some (s.reg flt4 R.FLT_STAT1, s.reg flt4 R.FLT_STAT2))) := by
  calc exec .statusFreezeRead s
    _ = s.done (s.access { inst := flt4, off := R.FLT_STAT0 } fun t => t.readStat0) := rfl
    _ = s.done s.readStat0 := by rw [State.access_of_reached h]
    _ = _ := by rw [s.readStat0_eq, State.done_statusRead h.quiet]

/-- A read of FLT_STAT1 answers the frozen word where there is one, and lets the frozen copy stand. -/
theorem exec_readStat1_of_reached {s : State} (h : Reached s flt4) :
    exec (.registerRead 0 (addrOf flt4 R.FLT_STAT1)) s =
      .next (s.statusRead ((s.flt.frozen.map Prod.fst).getD (s.reg flt4 R.FLT_STAT1)) s.flt.frozen) := by
  calc exec (.registerRead 0 (addrOf flt4 R.FLT_STAT1)) s
    _ = s.done (s.performRead flt4 R.FLT_STAT1) := exec_registerRead_of_reached (by decide) (by decide) h
    _ = s.done s.readStat1 := rfl
    _ = _ := by rw [s.readStat1_eq, State.done_statusRead h.quiet]

/-- A read of FLT_STAT2 answers the frozen word where there is one, and ends the freeze. -/
theorem exec_statusThawRead_of_reached {s : State} (h : Reached s flt4) : exec .statusThawRead s =
    .next (s.statusRead ((s.flt.frozen.map Prod.snd).getD (s.reg flt4 R.FLT_STAT2)) none) := by
  calc exec .statusThawRead s
    _ = s.done (s.access { inst := flt4, off := R.FLT_STAT2 } fun t => t.readStat2) := rfl
    _ = s.done s.readStat2 := by rw [State.access_of_reached h]
    _ = _ := by rw [s.readStat2_eq, State.done_statusRead h.quiet]

/-! ### Writes of the status words (R13, R505) -/

/-- Every bit of a status word is cleared by writing 1 to it. -/
theorem regRow_status (k : Fin 3) : regRow flt4 (4 * k.val) = some { off := 4 * k.val, w1c := 0xFFFFFFFF } := by
  revert k; decide

theorem hostWrite_w1c_all (off : Nat) (old v : Word) :
    hostWrite { off := off, w1c := 0xFFFFFFFF } old v = old &&& ~~~v := by
  have hall : old &&& 4294967295#32 = old := BitVec.and_allOnes
  simp [hostWrite, hall]

/-- A write of a register of FLT below FLT_ERRPIN has no effects beyond its fields. -/
theorem State.writeFlt_of_lt (s : State) {off : Nat} (h : off < R.FLT_ERRPIN) (v : Word) :
    s.writeFlt off v = s.plainWrite flt4 off v := by
  have hne : ∀ o, R.FLT_ERRPIN ≤ o → off ≠ o := fun o ho => Nat.ne_of_lt (Nat.lt_of_lt_of_le h ho)
  have hplain : s.writeFlt off v = s.writePlain flt4 off v := by
    simp (disch := decide) only [State.writeFlt, hne, if_false]
  simp [hplain, State.writePlain, eventRegs]

theorem State.performWrite_status (s : State) (k : Fin 3) (v : Word) :
    s.performWrite flt4 (4 * k.val) v = s.setReg flt4 (4 * k.val) (s.reg flt4 (4 * k.val) &&& ~~~v) := by
  have hwin : isWinReg flt4 (4 * k.val) = false := by revert k; decide
  have hlt : 4 * k.val < R.FLT_ERRPIN := by simp only [R.FLT_ERRPIN]; omega
  calc s.performWrite flt4 (4 * k.val) v
    _ = s.writeFlt (4 * k.val) v := by simp [State.performWrite, hwin]
    _ = s.plainWrite flt4 (4 * k.val) v := s.writeFlt_of_lt hlt v
    _ = _ := by simp only [State.plainWrite, regRow_status, hostWrite_w1c_all]

theorem exec_writeStatus_of_reached {s : State} (h : Reached s flt4) (k : Fin 3) (v : Word) :
    exec (.registerWrite 0 (addrOf flt4 (4 * k.val)) v) s =
      .next (s.setReg flt4 (4 * k.val) (s.reg flt4 (4 * k.val) &&& ~~~v)) := by
  have hoff : 4 * k.val < 4096 := by omega
  have hdef : defined flt4 (4 * k.val) = true := by simp [defined, regRow_status]
  rw [exec_registerWrite_of_reached (by decide) hoff hdef h, s.performWrite_status]
  exact State.done_of_quiet_flt h.quiet rfl rfl rfl

/-! ### Detection of a source that is only reported (R504, R508) -/

/-- With nothing noted the collector has nothing to do. -/
theorem State.collect_of_none_noted {s : State} (h : s.flt.toRaise = []) (n : Nat) : s.collect n = s := by
  cases n with
  | zero =>
    calc s.collect 0 = { s with flt := { s.flt with toRaise := [] } } := rfl
      _ = s := by rw [← h]
  | succ n => simp [State.collect, h]

/-- The one noted source is detected, and nothing else where its reactions note none. -/
theorem State.collect_noteFault {s : State} {src g : Nat} (h : s.flt.toRaise = []) (hsrc : src < 128)
    (hraise : (s.detect src g).flt.toRaise = []) (n : Nat) : (s.noteFault src g).collect (n + 1) = s.detect src g := by
  have hnoted : (s.noteFault src g).flt.toRaise = [src + 128 * g] := by simp [State.noteFault, h]
  have hpopped : { s.noteFault src g with flt := { (s.noteFault src g).flt with toRaise := [] } } = s := by
    simp only [State.noteFault]
    rw [← h]
  have hmod : (src + 128 * g) % 128 = src := by omega
  have hdiv : (src + 128 * g) / 128 = g := by omega
  simp only [State.collect, hnoted]
  rw [hpopped, hmod, hdiv, State.collect_of_none_noted hraise]

/-- R506: an item entering a FIFO changes only what the host interface holds. -/
theorem State.fifoEnter_eq (s : State) (f : Nat) (item : List Word) : ∃ h, s.fifoEnter f item = { s with hif := h } := by
  unfold State.fifoEnter
  split
  · exact (s.updFifo f _).sendMsi_eq 0 (42 + f)
  · exact ⟨_, rfl⟩

@[simp] theorem State.fifoEnter_flt (s : State) (f : Nat) (item : List Word) : (s.fifoEnter f item).flt = s.flt := by
  obtain ⟨h, e⟩ := s.fifoEnter_eq f item
  rw [e]

@[simp] theorem State.fifoEnter_regB (s : State) (f : Nat) (item : List Word) (i : InstId) (off k : Nat) :
    (s.fifoEnter f item).regB i off k = s.regB i off k := by
  obtain ⟨h, e⟩ := s.fifoEnter_eq f item
  rw [e]; rfl

/-- R505: a latch notes no further source, and leaves the frozen copy. -/
theorem State.latch_flt (s : State) (src : Nat) :
    (s.latch src).flt.toRaise = s.flt.toRaise ∧ (s.latch src).flt.frozen = s.flt.frozen := by
  constructor
  · simp [State.latch, apply_ite State.flt, apply_ite FltSt.toRaise]
  · simp [State.latch, apply_ite State.flt, apply_ite FltSt.frozen]

theorem State.regB_setRegB_same (s : State) (i : InstId) (off : Nat) {k : Nat} (h : k < 32) (b : Bool) :
    (s.setRegB i off k b).regB i off k = b := by
  rw [State.regB, State.setRegB, s.reg_setReg_same, bit, setBit_getLsbD _ _ _ _ h, if_pos rfl]

/-- R510: FLT_NMI is none of the status registers. -/
theorem State.regB_setRegB_nmi (s : State) {src : Nat} (h : src < 96) (k n : Nat) (b : Bool) :
    (s.setRegB flt4 R.FLT_NMI n b).regB flt4 (statOff src) k = s.regB flt4 (statOff src) k := by
  have hoff : statOff src < R.FLT_NMI := by simp only [statOff, R.FLT_NMI]; omega
  have hnmi : R.FLT_NMI < 4096 := by decide
  rw [State.regB, State.setRegB, s.reg_setReg_off flt4 _ _ _ hnmi (by omega) (by omega), State.regB]

/-- R504: a latch sets the bit of its source. -/
theorem State.isLatched_latch (s : State) {src : Nat} (h : src < 96) : isLatched (s.latch src) src = true := by
  have hk : src % 32 < 32 := by omega
  change (s.latch src).regB flt4 (statOff src) (src % 32) = true
  unfold State.latch
  extract_lets cfg was pending first marked counted item flt posted sent nmi
  have hmarked : marked.regB flt4 (statOff src) (src % 32) = true := first.regB_setRegB_same flt4 _ hk true
  have hcounted : counted.regB flt4 (statOff src) (src % 32) = true := hmarked
  have hposted : posted.regB flt4 (statOff src) (src % 32) = true := by
    unfold posted
    split
    · exact hcounted
    · split
      · rw [State.fifoEnter_regB]; exact hcounted
      · exact hcounted
  have hsent : sent.regB flt4 (statOff src) (src % 32) = true := by
    unfold sent
    split <;> simp [hposted]
  have hnmi : nmi.regB flt4 (statOff src) (src % 32) = true := by
    rw [State.regB_setRegB_nmi sent h]; exact hsent
  split
  · split <;> simp [hnmi]
  · exact hsent

/-- R499, R508: the reactions of a source that is only reported are those of the latch. -/
theorem State.detect_of_reportOnly {s : State} {src : Nat} (h : ReportOnly s src) (g : Nat) :
    s.detect src g = s.latch src := by
  obtain ⟨hcls, hpins, ⟨-, hrun⟩, hworks⟩ := h
  have hpin : ∀ k < 3, bit (s.srcCfg src) (6 + k) = false := by
    intro k hk
    have hk' := fld_testBit (s.srcCfg src) 6 3 k
    simpa [hpins, hk, bit] using hk'.symm
  have herr : bit (s.srcCfg src) 6 = false := hpin 0 (by decide)
  have hmuzzle : bit (s.srcCfg src) 7 = false := hpin 1 (by decide)
  have hsnap : bit (s.srcCfg src) 8 = false := hpin 2 (by decide)
  have hworks' : (decide (src < 84) && s.failed (Fin.ofNat 4 (src % 4))) = false :=
    Bool.and_eq_false_imp.2 fun hlt => hworks (of_decide_eq_true hlt)
  rw [State.detect, hrun, hworks', Bool.false_and, Bool.or_self, if_neg Bool.false_ne_true]
  obtain hcls | hcls : fld (s.srcCfg src) 0 3 = 0 ∨ fld (s.srcCfg src) 0 3 = 1 := by omega
  · simp [hcls, herr, hmuzzle, hsnap]
  · simp [hcls, herr, hmuzzle, hsnap]

/-- A source that is only reported is latched, and that is all that its detection does. -/
theorem exec_faultDetect_of_reportOnly {s : State} (hs : Quiet s) {src : Fin 96} (h : ReportOnly s src.val) (g : Fin 16) :
    exec (.faultDetect src g) s = .next { s.latch src.val with pending := s.pending, time := s.time } := by
  obtain ⟨⟨hraise, hrated⟩, hrun⟩ := hs
  have hdetect := State.detect_of_reportOnly h g.val
  have hleft : (s.detect src.val g.val).flt.toRaise = [] := by rw [hdetect, (s.latch_flt src.val).1, hraise]
  have hcollect := State.collect_noteFault hraise (by omega) hleft
  calc exec (.faultDetect src g) s = s.done (s.noteFault src.val g.val) := rfl
    _ = _ := by
      simp only [State.done, hrated, State.goesOn]
      simp [hcollect, hdetect, heldFrom_of_running _ _ hrun]

end Sys2Proof.Machine

open Sys2Proof Sys2Proof.Machine Sys2Proof.Spec

/-- Settles O57: each read of a status word is one `statusRead`, whose answer is the frozen word where there is one; a source that
is only reported is latched and leaves the frozen copy; a write clears bits of the live register. -/
theorem statusWordsFreeze : Obligations.StatusWordsFreeze := by
  unfold Obligations.StatusWordsFreeze
  intro s hs
  refine ⟨exec_statusFreezeRead_of_reached hs, ?frozen, ?live, ?detection, ?write⟩
  case frozen =>
    intro a b hfrozen
    constructor
    · rw [exec_readStat1_of_reached hs, hfrozen]; rfl
    · rw [exec_statusThawRead_of_reached hs, hfrozen]; rfl
  case live =>
    intro hfrozen
    constructor
    · rw [exec_readStat1_of_reached hs, hfrozen]; rfl
    · rw [exec_statusThawRead_of_reached hs, hfrozen]; rfl
  case detection =>
    intro src hreport
    exact ⟨_, exec_faultDetect_of_reportOnly hs.quiet hreport 15, s.isLatched_latch src.isLt, (s.latch_flt src.val).2⟩
  case write => exact exec_writeStatus_of_reached hs

end
